-- ==== Sys2Proof/Word.lean ====
section
/-! DEFINITION. The byte, and the fixed-size collections the gateway's tables are kept in. Byte order, field
extraction and every other helper a test could show wrong stand in `Machine/Operands.lean`. -/

namespace Sys2Proof

/-- One data byte of a frame, a message or a stored image. -/
abbrev Byte := BitVec 8

/-- A collection of `n` things given by position (the 16 channels, the 32 mirror positions, ...). -/
def tabulate {α : Type} (n : Nat) (f : Fin n → α) : Vector α n := ⟨⟨List.ofFn f⟩, by simp⟩

/-- Replace the thing at position `i`. -/
def put {α : Type} {n : Nat} (v : Vector α n) (i : Fin n) (x : α) : Vector α n := v.set i.val x i.isLt

/-- Replace every thing by what `f` makes of it. -/
def mapAll {α β : Type} {n : Nat} (v : Vector α n) (f : α → β) : Vector β n := tabulate n (fun i => f (v.get i))

end Sys2Proof
end

