-- ==== Sys2Proof/Syntax.lean ====
section
/-! DEFINITION. The commands: one constructor of `Instr` for each row of spec/opcode_table.json, with the
operands the row's event or request needs, and the types of those operands. -/

namespace Sys2Proof

/-- The three bus ports (00_scope, Ports and lines). -/
inductive Port where
  | W | E | C
deriving DecidableEq, Repr

/-- The two vehicle networks: a channel's target port, and the two metered ports. -/
inductive Net where
  | E | C
deriving DecidableEq, Repr

/-- The two management channels (R152). -/
inductive Mgmt where
  | W | C
deriving DecidableEq, Repr

/-- A frame identifier: value and format together (R1, the Conventions of 00_scope). -/
inductive Ident where
  | std (v : BitVec 11)
  | ext (v : BitVec 29)
deriving DecidableEq, Repr

/-- A frame as the gateway keeps it; its DLC is the count of its data bytes, 0 to 8. -/
structure Frame where
  id   : Ident
  data : List Byte
deriving DecidableEq, Repr

/-- A frame as it stands on a network: the data length code is 0 to 15 and the frame may be a remote
request (R1). -/
structure BusFrame where
  id     : Ident
  code   : BitVec 4
  data   : List Byte
  remote : Bool
deriving DecidableEq, Repr

/-- The levels of the three input lines at a start's first sample (R16): true is asserted. -/
structure Levels where
  tooldet : Bool
  ignon   : Bool
  stlock  : Bool
deriving DecidableEq, Repr

/-- What woke an ASLEEP part (R15). -/
inductive WakeCause where
  | frameStart (p : Port)
  | ignon
  | tooldet
deriving DecidableEq, Repr

/-- A segmented message in flight that has timers of its own: the one of a channel's exchange, of a management
channel's exchange, or of a management channel's side answer (R43, R53, R153). -/
inductive MessageRef where
  | channel (c : Fin 16)
  | management (m : Mgmt)
  | side (m : Mgmt)
deriving DecidableEq, Repr

/-- The commands. Reads, writes and the other management requests name the management channel whose complete
request they serve; the request's fields stand in that channel's request buffer (R152, R154). -/
inductive Instr where
  | coldStart (lines : Levels)
  | hotStart (lines : Levels)
  | frameReceived (p : Port) (f : BusFrame)
  | routerTakesFrame (p : Port)
  | mirrorIntervalExpiry (pos : Fin 32)
  | headFrameRelease (p : Net)
  | meterRefill
  | frameSent (p : Port)
  | transmissionLost (p : Port)
  | transmissionFailed (p : Port)
  | portRecovery (p : Port)
  | bitRateChangeEffect (p : Port)
  | ignonChange (level : Bool)
  | stlockChange (level : Bool)
  | tooldetRawChange (level : Bool)
  | tooldetDebounceComplete
  | quietTimerExpiry
  | enterAsleep
  | wake (cause : WakeCause) (lines : Levels)
  | replyTimerExpiry (c : Fin 16)
  | segmentTimerExpiry (r : MessageRef)
  | gapFollowOffer (r : MessageRef)
  | sideAnswerBegins (m : Mgmt)
  | managementReplyBegins (m : Mgmt)
  | identityRead (m : Mgmt)
  | statusRead (m : Mgmt)
  | attentionRead (m : Mgmt)
  | countersRead (m : Mgmt)
  | trafficList (m : Mgmt)
  | grantList (m : Mgmt)
  | tableRead (m : Mgmt)
  | recordRead (m : Mgmt)
  | accessRequest (m : Mgmt)
  | accessProof (m : Mgmt)
  | grantExtend (m : Mgmt)
  | grantRevoke (m : Mgmt)
  | credentialWrite (m : Mgmt)
  | credentialWithdraw (m : Mgmt)
  | tableWriteWorking (m : Mgmt)
  | tableWriteStored (m : Mgmt)
  | tableReload (m : Mgmt)
  | lockPolicyWrite (m : Mgmt)
  | recordAcknowledge (m : Mgmt)
  | restart (m : Mgmt)
  | restartReplyOffered
  | appendComplete (pass : Bool)
  | failureCountWriteComplete (pass : Bool)
  | tableEntryWriteComplete (pass : Bool)
  | credentialWriteComplete (pass : Bool)
  | credentialWithdrawComplete (pass : Bool)
  | lockPolicyWriteComplete (pass : Bool)
  | trimComplete (pass : Bool)
  | challengeValidityExpiry
  | digestComplete
  | lockoutExpiry
  | grantSecondsTimerExpiry (g : Fin 8)
  | acclmpToggle
  | graceTimerExpiry (w : Fin 2)
  | holdTimerExpiry (w : Fin 2)
  | idleTimerExpiry (w : Fin 2)
  | stalenessTimerExpiry (i : Fin 4)
  | partTimeTick
deriving DecidableEq, Repr

end Sys2Proof
end

