-- ==== Sys2Proof/Decode.lean ====
section
/-! DEFINITION. Commands as words. The part is no processor and no row of spec/opcode_table.json gives bits, so no
word spells a command: its commands are events and the messages its ports carry, whose bytes the Frame Router and the
Management Agent read (`Machine/Ssx.lean`, `Machine/Operands.lean`). -/

namespace Sys2Proof

/-- The command a word spells: none, since no row of the table has bits. -/
def decodeTableWord (_nbits _w : Nat) : Option Instr := none

end Sys2Proof
end

