-- ==== Sys2Proof/Machine/Tables.lean ====
section
/-! DEFINITION. The seven tables of R158: the types of their entries and their fallback content (R167). -/

namespace Sys2Proof.Machine

open Sys2Proof

/-- The bit rates of a port (R3). -/
inductive Rate where
  | kbit125 | kbit250 | kbit500 | kbit1000
deriving DecidableEq, Repr

/-- The lock policy (R162). -/
inductive LockPolicy where
  | unlocked   -- OPEN
  | line       -- LINE
  | frozen     -- FROZEN
deriving DecidableEq, Repr

/-- A request and a response identifier of one format (R17, R152). -/
inductive IdPair where
  | std (req resp : BitVec 11)
  | ext (req resp : BitVec 29)
deriving DecidableEq, Repr

/-- Port Settings (R3, R133, R152, R167). -/
structure PortSettings where
  rateW    : Rate
  rateE    : Rate
  rateC    : Rate
  shareE   : Nat
  depthE   : Nat
  shareC   : Nat
  depthC   : Nat
  wPair    : IdPair
  cEnabled : Bool
  cPair    : IdPair
  lock     : LockPolicy
deriving DecidableEq, Repr

/-- The classes of service code (R72). -/
inductive ServiceClass where
  | observe | clear | actuate | configure | reprogram | forbidden
deriving DecidableEq, Repr

/-- The roles of a REPROGRAM code (R72). -/
inductive Role where
  | opening   -- OPEN
  | block     -- BLOCK
  | closing   -- CLOSE
  | erase     -- ERASE
  | other     -- OTHER
deriving DecidableEq, Repr

/-- One Channel Table entry (R17). `openClasses`: bit 0 OBSERVE to bit 3 CONFIGURE. -/
structure ChannelEntry where
  live         : Bool
  port         : Net
  ids          : IdPair
  label        : Byte
  openClasses  : BitVec 4
  replyTimeout : Nat
  extTimeout   : Nat
  maxAllowance : Nat
  minGap       : Nat
deriving DecidableEq, Repr

/-- One Service Class Map entry (R72). -/
structure CodeEntry where
  cls  : ServiceClass
  role : Option Role
deriving DecidableEq, Repr

/-- One Class Policy entry (R75). `required`: bits 0 to 3 for C0 to C3, bit 4 for IGN. -/
structure PolicyEntry where
  grantNeeded : Bool
  required    : BitVec 5
deriving DecidableEq, Repr

/-- The tests of a watched signal (R81). -/
inductive SignalTest where
  | atMost | atLeast | equals | within
deriving DecidableEq, Repr

/-- One Signal Table entry (R81); `wide` is width 16, `little` byte order LITTLE. -/
structure SignalEntry where
  live   : Bool
  port   : Net
  id     : Ident
  offset : Nat
  wide   : Bool
  little : Bool
  stale  : Nat
  test   : SignalTest
  first  : Nat
  second : Nat
deriving DecidableEq, Repr

/-- A Mirror List position's identifier value and mask, of one format (R28). -/
inductive MatchId where
  | std (value mask : BitVec 11)
  | ext (value mask : BitVec 29)
deriving DecidableEq, Repr

/-- One Mirror List position (R28); `pass` is action PASS, otherwise BLOCK. -/
structure MirrorEntry where
  inUse    : Bool
  port     : Net
  ids      : MatchId
  pass     : Bool
  interval : Nat
deriving DecidableEq, Repr

/-- One explicit region of a Region Protection Map (R108). -/
structure Region where
  live     : Bool
  start    : Nat
  length   : Nat
  writeBar : Bool
  eraseBar : Bool
deriving DecidableEq, Repr

/-- One channel's Region Protection Map (R108); `top` is protect side TOP. -/
structure RegionMap where
  present    : Bool
  base       : Nat
  exponent   : Nat
  level      : Nat
  top        : Bool
  complement : Bool
  regions    : Vector Region 3
deriving DecidableEq, Repr

/-- The tables, in R158's order. -/
inductive TableId where
  | portSettings | channelTable | serviceClassMap | classPolicy | signalTable | mirrorList | regionMap
deriving DecidableEq, Repr

/-- One entry of one table, with its place. -/
inductive TableEntry where
  | portSettings (e : PortSettings)
  | channel (i : Fin 16) (e : ChannelEntry)
  | code (i : Fin 126) (e : CodeEntry)
  | policy (i : Fin 5) (e : PolicyEntry)
  | signal (i : Fin 4) (e : SignalEntry)
  | mirror (i : Fin 32) (e : MirrorEntry)
  | map (i : Fin 16) (e : RegionMap)
deriving DecidableEq, Repr

/-- The seven tables as one copy holds them. -/
structure Tables where
  ports    : PortSettings
  channels : Vector ChannelEntry 16
  codes    : Vector CodeEntry 126
  policies : Vector PolicyEntry 5
  signals  : Vector SignalEntry 4
  mirrors  : Vector MirrorEntry 32
  maps     : Vector RegionMap 16
deriving DecidableEq, Repr

/-- Port Settings at fallback content (R167). -/
def PortSettings.fallback : PortSettings :=
  { rateW := .kbit500, rateE := .kbit250, rateC := .kbit250, shareE := 10, depthE := 480, shareC := 10,
    depthC := 480, wPair := .std 0x6F0 0x6F8, cEnabled := false, cPair := .std 0x6F0 0x6F8, lock := .line }

/-- A Channel Table entry at fallback content (R17). -/
def ChannelEntry.fallback : ChannelEntry :=
  { live := false, port := .E, ids := .std 0 0, label := 0, openClasses := 0, replyTimeout := 150,
    extTimeout := 5, maxAllowance := 63, minGap := 0 }

/-- A Service Class Map entry at fallback content (R72). -/
def CodeEntry.fallback : CodeEntry := { cls := .forbidden, role := none }

/-- A Class Policy entry at fallback content (R75). -/
def PolicyEntry.fallback : PolicyEntry := { grantNeeded := true, required := 0x1F }

/-- A Signal Table entry at fallback content (R81). -/
def SignalEntry.fallback : SignalEntry :=
  { live := false, port := .E, id := .std 0, offset := 0, wide := false, little := false, stale := 100,
    test := .atMost, first := 0, second := 0 }

/-- An unused Mirror List position (R28). DESIGN CHOICE (log 9): the fields of an unused position. -/
def MirrorEntry.fallback : MirrorEntry :=
  { inUse := false, port := .E, ids := .std 0 0, pass := true, interval := 0 }

/-- A region that is not live, at fallback content (R108). -/
def Region.fallback : Region := { live := false, start := 0, length := 0, writeBar := false, eraseBar := false }

/-- A Region Protection Map at fallback content (R108). DESIGN CHOICE (log 9): base and exponent, which the
rule does not read while the descriptor is absent, are 0. -/
def RegionMap.fallback : RegionMap :=
  { present := false, base := 0, exponent := 0, level := 0, top := false, complement := false,
    regions := Vector.replicate 3 Region.fallback }

/-- Every table at fallback content (R167). -/
def Tables.fallback : Tables :=
  { ports := .fallback, channels := Vector.replicate 16 .fallback, codes := Vector.replicate 126 .fallback,
    policies := Vector.replicate 5 .fallback, signals := Vector.replicate 4 .fallback,
    mirrors := Vector.replicate 32 .fallback, maps := Vector.replicate 16 .fallback }

end Sys2Proof.Machine
end

