-- ==== Sys2Proof/Machine/Operands.lean ====
section
/-! DEFINITION. Bytes in and out: byte order, field extraction, and the entry images of the seven tables
(R168, R171), each with its reader and the field checks of its own rule (step 3 of R159). -/

namespace Sys2Proof.Machine

open Sys2Proof

/-- A byte of value `n`. -/
def byte (n : Nat) : Byte := BitVec.ofNat 8 n

/-- `n` in `k` bytes, the most significant first (R168). -/
def beBytes : Nat → Nat → List Byte
  | 0, _ => []
  | k + 1, n => beBytes k (n / 256) ++ [byte n]

/-- The number that bytes spell, the most significant first (R168). -/
def beNat (bs : List Byte) : Nat := bs.foldl (fun a b => a * 256 + b.toNat) 0

/-- The `k`-byte number at byte `i` of a message or an image. -/
def fieldAt (bs : List Byte) (i k : Nat) : Nat := beNat ((bs.drop i).take k)

/-- A yes/no field (R168). -/
def yesNoByte (b : Bool) : Byte := if b then 1 else 0

/-- A yes/no field read back: a value beyond 1 is outside its meaning (R168). -/
def yesNo (n : Nat) : Option Bool :=
  if n = 0 then some false else if n = 1 then some true else none

/-! ### Identifiers -/

/-- The identifier's number. -/
def identNumber : Ident → Nat
  | .std v => v.toNat
  | .ext v => v.toNat

/-- The format as a named value: standard 0, extended 1 (R168). -/
def identFormat : Ident → Byte
  | .std _ => 0
  | .ext _ => 1

/-- An identifier of the format numbered `fmt`, within its width. -/
def readIdent (fmt n : Nat) : Option Ident :=
  if fmt = 0 then (if n ≤ 0x7FF then some (.std (BitVec.ofNat 11 n)) else none)
  else if fmt = 1 then (if n ≤ 0x1FFFFFFF then some (.ext (BitVec.ofNat 29 n)) else none)
  else none

def IdPair.request : IdPair → Ident
  | .std a _ => .std a
  | .ext a _ => .ext a

def IdPair.response : IdPair → Ident
  | .std _ b => .std b
  | .ext _ b => .ext b

/-- Format, request and response identifier of a pair (R168: an identifier takes 4 bytes). -/
def pairBytes (p : IdPair) : List Byte :=
  identFormat p.request :: beBytes 4 (identNumber p.request) ++ beBytes 4 (identNumber p.response)

/-- A pair of the format numbered `fmt`, both identifiers within its width (R18). -/
def readPair (fmt a b : Nat) : Option IdPair :=
  if fmt = 0 then
    (if a ≤ 0x7FF ∧ b ≤ 0x7FF then some (.std (BitVec.ofNat 11 a) (BitVec.ofNat 11 b)) else none)
  else if fmt = 1 then
    (if a ≤ 0x1FFFFFFF ∧ b ≤ 0x1FFFFFFF then some (.ext (BitVec.ofNat 29 a) (BitVec.ofNat 29 b)) else none)
  else none

/-! ### Named values: a position in the list that defines them (R168) -/

def rateByte : Rate → Byte
  | .kbit125 => 0 | .kbit250 => 1 | .kbit500 => 2 | .kbit1000 => 3

def readRate (n : Nat) : Option Rate :=
  match n with
  | 0 => some .kbit125 | 1 => some .kbit250 | 2 => some .kbit500 | 3 => some .kbit1000 | _ => none

/-- The bit rate in kbit/s (R3). -/
def rateKbit : Rate → Nat
  | .kbit125 => 125 | .kbit250 => 250 | .kbit500 => 500 | .kbit1000 => 1000

def lockByte : LockPolicy → Byte
  | .unlocked => 0 | .line => 1 | .frozen => 2

def readLock (n : Nat) : Option LockPolicy :=
  match n with
  | 0 => some .unlocked | 1 => some .line | 2 => some .frozen | _ => none

/-- The port byte of a channel, a signal and a mirror position: its place in the list "E or C" (R168; DEDUCED,
log 41). -/
def netByte : Net → Byte
  | .E => 0 | .C => 1

def readNet (n : Nat) : Option Net :=
  match n with
  | 0 => some .E | 1 => some .C | _ => none

def classByte : ServiceClass → Byte
  | .observe => 0 | .clear => 1 | .actuate => 2 | .configure => 3 | .reprogram => 4 | .forbidden => 5

def readClass (n : Nat) : Option ServiceClass :=
  match n with
  | 0 => some .observe | 1 => some .clear | 2 => some .actuate | 3 => some .configure | 4 => some .reprogram
  | 5 => some .forbidden | _ => none

/-- A role, all ones when absent (R168). -/
def roleByte : Option Role → Byte
  | some .opening => 0 | some .block => 1 | some .closing => 2 | some .erase => 3 | some .other => 4
  | none => 0xFF

def readRole (n : Nat) : Option (Option Role) :=
  match n with
  | 0 => some (some .opening) | 1 => some (some .block) | 2 => some (some .closing) | 3 => some (some .erase)
  | 4 => some (some .other) | 255 => some none | _ => none

def testByte : SignalTest → Byte
  | .atMost => 0 | .atLeast => 1 | .equals => 2 | .within => 3

def readTest (n : Nat) : Option SignalTest :=
  match n with
  | 0 => some .atMost | 1 => some .atLeast | 2 => some .equals | 3 => some .within | _ => none

/-! ### Port Settings, 29 bytes (R168); ranges by R133, R138, R159 -/

def encodePortSettings (e : PortSettings) : List Byte :=
  [rateByte e.rateW, rateByte e.rateE, rateByte e.rateC] ++ beBytes 1 e.shareE ++ beBytes 2 e.depthE ++
    beBytes 1 e.shareC ++ beBytes 2 e.depthC ++ pairBytes e.wPair ++ yesNoByte e.cEnabled :: pairBytes e.cPair ++
    [lockByte e.lock]

def decodePortSettings (b : List Byte) : Option PortSettings :=
  if b.length ≠ 29 then none
  else
    match readRate (fieldAt b 0 1), readRate (fieldAt b 1 1), readRate (fieldAt b 2 1),
      readPair (fieldAt b 9 1) (fieldAt b 10 4) (fieldAt b 14 4), yesNo (fieldAt b 18 1),
      readPair (fieldAt b 19 1) (fieldAt b 20 4) (fieldAt b 24 4), readLock (fieldAt b 28 1) with
    | some rw, some re, some rc, some wp, some ce, some cp, some lk =>
      let shE := fieldAt b 3 1
      let dpE := fieldAt b 4 2
      let shC := fieldAt b 6 1
      let dpC := fieldAt b 7 2
      if 1 ≤ shE ∧ shE ≤ 80 ∧ 160 ≤ dpE ∧ dpE ≤ 10000 ∧ 1 ≤ shC ∧ shC ≤ 80 ∧ 160 ≤ dpC ∧ dpC ≤ 10000 then
        some { rateW := rw, rateE := re, rateC := rc, shareE := shE, depthE := dpE, shareC := shC, depthC := dpC,
               wPair := wp, cEnabled := ce, cPair := cp, lock := lk }
      else none
    | _, _, _, _, _, _, _ => none

/-! ### A Channel Table entry, 16 bytes (R171); ranges by R18 -/

def encodeChannel (e : ChannelEntry) : List Byte :=
  byte ((if e.live then 128 else 0) + (netByte e.port).toNat * 64 + (identFormat e.ids.request).toNat * 32) ::
    beBytes 4 (identNumber e.ids.request) ++ beBytes 4 (identNumber e.ids.response) ++
    [e.label, byte e.openClasses.toNat] ++ beBytes 2 e.replyTimeout ++ beBytes 1 e.extTimeout ++
    beBytes 1 e.maxAllowance ++ beBytes 1 e.minGap

def decodeChannel (b : List Byte) : Option ChannelEntry :=
  if b.length ≠ 16 then none
  else
    let head := fieldAt b 0 1
    let opens := fieldAt b 10 1
    let rto := fieldAt b 11 2
    let xto := fieldAt b 13 1
    let allow := fieldAt b 14 1
    let gap := fieldAt b 15 1
    match readNet (head / 64 % 2), readPair (head / 32 % 2) (fieldAt b 1 4) (fieldAt b 5 4) with
    | some port, some ids =>
      if head % 32 = 0 ∧ opens < 16 ∧ 25 ≤ rto ∧ rto ≤ 2500 ∧ 1 ≤ xto ∧ xto ≤ 60 ∧ 1 ≤ allow ∧ allow ≤ 63 ∧
          gap ≤ 127 ∧ ¬(128 ≤ head ∧ ids.request = ids.response) then
        some { live := decide (128 ≤ head), port := port, ids := ids, label := byte (fieldAt b 9 1),
               openClasses := BitVec.ofNat 4 opens, replyTimeout := rto, extTimeout := xto,
               maxAllowance := allow, minGap := gap }
      else none
    | _, _ => none

/-! ### A Service Class Map entry, 2 bytes; a role exactly for REPROGRAM (R73) -/

def encodeCode (e : CodeEntry) : List Byte := [classByte e.cls, roleByte e.role]

def decodeCode (b : List Byte) : Option CodeEntry :=
  if b.length ≠ 2 then none
  else
    match readClass (fieldAt b 0 1), readRole (fieldAt b 1 1) with
    | some c, some r => if decide (c = .reprogram) = r.isSome then some { cls := c, role := r } else none
    | _, _ => none

/-! ### A Class Policy entry, 2 bytes; the REPROGRAM entry (position 4) needs a grant (R75) -/

def encodePolicy (e : PolicyEntry) : List Byte := [yesNoByte e.grantNeeded, byte e.required.toNat]

def decodePolicy (i : Fin 5) (b : List Byte) : Option PolicyEntry :=
  if b.length ≠ 2 then none
  else
    match yesNo (fieldAt b 0 1) with
    | some g =>
      if fieldAt b 1 1 < 32 ∧ ¬(i = 4 ∧ g = false) then
        some { grantNeeded := g, required := BitVec.ofNat 5 (fieldAt b 1 1) }
      else none
    | none => none

/-! ### A Signal Table entry, 17 bytes; ranges by R81. DESIGN CHOICE (log 10): the width, given as
"8 or 16 bits", is a named value, 0 for 8 and 1 for 16. -/

def encodeSignal (e : SignalEntry) : List Byte :=
  [yesNoByte e.live, netByte e.port, identFormat e.id] ++ beBytes 4 (identNumber e.id) ++
    [byte e.offset, yesNoByte e.wide, yesNoByte e.little] ++ beBytes 2 e.stale ++ [testByte e.test] ++
    beBytes 2 e.first ++ beBytes 2 e.second

def decodeSignal (b : List Byte) : Option SignalEntry :=
  if b.length ≠ 17 then none
  else
    match yesNo (fieldAt b 0 1), readNet (fieldAt b 1 1), readIdent (fieldAt b 2 1) (fieldAt b 3 4),
      yesNo (fieldAt b 8 1), yesNo (fieldAt b 9 1), readTest (fieldAt b 12 1) with
    | some lv, some port, some id, some wide, some little, some t =>
      let off := fieldAt b 7 1
      let st := fieldAt b 10 2
      let lo := fieldAt b 13 2
      let hi := fieldAt b 15 2
      if off ≤ 7 ∧ ¬(wide = true ∧ off = 7) ∧ 100 ≤ st ∧ st ≤ 2000 ∧
          (wide = true ∨ (lo ≤ 255 ∧ hi ≤ 255)) ∧ ¬(t = .within ∧ hi < lo) then
        some { live := lv, port := port, id := id, offset := off, wide := wide, little := little, stale := st,
               test := t, first := lo, second := hi }
      else none
    | _, _, _, _, _, _ => none

/-! ### A Mirror List position, 14 bytes; ranges by R28 -/

def matchValue : MatchId → Nat
  | .std v _ => v.toNat
  | .ext v _ => v.toNat

def matchMask : MatchId → Nat
  | .std _ k => k.toNat
  | .ext _ k => k.toNat

def matchFormat : MatchId → Byte
  | .std _ _ => 0
  | .ext _ _ => 1

def encodeMirror (e : MirrorEntry) : List Byte :=
  [yesNoByte e.inUse, netByte e.port, matchFormat e.ids] ++ beBytes 4 (matchValue e.ids) ++
    beBytes 4 (matchMask e.ids) ++ [yesNoByte (!e.pass)] ++ beBytes 2 e.interval

def readMatch (fmt v k : Nat) : Option MatchId :=
  if fmt = 0 then
    (if v ≤ 0x7FF ∧ k ≤ 0x7FF then some (.std (BitVec.ofNat 11 v) (BitVec.ofNat 11 k)) else none)
  else if fmt = 1 then
    (if v ≤ 0x1FFFFFFF ∧ k ≤ 0x1FFFFFFF then some (.ext (BitVec.ofNat 29 v) (BitVec.ofNat 29 k)) else none)
  else none

def decodeMirror (b : List Byte) : Option MirrorEntry :=
  if b.length ≠ 14 then none
  else
    match yesNo (fieldAt b 0 1), readNet (fieldAt b 1 1),
      readMatch (fieldAt b 2 1) (fieldAt b 3 4) (fieldAt b 7 4), yesNo (fieldAt b 11 1) with
    | some u, some port, some ids, some blocks =>
      if fieldAt b 12 2 ≤ 1000 then
        some { inUse := u, port := port, ids := ids, pass := !blocks, interval := fieldAt b 12 2 }
      else none
    | _, _, _, _ => none

/-! ### A Region Protection Map, 42 bytes; ranges by R108 -/

/-- A region, 11 bytes. DESIGN CHOICE (log 58): each mark is a yes/no byte, set 1 and clear 0. -/
def encodeRegion (r : Region) : List Byte :=
  yesNoByte r.live :: beBytes 4 r.start ++ beBytes 4 r.length ++ [yesNoByte r.writeBar, yesNoByte r.eraseBar]

/-- A region read back; a mark that is neither 0 nor 1 has no reading (R168; log 58). -/
def decodeRegion (b : List Byte) : Option Region :=
  match yesNo (fieldAt b 0 1), yesNo (fieldAt b 9 1), yesNo (fieldAt b 10 1) with
  | some lv, some w, some e =>
    let st := fieldAt b 1 4
    let ln := fieldAt b 5 4
    if lv = false ∨ (st % 256 = 0 ∧ ln % 256 = 0 ∧ 256 ≤ ln ∧ ln ≤ 2 ^ 32 - 256 ∧ st + ln ≤ 2 ^ 32) then
      some { live := lv, start := st, length := ln, writeBar := w, eraseBar := e }
    else none
  | _, _, _ => none

def encodeMap (m : RegionMap) : List Byte :=
  yesNoByte m.present :: beBytes 4 m.base ++
    [byte m.exponent, byte m.level, yesNoByte (!m.top), yesNoByte m.complement] ++
    encodeRegion (m.regions.get 0) ++ encodeRegion (m.regions.get 1) ++ encodeRegion (m.regions.get 2)

def decodeMap (b : List Byte) : Option RegionMap :=
  if b.length ≠ 42 then none
  else
    match yesNo (fieldAt b 0 1), yesNo (fieldAt b 7 1), yesNo (fieldAt b 8 1),
      decodeRegion ((b.drop 9).take 11), decodeRegion ((b.drop 20).take 11), decodeRegion ((b.drop 31).take 11) with
    | some pr, some bottom, some cm, some r0, some r1, some r2 =>
      let base := fieldAt b 1 4
      let s := fieldAt b 5 1
      if fieldAt b 6 1 ≤ 8 ∧ (pr = false ∨ (base % 4096 = 0 ∧ 12 ≤ s ∧ s ≤ 28 ∧ base + 2 ^ s ≤ 2 ^ 32)) then
        some { present := pr, base := base, exponent := s, level := fieldAt b 6 1, top := !bottom,
               complement := cm, regions := #v[r0, r1, r2] }
      else none
    | _, _, _, _, _, _ => none

/-! ### Tables and entries by number (R158, R168) -/

def tableNumber : TableId → Nat
  | .portSettings => 0 | .channelTable => 1 | .serviceClassMap => 2 | .classPolicy => 3 | .signalTable => 4
  | .mirrorList => 5 | .regionMap => 6

def readTable (n : Nat) : Option TableId :=
  match n with
  | 0 => some .portSettings | 1 => some .channelTable | 2 => some .serviceClassMap | 3 => some .classPolicy
  | 4 => some .signalTable | 5 => some .mirrorList | 6 => some .regionMap | _ => none

/-- The table's place among the seven. -/
def tableFin : TableId → Fin 7
  | .portSettings => 0 | .channelTable => 1 | .serviceClassMap => 2 | .classPolicy => 3 | .signalTable => 4
  | .mirrorList => 5 | .regionMap => 6

def tableOf : TableEntry → TableId
  | .portSettings _ => .portSettings
  | .channel _ _ => .channelTable
  | .code _ _ => .serviceClassMap
  | .policy _ _ => .classPolicy
  | .signal _ _ => .signalTable
  | .mirror _ _ => .mirrorList
  | .map _ _ => .regionMap

/-- How many entries a table has (R158). -/
def tableSize : TableId → Nat
  | .portSettings => 1 | .channelTable => 16 | .serviceClassMap => 126 | .classPolicy => 5 | .signalTable => 4
  | .mirrorList => 32 | .regionMap => 16

/-- The bytes of one entry image (R168). -/
def imageLength : TableId → Nat
  | .portSettings => 29 | .channelTable => 16 | .serviceClassMap => 2 | .classPolicy => 2 | .signalTable => 17
  | .mirrorList => 14 | .regionMap => 42

/-- The place in its table of the entry a request numbers `n`; Service Class Map entries are numbered by their
code, from 1 (R158). `none`: the table has no such entry. -/
def entryIndex (t : TableId) (n : Nat) : Option Nat :=
  match t with
  | .serviceClassMap => if 1 ≤ n ∧ n ≤ 126 then some (n - 1) else none
  | _ => if n < tableSize t then some n else none

/-- The number a request gives the entry at place `i`. -/
def entryNumber (t : TableId) (i : Nat) : Nat :=
  match t with
  | .serviceClassMap => i + 1
  | _ => i

/-- The place of an entry in its table. -/
def entryPlace : TableEntry → Nat
  | .portSettings _ => 0
  | .channel i _ => i.val
  | .code i _ => i.val
  | .policy i _ => i.val
  | .signal i _ => i.val
  | .mirror i _ => i.val
  | .map i _ => i.val

/-- An entry's image (R168). -/
def encodeEntry : TableEntry → List Byte
  | .portSettings e => encodePortSettings e
  | .channel _ e => encodeChannel e
  | .code _ e => encodeCode e
  | .policy _ e => encodePolicy e
  | .signal _ e => encodeSignal e
  | .mirror _ e => encodeMirror e
  | .map _ e => encodeMap e

/-- Steps 2 and 3 of R159: the entry that table, entry number and image name, if the entry exists and each of its
fields is in range. `none` is BAD_ENTRY. -/
def readEntry (t : TableId) (n : Nat) (img : List Byte) : Option TableEntry :=
  match t with
  | .portSettings => if n = 0 then (decodePortSettings img).map .portSettings else none
  | .channelTable => if h : n < 16 then (decodeChannel img).map (.channel ⟨n, h⟩) else none
  | .serviceClassMap =>
    if h : 1 ≤ n ∧ n ≤ 126 then (decodeCode img).map (.code ⟨n - 1, by omega⟩) else none
  | .classPolicy => if h : n < 5 then (decodePolicy ⟨n, h⟩ img).map (.policy ⟨n, h⟩) else none
  | .signalTable => if h : n < 4 then (decodeSignal img).map (.signal ⟨n, h⟩) else none
  | .mirrorList => if h : n < 32 then (decodeMirror img).map (.mirror ⟨n, h⟩) else none
  | .regionMap => if h : n < 16 then (decodeMap img).map (.map ⟨n, h⟩) else none

/-- The entry of a copy at a place (0 for a place the table has not). -/
def Tables.entry (tb : Tables) (t : TableId) (i : Nat) : TableEntry :=
  match t with
  | .portSettings => .portSettings tb.ports
  | .channelTable => .channel (Fin.ofNat 16 i) (tb.channels.get (Fin.ofNat 16 i))
  | .serviceClassMap => .code (Fin.ofNat 126 i) (tb.codes.get (Fin.ofNat 126 i))
  | .classPolicy => .policy (Fin.ofNat 5 i) (tb.policies.get (Fin.ofNat 5 i))
  | .signalTable => .signal (Fin.ofNat 4 i) (tb.signals.get (Fin.ofNat 4 i))
  | .mirrorList => .mirror (Fin.ofNat 32 i) (tb.mirrors.get (Fin.ofNat 32 i))
  | .regionMap => .map (Fin.ofNat 16 i) (tb.maps.get (Fin.ofNat 16 i))

/-- A copy with one entry replaced. -/
def Tables.withEntry (tb : Tables) : TableEntry → Tables
  | .portSettings e => { tb with ports := e }
  | .channel i e => { tb with channels := put tb.channels i e }
  | .code i e => { tb with codes := put tb.codes i e }
  | .policy i e => { tb with policies := put tb.policies i e }
  | .signal i e => { tb with signals := put tb.signals i e }
  | .mirror i e => { tb with mirrors := put tb.mirrors i e }
  | .map i e => { tb with maps := put tb.maps i e }

/-- The entry images of one table, in entry order: the bytes of its stored image before the check word (R168). -/
def Tables.images (tb : Tables) (t : TableId) : List (List Byte) :=
  (List.range (tableSize t)).map (fun i => encodeEntry (tb.entry t i))

/-! ### Stored images and their check words (R164) -/

/-- 65535 less the sum, modulo 65536, of every byte of an image (R164). -/
def checkWord (images : List (List Byte)) : BitVec 16 :=
  BitVec.ofNat 16 (65535 - (images.flatten.foldl (fun a b => a + b.toNat) 0) % 65536)

/-- The stored image of a credential slot: its state and its key (R87, R164). DESIGN CHOICE (log 26): the manual lays
out no image of a slot, of the failure count or of the numbering mark. -/
def slotImage (state : Nat) (key : BitVec 128) : List Byte := byte state :: beBytes 16 key.toNat

/-- The stored image of the failure count (R97, R164; log 26). -/
def countImage (n : Nat) : List Byte := beBytes 1 n

/-- The stored image of the numbering mark (R149, R164; log 26). -/
def markImage (n : Nat) : List Byte := beBytes 4 n

/-- The entry image at a place of a stored image. -/
def imageAt (images : List (List Byte)) (i : Nat) : List Byte := images.getD i []

/-- One table's content as its entry images give it; an image that no write could have made reads as fallback. -/
def tableFrom (t : TableId) (images : List (List Byte)) (tb : Tables) : Tables :=
  match t with
  | .portSettings => { tb with ports := (decodePortSettings (imageAt images 0)).getD .fallback }
  | .channelTable =>
    { tb with channels := tabulate 16 (fun i => (decodeChannel (imageAt images i.val)).getD .fallback) }
  | .serviceClassMap =>
    { tb with codes := tabulate 126 (fun i => (decodeCode (imageAt images i.val)).getD .fallback) }
  | .classPolicy =>
    { tb with policies := tabulate 5 (fun i => (decodePolicy i (imageAt images i.val)).getD .fallback) }
  | .signalTable =>
    { tb with signals := tabulate 4 (fun i => (decodeSignal (imageAt images i.val)).getD .fallback) }
  | .mirrorList =>
    { tb with mirrors := tabulate 32 (fun i => (decodeMirror (imageAt images i.val)).getD .fallback) }
  | .regionMap =>
    { tb with maps := tabulate 16 (fun i => (decodeMap (imageAt images i.val)).getD .fallback) }

/-- One table of `src` put into `tb`. -/
def Tables.take (tb : Tables) (t : TableId) (src : Tables) : Tables :=
  match t with
  | .portSettings => { tb with ports := src.ports }
  | .channelTable => { tb with channels := src.channels }
  | .serviceClassMap => { tb with codes := src.codes }
  | .classPolicy => { tb with policies := src.policies }
  | .signalTable => { tb with signals := src.signals }
  | .mirrorList => { tb with mirrors := src.mirrors }
  | .regionMap => { tb with maps := src.maps }

/-- The tables in R158's order. -/
def allTables : List TableId :=
  [.portSettings, .channelTable, .serviceClassMap, .classPolicy, .signalTable, .mirrorList, .regionMap]

end Sys2Proof.Machine
end

