-- ==== Sys2Proof/Machine/Digest.lean ====
section
/-! DEFINITION. The keyed hash of the proof (R92): HMAC-SHA-256. The rule names the hash and does not define it.
PRESUMED (log 6): its constants and steps are those of the published standards (FIPS 180-4, RFC 2104). -/

namespace Sys2Proof.Machine

open Sys2Proof

/-- A word of the hash. -/
abbrev HashWord := BitVec 32

/-! ### The constants, worked out from their definition

The standard takes its constants from the fractional parts of roots of the first primes; the model works them out,
so that no table of them has to be trusted. -/

/-- The largest `r` below `bound + 2 ^ bits` with `r ^ power ≤ n`, found bit by bit from `bound` on. -/
def rootBelow (power n : Nat) : Nat → Nat → Nat
  | 0, bound => bound
  | bits + 1, bound =>
    rootBelow power n bits (if (bound + 2 ^ bits) ^ power ≤ n then bound + 2 ^ bits else bound)

/-- The first 32 bits of the fractional part of the root of a number below 2 ^ 12, of power 2 or 3. -/
def rootFraction (power n : Nat) : HashWord := BitVec.ofNat 32 (rootBelow power (n * 2 ^ (32 * power)) 38 0)

/-- Whether no number from 2 up to 17 divides `n`, but `n` itself: primality below 324. -/
def smallPrime (n : Nat) : Bool := (List.range 16).all (fun d => n % (d + 2) != 0 || n == d + 2)

/-- The 64 primes below 312. -/
def hashPrimes : List Nat := ((List.range 310).map (· + 2)).filter smallPrime

/-! ### The compression -/

/-- The words of the schedule that follow the block's 16: each from those 2, 7, 15 and 16 places before it (`back` holds
the words so far, newest first). -/
def stretch (back : List HashWord) : Nat → List HashWord
  | 0 => back.reverse
  | left + 1 =>
    let near := back.getD 1 0
    let far := back.getD 14 0
    stretch
      ((back.getD 15 0 + (far.rotateRight 7 ^^^ far.rotateRight 18 ^^^ far >>> 3) + back.getD 6 0 +
        (near.rotateRight 17 ^^^ near.rotateRight 19 ^^^ near >>> 10)) :: back) left

/-- The eight working words as two runs of four, each newest first: a round puts one new word before each run, and the
oldest of each drops out. -/
structure HashRun where
  upper : List HashWord
  lower : List HashWord
deriving DecidableEq, Repr

/-- The sum of a round that both new words share. -/
def lowerMix (r : HashRun) (constant word : HashWord) : HashWord :=
  let e := r.lower.getD 0 0
  let pick := (r.lower.getD 1 0 &&& e) ||| (r.lower.getD 2 0 &&& ~~~e)
  r.lower.getD 3 0 + (e.rotateRight 6 ^^^ e.rotateRight 11 ^^^ e.rotateRight 25) + pick + constant + word

/-- The sum of a round that only the new upper word takes. -/
def upperMix (r : HashRun) : HashWord :=
  let a := r.upper.getD 0 0
  let b := r.upper.getD 1 0
  let c := r.upper.getD 2 0
  (a.rotateRight 2 ^^^ a.rotateRight 13 ^^^ a.rotateRight 22) + ((a &&& (b ||| c)) ||| (b &&& c))

/-- One round, with its constant and its word of the schedule. -/
def hashRound (r : HashRun) (step : HashWord × HashWord) : HashRun :=
  let mix := lowerMix r step.1 step.2
  { upper := (mix + upperMix r) :: r.upper.take 3, lower := (r.upper.getD 3 0 + mix) :: r.lower.take 3 }

/-- The words of a string of whole words, `n` of them. -/
def hashWords (bytes : List Byte) (n : Nat) : List HashWord :=
  (List.range n).map (fun i => BitVec.ofNat 32 (beNat ((bytes.drop (4 * i)).take 4)))

/-- A hash value once a block of 64 bytes has been worked into it. -/
def workBlock (constants : List HashWord) (value : HashRun) (block : List Byte) : HashRun :=
  let done := (constants.zip (stretch (hashWords block 16).reverse 48)).foldl hashRound value
  { upper := List.zipWith (· + ·) value.upper done.upper, lower := List.zipWith (· + ·) value.lower done.lower }

/-- The hash value before the first block: of the first eight primes, four words a run. -/
def hashStart : HashRun :=
  let roots := (hashPrimes.take 8).map (rootFraction 2)
  { upper := roots.take 4, lower := roots.drop 4 }

/-- A message filled up to whole blocks: the byte 0x80, as few zeros as it takes, and the message's length in bits in the
last 8 bytes. -/
def hashPadded (msg : List Byte) : List Byte :=
  let zeros := (64 - (msg.length + 9) % 64) % 64
  (msg ++ byte 0x80 :: List.replicate zeros 0) ++ beBytes 8 (msg.length * 8)

/-- SHA-256 of a message. -/
def sha256 (msg : List Byte) : List Byte :=
  let filled := hashPadded msg
  let constants := hashPrimes.map (rootFraction 3)
  let value := (List.range (filled.length / 64)).foldl
    (fun v i => workBlock constants v ((filled.drop (64 * i)).take 64)) hashStart
  (value.upper ++ value.lower).flatMap (fun w => beBytes 4 w.toNat)

/-- A key of at most 64 bytes, padded to a block and mixed with a byte. -/
def hmacPad (key : List Byte) (b : Byte) : List Byte :=
  (key ++ List.replicate (64 - key.length) (byte 0)).map (fun k => k ^^^ b)

/-- HMAC-SHA-256 of a message under a key of at most 64 bytes. -/
def hmacSha256 (key msg : List Byte) : List Byte :=
  sha256 (hmacPad key 0x5c ++ sha256 (hmacPad key 0x36 ++ msg))

/-- The proof tag: the first 8 bytes of the keyed hash (R92). -/
def proofTag (key msg : List Byte) : List Byte := (hmacSha256 key msg).take 8

/-- The 18-byte proof message (R92): challenge, serial, slot, channel set, class set, clamped duration. -/
def proofMessage (challenge : BitVec 32) (serial : BitVec 64) (slot : Nat) (channels : BitVec 16)
    (classes : BitVec 6) (duration : Nat) : List Byte :=
  beBytes 4 challenge.toNat ++ beBytes 8 serial.toNat ++ [byte slot] ++ beBytes 2 channels.toNat ++
    [byte classes.toNat] ++ beBytes 2 duration

end Sys2Proof.Machine
end

