-- ==== Sys2Proof/Config.lean ====
section
/-! DEFINITION. What is fixed for one part, and the free values: constants without a body, so that no proof can
rest on what they are. -/

namespace Sys2Proof

/-- The part's revision, returned by Identity Read (R155); the manual gives no value. -/
opaque Config.revision : BitVec 8

/-- The part's 64-bit serial (R92, R155), individual to the part. -/
opaque Config.serial : BitVec 64

/-- The part's random source (R90): the n-th draw. -/
opaque Config.randomDraw : Nat → BitVec 32

/-- The bytes a table-entry write leaves in its image when power is lost in the middle of it (R166): draw, position. -/
opaque Config.tornByte : Nat → Nat → BitVec 8

/-- How far from the right one the check word of an image cut short stands (R151, R166), less one. -/
opaque Config.tornCheckOffset : Nat → Fin 65535

/-- Whether a port is receiving a frame at the moment its bit rate is written (R3): the port's place among W, E, C. -/
opaque Config.receivingFrame : Nat → Nat → Bool

/-- Whether a trim cut short by a cold start has removed all of its entries, or none (R166). -/
opaque Config.tornTrimRemoves : Nat → Bool

/-- What an append cut short by a cold start leaves of the stored numbering mark (R151): 0 the mark before it,
1 the mark it was to store, 2 a mark that fails its check. -/
opaque Config.tornAppendMark : Nat → Fin 3

/-- Whether an append that completes with fail has stored its numbering mark (R149, R151). -/
opaque Config.failedAppendStoresMark : Nat → Bool

end Sys2Proof
end

