-- ==== Sys2Proof/Machine/Regions.lean ====
section
/-! DEFINITION. The barred address sets of a Region Protection Map (R109) and the comparison of two of them
(R110). Addresses and lengths are natural numbers, so every sum is worked without limit. -/

namespace Sys2Proof.Machine

open Sys2Proof

/-- The length q of the coded range; 0 at level 0, where the coded range is empty (R109). -/
def codedLength (m : RegionMap) : Nat := if m.level = 0 then 0 else 2 ^ (m.exponent - 8 + m.level)

/-- The bounds [a, b) of what a map's protect code bars of its window (R109); they may enclose nothing. -/
def codeBounds (m : RegionMap) : Nat × Nat :=
  let top := m.base + 2 ^ m.exponent
  match m.top, m.complement with
  | true, false => (top - codedLength m, top)
  | false, false => (m.base, m.base + codedLength m)
  | true, true => (m.base, top - codedLength m)
  | false, true => (m.base + codedLength m, top)

/-- The range a map's protect code bars (R109); none without a descriptor, and none where the code bars nothing, as at
level 0, or at level 8 with complement 1. -/
def codeBars (m : RegionMap) : List (Nat × Nat) :=
  if m.present = true ∧ (codeBounds m).1 < (codeBounds m).2 then [codeBounds m] else []

/-- The ranges of the live regions that `mark` picks (R109). -/
def regionBars (m : RegionMap) (mark : Region → Bool) : List (Nat × Nat) :=
  (m.regions.toList.filter (fun r => r.live && mark r)).map (fun r => (r.start, r.start + r.length))

/-- The write-barred set of a map, as ranges (R109). -/
def writeBars (m : RegionMap) : List (Nat × Nat) := codeBars m ++ regionBars m (·.writeBar)

/-- The erase-barred set of a map, as ranges (R109). -/
def eraseBars (m : RegionMap) : List (Nat × Nat) := codeBars m ++ regionBars m (·.eraseBar)

/-- Whether an address lies in a set of ranges. -/
def inBars (rs : List (Nat × Nat)) (a : Nat) : Bool := rs.any (fun r => decide (r.1 ≤ a ∧ a < r.2))

/-- Whether the range [a, b) intersects any range of a set: a < d and c < b (R109). -/
def hitsBars (rs : List (Nat × Nat)) (a b : Nat) : Bool := rs.any (fun r => decide (a < r.2 ∧ r.1 < b))

/-- Whether every address of the first set lies in the second. The least address of a difference of two such sets is
the start of a range of the first or the end of a range of the second, so those are the addresses to try. -/
def coveredBy (small big : List (Nat × Nat)) : Bool :=
  (small.map Prod.fst ++ big.map Prod.snd).all (fun a => !inBars small a || inBars big a)

/-- Whether `new` bars, in the same way, every address that `stored` bars (R110). -/
def noLooser (stored new : RegionMap) : Bool :=
  coveredBy (writeBars stored) (writeBars new) && coveredBy (eraseBars stored) (eraseBars new)

/-- A working write's content (R110): each region's marks are the written marks together with the marks the region
already holds in the working copy. -/
def mergeMarks (working written : RegionMap) : RegionMap :=
  { written with
    regions := tabulate 3 (fun i =>
      let w := written.regions.get i
      let o := working.regions.get i
      { w with writeBar := w.writeBar || o.writeBar, eraseBar := w.eraseBar || o.eraseBar }) }

/-- The write-barred set of a working map with any overlay (R111). -/
def writeBarsWith (m : RegionMap) (overlay : Option RegionMap) : List (Nat × Nat) :=
  writeBars m ++ (match overlay with
    | some o => writeBars o
    | none => [])

/-- The erase-barred set of a working map with any overlay (R111). -/
def eraseBarsWith (m : RegionMap) (overlay : Option RegionMap) : List (Nat × Nat) :=
  eraseBars m ++ (match overlay with
    | some o => eraseBars o
    | none => [])

end Sys2Proof.Machine
end

