-- ==== Sys2Proof/Machine/Ssx.lean ====
section
/-! DEFINITION. The Segmented Service Exchange (chapter 3): the kinds of frame, malformed frames, the forms of
reply, the segmentation record, and the frames the gateway itself makes. -/

namespace Sys2Proof.Machine

open Sys2Proof

/-- What a frame is malformed as (R38). -/
inductive BadKind where
  | empty | unit | lead | follow | pace
deriving DecidableEq, Repr

/-- A frame on a channel or a management channel as its control byte and DLC give it (R37, R38). -/
inductive Ssx where
  | unit (msg : List Byte)
  | lead (count : Nat) (msg : List Byte)
  | follow (index : Nat) (msg : List Byte)
  | pace (allowance code gap : Nat)
  | bad (k : BadKind)
deriving DecidableEq, Repr

/-- The reading of R37 and R38. `count` is the announced count of the message in flight, 0 when none is. -/
def readSsx (count : Nat) (data : List Byte) : Ssx :=
  match data with
  | [] => .bad .empty
  | ctl :: rest =>
    let kind := ctl.toNat / 64
    let field := ctl.toNat % 64
    if kind = 0 then
      (if field ≠ 0 ∨ rest.length = 0 then .bad .unit else .unit rest)
    else if kind = 1 then
      (if rest.length ≠ 7 ∨ field = 0 then .bad .lead else .lead field rest)
    else if kind = 2 then
      (if rest.length = 0 ∨ (rest.length < 7 ∧ field < count) then .bad .follow else .follow field rest)
    else
      match rest with
      | code :: gap :: _ =>
        if 2 < code.toNat ∨ 127 < gap.toNat then .bad .pace else .pace field code.toNat gap.toNat
      | _ => .bad .pace

/-- The phases of a segmentation record (R43). -/
inductive Phase where
  | none | paceDue | followsDue
deriving DecidableEq, Repr

/-- Follows the sender may still send (R43). -/
inductive Allowance where
  | num (n : Nat)
  | rest
deriving DecidableEq, Repr

/-- A segmentation record (R43). `turn` is the model's own: the stamp of the latest frame of the message that gives
the turn away, so that the sending of an earlier one presets no timer, and 0 where there is none (log 14). -/
structure Seg where
  phase : Phase
  count : Nat
  next  : Nat
  allow : Allowance
  gap   : Nat
  len   : Nat
  timer : Option Nat
  turn  : Nat
deriving DecidableEq, Repr

/-- The record as an exchange is created with it (R43, R58). DESIGN CHOICE (log 13): next index 1, allowance 0 and
gap 0 before any message or proceed has set them. -/
def Seg.fresh : Seg :=
  { phase := .none, count := 0, next := 1, allow := .num 0, gap := 0, len := 0, timer := none, turn := 0 }

/-- The reset at the end of a message (R43): the allowance, the gap and the next index keep their values. -/
def Seg.reset (g : Seg) : Seg := { g with phase := .none, count := 0, len := 0, timer := none, turn := 0 }

/-- After a lead has been passed on or taken (R44). -/
def Seg.lead (g : Seg) (count turn : Nat) : Seg :=
  { g with phase := .paceDue, count := count, next := 1, len := 7, timer := none, turn := turn }

/-- An allowance field as a pace frame carries it: 0 means the rest of the message (R37, R45). -/
def allowanceOf (a : Nat) : Allowance := if a = 0 then .rest else .num a

/-- After a proceed (R45, R52). -/
def Seg.proceed (g : Seg) (allowance gap turn : Nat) : Seg :=
  { g with phase := .followsDue, allow := allowanceOf allowance, gap := gap, timer := none, turn := turn }

/-- One follow less (R47). -/
def Allowance.spend : Allowance → Allowance
  | .num n => .num (n - 1)
  | .rest => .rest

/-- After a follow of `n` message bytes that is not the last (R47 steps 1, 3, 4): when it spends the allowance the
receiver has the turn and the timer waits for the follow to be sent, otherwise the timer is preset at once. -/
def Seg.follow (g : Seg) (n turn : Nat) : Seg :=
  let a := g.allow.spend
  if a = .num 0 then
    { g with phase := .paceDue, next := g.next + 1, allow := a, len := g.len + n, timer := none, turn := turn }
  else
    { g with next := g.next + 1, allow := a, len := g.len + n, timer := some 1000 }

/-- The clamp of R46: the allowance passed on under a maximum allowance. -/
def clampAllowance (ceiling a : Nat) : Nat :=
  if ceiling = 63 then a else if a = 0 ∨ ceiling < a then ceiling else a

/-- The clamp of R46: the gap passed on under a minimum gap. -/
def clampGap (least g : Nat) : Nat := max g least

/-- A controller's proceed frame with its two fields rewritten (R46). -/
def clampPace (ceiling least : Nat) (data : List Byte) (allowance gap : Nat) : List Byte :=
  (data.set 0 (byte (192 + clampAllowance ceiling allowance))).set 2 (byte (clampGap least gap))

/-- The forms of a reply message (R41). -/
inductive ReplyForm where
  | positive | stillWorking | negative | other
deriving DecidableEq, Repr

/-- The form of a reply, from the message bytes of its first frame and the exchange's service code (R41). -/
def replyForm (code : Byte) (msg : List Byte) : ReplyForm :=
  if fieldAt msg 0 1 = code.toNat + 0x80 ∧ msg.length ≠ 0 then .positive
  else if 3 ≤ msg.length ∧ fieldAt msg 0 1 = 0xFF then
    (if fieldAt msg 1 1 = code.toNat ∧ fieldAt msg 2 1 = 0x2F then .stillWorking else .negative)
  else .other

/-! ### Frames the gateway makes -/

/-- The count of follows of an `n`-byte message longer than 7: the least `k` with 7k + 7 ≥ n (R39). -/
def followCount (n : Nat) : Nat := (n - 1) / 7

/-- A message of 1 to 7 bytes as a unit (R39). -/
def unitData (msg : List Byte) : List Byte := byte 0 :: msg

/-- The lead of a longer message (R39). -/
def leadData (msg : List Byte) : List Byte := byte (64 + followCount msg.length) :: msg.take 7

/-- The message bytes of follow `i` (R39): 7 from byte 7i on, fewer in the last. -/
def followBytes (msg : List Byte) (i : Nat) : List Byte := (msg.drop (7 * i)).take 7

/-- Follow `i` of a message (R39). -/
def followData (msg : List Byte) (i : Nat) : List Byte := byte (128 + i) :: followBytes msg i

/-- A pace frame the gateway sends (R52): DLC 3. -/
def paceData (allowance code gap : Nat) : List Byte := [byte (192 + allowance), byte code, byte gap]

/-- A negative reply of the gateway's own (R42): one unit of DLC 4. -/
def negativeData (code : Byte) (reason : Nat) : List Byte := [byte 0, byte 0xFF, code, byte reason]

/-- The gateway negative reasons (section 4.9). -/
inductive Reason where
  | notGranted | condition | forbidden | exchangeOpen | noReply | broken | regionBarred | outOfWindow | sequence
  | incomplete | noWindow | windowBusy | congested | portDown | recordFull
deriving DecidableEq, Repr

/-- Their codes, 0xE1 to 0xEF (section 4.9). -/
def reasonCode : Reason → Nat
  | .notGranted => 0xE1 | .condition => 0xE2 | .forbidden => 0xE3 | .exchangeOpen => 0xE4 | .noReply => 0xE5
  | .broken => 0xE6 | .regionBarred => 0xE7 | .outOfWindow => 0xE8 | .sequence => 0xE9 | .incomplete => 0xEA
  | .noWindow => 0xEB | .windowBusy => 0xEC | .congested => 0xED | .portDown => 0xEE | .recordFull => 0xEF

/-- The management refusal reasons (R154, R169). -/
inductive Refuse where
  | unknownRequest | notAuthorised | lockedOut | busy | recordFull | noChallenge | proofMismatch | tableLocked
  | badEntry | lessThanStored | storeFail | slotState | malformed | inUse
deriving DecidableEq, Repr

/-- Their values (R169). -/
def refuseCode : Refuse → Nat
  | .unknownRequest => 0x01 | .notAuthorised => 0x02 | .lockedOut => 0x03 | .busy => 0x04 | .recordFull => 0x05
  | .noChallenge => 0x06 | .proofMismatch => 0x07 | .tableLocked => 0x08 | .badEntry => 0x09
  | .lessThanStored => 0x0A | .storeFail => 0x0B | .slotState => 0x0C | .malformed => 0x0D | .inUse => 0x0E

/-- The bit times a frame costs (R132). -/
def frameCost (f : Frame) : Nat :=
  match f.id with
  | .std _ => 47 + 8 * f.data.length + (34 + 8 * f.data.length - 1) / 4
  | .ext _ => 67 + 8 * f.data.length + (54 + 8 * f.data.length - 1) / 4

end Sys2Proof.Machine
end

