-- ==== Sys2Proof/Machine/State.lean ====
section
/-! DEFINITION. The state of the gateway as plain data, block by block, the reasons a step can stop, and the
machine right after reset. Every timer is the time left in ms; `none` is a stopped timer. -/

namespace Sys2Proof.Machine

open Sys2Proof

/-! ### Bus Ports (chapter 1) -/

/-- ACTIVE or WITHDRAWN (R8, R9). -/
inductive PortStatus where
  | active | withdrawn
deriving DecidableEq, Repr

/-- The seven counters of a port, each 0 to 65535 (R10). -/
structure Counters where
  received    : Nat
  overrun     : Nat
  unroutable  : Nat
  late        : Nat
  transmitted : Nat
  discarded   : Nat
  withdrawals : Nat
deriving DecidableEq, Repr

/-- Where a management frame belongs: the channel's exchange, its side answer, or neither, as a BUSY refusal or the
MALFORMED answer to a broken request (R5, R153). -/
inductive MgmtPart where
  | exchange | side | loose
deriving DecidableEq, Repr

/-- The origin of a frame in an outward queue (section 1.1). -/
inductive Origin where
  | exchange (c : Fin 16)
  | mirror
  | pace (c : Fin 16)
  | management (m : Mgmt) (part : MgmtPart)
  | reply (c : Fin 16)
deriving DecidableEq, Repr

/-- What the sending of a frame brings about for the message it belongs to (R48, R53, R61): nothing; the turn is
given away; the last frame of a passed-on request; a follow of the gateway's own with more to come under a gap; the
last frame of a message of the gateway's own. -/
inductive Mark where
  | plain
  | turn (stamp : Nat)
  | lastRequest
  | spaced
  | last
deriving DecidableEq, Repr

/-- A frame in an outward queue (section 1.1). `owner` and `mark` are the model's own: the number of the exchange or
side answer the frame belongs to (0 for none), and what its sending brings about (log 14). -/
structure OutFrame where
  frame    : Frame
  origin   : Origin
  released : Bool
  owner    : Nat
  mark     : Mark
deriving DecidableEq, Repr

/-- One bus port (R2 to R10). -/
structure PortState where
  status   : PortStatus
  rate     : Rate
  fault    : Nat
  rx       : List Frame
  out      : List OutFrame
  counters : Counters
  recovery : Option Nat
deriving DecidableEq, Repr

/-- The three ports. -/
structure Ports where
  w : PortState
  e : PortState
  c : PortState
deriving DecidableEq, Repr

/-- The input lines (R11 to R13). `raw` is the TOOLDET level of the latest sample. -/
structure LineState where
  ignon          : Bool
  stlock         : Bool
  tooldet        : Bool
  raw            : Bool
  debounce       : Nat
  tooldetChanged : Bool
  ignonChanged   : Bool
deriving DecidableEq, Repr

/-! ### Frame Router (chapter 2) -/

/-- A mirror position's decimation state, its interval timer and its held frame (section 2.3). -/
inductive MirrorRun where
  | quiet
  | timing (left : Nat)
  | holding (left : Nat) (held : Frame)
deriving DecidableEq, Repr

/-! ### Condition Monitor (section 5.4) -/

/-- One signal (R82). -/
structure SignalState where
  raw       : Option Nat
  available : Bool
  fresh     : Bool
  timer     : Option Nat
deriving DecidableEq, Repr

/-! ### Exchange Tracker (chapter 4) -/

/-- The states of a channel exchange (R55). -/
inductive ExchState where
  | inbound | staging | stagedHold | outbound | awaiting | replying
deriving DecidableEq, Repr

/-- The reply timer (R55, R61). -/
inductive ReplyTimer where
  | stopped
  | pendingSend
  | running (left : Nat)
deriving DecidableEq, Repr

/-- A channel exchange (R55). The model's own fields: `id`, its number; `form`, the form of the reply it is passing;
`gathered`, the request bytes of an Open or Erase read so far; `gapTimer`, the wait before the next follow of a block
being re-sent (R53). `extended` is timer basis EXTENDED. -/
structure ChannelExchange where
  id       : Nat
  channel  : Fin 16
  code     : Byte
  cls      : ServiceClass
  role     : Option Role
  state    : ExchState
  seg      : Seg
  timer    : ReplyTimer
  extended : Bool
  reloads  : Nat
  window   : Option (Fin 2)
  form     : ReplyForm
  gathered : List Byte
  gapTimer : Option Nat
deriving DecidableEq, Repr

/-- The states of a management exchange (R56). -/
inductive MgmtState where
  | receiving | serving | answering
deriving DecidableEq, Repr

/-- How far a complete request has come (R154): not yet served; waiting for its store operation, for its proof's
grant, or for the hot start to be due; or its reply ready, which then is what ANSWERING sends. -/
inductive Work where
  | unserved
  | awaitStore
  | awaitProof (g : Nat)
  | awaitRestart
  | ready (reply : List Byte)
deriving DecidableEq, Repr

/-- A management exchange (R56), its request buffer (R152) and, the model's own: `id`, its number; `response`, the
response identifier of the pair its request came on (R20); `work`; `gapTimer` as above. -/
structure MgmtExchange where
  id       : Nat
  chan     : Mgmt
  code     : Byte
  state    : MgmtState
  seg      : Seg
  response : Ident
  buffer   : List Byte
  work     : Work
  gapTimer : Option Nat
deriving DecidableEq, Repr

/-- A record of the Pending Exchange List (R55). -/
inductive Exchange where
  | channel (x : ChannelExchange)
  | management (x : MgmtExchange)
deriving DecidableEq, Repr

/-! ### Grant Unit (chapter 6) -/

/-- The states of a credential slot (R87). -/
inductive SlotState where
  | empty | live | withdrawn
deriving DecidableEq, Repr

/-- A credential slot (R87). -/
structure Slot where
  state : SlotState
  key   : BitVec 128
deriving DecidableEq, Repr

/-- The outstanding challenge (R90). -/
structure Challenge where
  slot     : Fin 8
  channels : BitVec 16
  classes  : BitVec 6
  duration : Nat
  value    : BitVec 32
  validity : Nat
deriving DecidableEq, Repr

/-- A running digest (R92, R93): its grant, whether its result is to be discarded, the proof message, the slot whose
key is used, and the tag presented. -/
structure DigestRun where
  grant     : Nat
  discarded : Bool
  message   : List Byte
  slot      : Fin 8
  tag       : List Byte
deriving DecidableEq, Repr

/-- The states of a grant (R98). -/
inductive GrantState where
  | checking | recording | active | held
deriving DecidableEq, Repr

/-- A grant's binding to a download window (R98, R104). -/
inductive Binding where
  | none
  | pending (w : Fin 2)
  | bound (w : Fin 2)
  | ended
deriving DecidableEq, Repr

/-- The close causes of a grant (R99). -/
inductive CloseCause where
  | expired | revoked | presence | consumed | withdrawnSlot | restart
deriving DecidableEq, Repr

/-- A grant (R98); `classes`: bit 0 OBSERVE to bit 5 MANAGE (R168); `seconds` is its seconds timer (R100). -/
structure Grant where
  number      : Nat
  slot        : Fin 8
  channels    : BitVec 16
  classes     : BitVec 6
  granted     : Nat
  remaining   : Nat
  extensions  : Nat
  state       : GrantState
  binding     : Binding
  activation  : Option Nat
  cause       : Option CloseCause
  reservation : Bool
  seconds     : Option Nat
deriving DecidableEq, Repr

/-- The access lamp output (R106). -/
inductive Lamp where
  | dark
  | steady
  | toggling (lit : Bool) (left : Nat)
deriving DecidableEq, Repr

/-- The Grant Unit. -/
structure GrantUnit where
  slots         : Vector Slot 8
  challenge     : Option Challenge
  lastChallenge : Option (BitVec 32)
  digest        : Option DigestRun
  grants        : List Grant
  failures      : Nat
  lockout       : Option Nat
  lamp          : Lamp
deriving DecidableEq, Repr

/-! ### Download Inspector (chapter 7) -/

/-- The states of a window (R112). -/
inductive WindowState where
  | openPending | active | suspended | closing
deriving DecidableEq, Repr

/-- The last completed block (R112). -/
structure DoneBlock where
  start   : Nat
  count   : Nat
  counter : Nat
deriving DecidableEq, Repr

/-- The block in hand (R112, R119). -/
structure HandBlock where
  start   : Nat
  count   : Nat
  counter : Nat
  again   : Bool
deriving DecidableEq, Repr

/-- What a window holds from ACTIVE on (R112, R115). -/
structure WindowRun where
  bmax      : Nat
  next      : Nat
  remaining : Nat
  expected  : Nat
  last      : Option DoneBlock
  erase     : Bool
deriving DecidableEq, Repr

/-- A download window (R112). `range` is A and L once the Open has passed its check; `run` what it holds from ACTIVE
on; `slot` the origin slot of its bound grant, which its entries name (R142). -/
structure Window where
  channel      : Fin 16
  grant        : Nat
  slot         : Fin 8
  state        : WindowState
  range        : Option (Nat × Nat)
  run          : Option WindowRun
  inHand       : Option HandBlock
  grace        : Option Nat
  idle         : Option Nat
  hold         : Option Nat
  buffer       : Option (Fin 2)
  reservations : Nat
deriving DecidableEq, Repr

/-- The Download Inspector: windows, staging buffers, and the overlay of each channel's working map (R111). -/
structure Inspector where
  windows  : Vector (Option Window) 2
  buffers  : Vector (List Byte) 2
  overlays : Vector (Option RegionMap) 16
deriving DecidableEq, Repr

/-! ### Load Meter (chapter 8) -/

/-- The two credit buckets, in centibits (R133). -/
structure Meter where
  creditE : Nat
  creditC : Nat
deriving DecidableEq, Repr

/-! ### Access Record (chapter 9) -/

/-- The outcomes of a window (R117). -/
inductive Outcome where
  | complete | failed | aborted
deriving DecidableEq, Repr

/-- The causes of a DOWNLOAD_ENDED entry (R172). -/
inductive EndCause where
  | none | refused | closeRefused | noReply | broken | congested | regionBarred | condition | idle | portDown
  | revoked | presence | withdrawnSlot | restart
deriving DecidableEq, Repr

/-- The kinds of entry with their details (R142, R172). -/
inductive Detail where
  | grantOpened (channels : BitVec 16) (classes : BitVec 6) (duration : Nat)
  | grantClosed (cause : CloseCause)
  | proofFailed
  | lockoutBegan
  | downloadOpened (a l : Nat)
  | downloadEnded (a l remaining : Nat) (outcome : Outcome) (cause : EndCause)
  | transferRefused (start length : Nat) (reason : Reason)
  | tableWritten (table : TableId) (entry : Nat)
  | credentialChanged (withdrawn : Bool)
deriving DecidableEq, Repr

/-- An entry of the Access Record (R142). `unrecorded` 0 stands for the absent field. -/
structure Entry where
  number     : Nat
  time       : Nat
  detail     : Detail
  grant      : Option Nat
  slot       : Option (Fin 8)
  channel    : Option (Fin 16 × Byte)
  unrecorded : Nat
deriving DecidableEq, Repr

/-- The Access Record (R141, R149). The kept entries are those of the store that pass their check words (R151); the
settling entries are the appends in the store request queue, and the reservations are held by grants and windows (R144).
`second` is the part-time second's time left. -/
structure AccessRecord where
  kept       : List Entry
  unrecorded : Nat
  mark       : Nat
  partTime   : Nat
  second     : Nat
deriving DecidableEq, Repr

/-! ### Management Agent (chapter 10) -/

/-- The latched attention conditions (R157); RECORD_LOW is a level and follows the free room. -/
structure Attention where
  storeFail     : Bool
  fallback      : Bool
  lockoutBegan  : Bool
  withdrawnW    : Bool
  withdrawnE    : Bool
  withdrawnC    : Bool
  downloadEnded : Bool
deriving DecidableEq, Repr

/-- A management channel's side answer (R153): absent; WAITING, with its request's bytes; or SENDING. -/
inductive Side where
  | absent
  | waiting (request : List Byte)
  | sending (id : Nat) (seg : Seg) (msg : List Byte) (gapTimer : Option Nat)
deriving DecidableEq, Repr

/-- How far a Restart has come (R163): none; taken; its reply waits in a queue to be sent; the reply has been sent,
discarded or flushed, and the hot start is due. The number is that of the management exchange that carries it. -/
inductive RestartPhase where
  | idle
  | taken (id : Nat)
  | answered (id : Nat)
  | due
deriving DecidableEq, Repr

/-- The Management Agent. -/
structure Agent where
  attention : Attention
  sideW     : Side
  sideC     : Side
  restart   : RestartPhase
deriving DecidableEq, Repr

/-! ### Table Store (chapter 10) -/

/-- A stored table image (R164). -/
structure Image where
  entries : List (List Byte)
  check   : BitVec 16
deriving DecidableEq, Repr

/-- A stored credential slot with its own check word (R87, R164). -/
structure StoredSlot where
  slot  : Slot
  check : BitVec 16
deriving DecidableEq, Repr

/-- A stored number (the failure count, the numbering mark) with its own check word (R164). -/
structure StoredNumber where
  value : Nat
  check : BitVec 16
deriving DecidableEq, Repr

/-- A stored entry of the Access Record with its own check word (R151, R164). -/
structure StoredEntry where
  entry : Entry
  check : BitVec 16
deriving DecidableEq, Repr

/-- A request of the store request queue (R165). `requester` is the number of the management exchange that waits for it;
`carrier` the grant that carried a table write and its slot (R142). -/
inductive StoreRequest where
  | append (e : Entry)
  | failureCount (n : Nat)
  | tableEntry (e : TableEntry) (carrier : Option (Nat × Fin 8)) (requester : Nat)
  | credentialWrite (s : Fin 8) (key : BitVec 128) (carrier : Option Nat) (requester : Nat)
  | credentialWithdraw (s : Fin 8) (carrier : Option Nat) (requester : Nat)
  | lockPolicy (p : LockPolicy) (carrier : Option (Nat × Fin 8)) (requester : Nat)
  | trim (n : Nat) (requester : Nat)
deriving DecidableEq, Repr

/-- The Table Store (R164, R165, R167): images, slots, record entries, failure count and numbering mark as stored, the
working tables' fallback flags, and the store request queue, whose oldest request is the operation in progress. -/
structure Store where
  images   : Vector Image 7
  slots    : Vector StoredSlot 8
  entries  : List StoredEntry
  failures : StoredNumber
  mark     : StoredNumber
  fallback : Vector Bool 7
  queue    : List StoreRequest
deriving DecidableEq, Repr

/-! ### The part -/

/-- AWAKE or ASLEEP, the quiet timer (R14), and the model's own counters: `stamp`, from which exchanges and turns are
numbered, and `draws`, the position in the free values (log 2). -/
structure Part where
  awake : Bool
  quiet : Nat
  stamp : Nat
  draws : Nat
deriving DecidableEq, Repr

/-- The gateway, with the queue of the commands that are waiting (`pending`, the model's own). -/
structure State where
  pending   : List Instr
  part      : Part
  ports     : Ports
  lines     : LineState
  tables    : Tables
  mirror    : Vector MirrorRun 32
  signals   : Vector SignalState 4
  exchanges : List Exchange
  grants    : GrantUnit
  inspector : Inspector
  meter     : Meter
  record    : AccessRecord
  agent     : Agent
  store     : Store
deriving DecidableEq, Repr

/-! ### How a step can stop -/

/-- The faults. There is none: the manual gives every command an effect and calls no behaviour of the part
undefined, so no meaning raises a fault. -/
inductive Fault where
deriving DecidableEq, Repr

/-- The refusals. -/
inductive Refusal where
  /-- Raised only by an arm of `exec` whose command has no meaning yet; safe, since the machine stops. No arm
  raises it. -/
  | notModelled (mnemonic : String)
deriving DecidableEq, Repr

/-! ### Reset -/

def Counters.zero : Counters :=
  { received := 0, overrun := 0, unroutable := 0, late := 0, transmitted := 0, discarded := 0, withdrawals := 0 }

/-- A port after a cold start at a given rate (R16). -/
def PortState.start (r : Rate) : PortState :=
  { status := .active, rate := r, fault := 0, rx := [], out := [], counters := .zero, recovery := none }

/-- A signal at a start (R86), and after a working write of its entry (R85). -/
def SignalState.stale : SignalState := { raw := none, available := true, fresh := false, timer := none }

def Attention.clear : Attention :=
  { storeFail := false, fallback := false, lockoutBegan := false, withdrawnW := false, withdrawnE := false,
    withdrawnC := false, downloadEnded := false }

/-- A whole image of a table's content with its check word (R164). -/
def Image.of (entries : List (List Byte)) : Image := { entries := entries, check := checkWord entries }

/-- The number a slot's state has in the slot's image (R87: EMPTY, LIVE, WITHDRAWN). -/
def SlotState.number : SlotState → Nat
  | .empty => 0 | .live => 1 | .withdrawn => 2

/-- A credential slot as it is stored, with the check word of its image (R164). -/
def StoredSlot.of (k : Slot) : StoredSlot := { slot := k, check := checkWord [slotImage k.state.number k.key] }

/-- The failure count as it is stored (R97, R164). -/
def StoredNumber.count (n : Nat) : StoredNumber := { value := n, check := checkWord [countImage n] }

/-- The numbering mark as it is stored (R149, R164). -/
def StoredNumber.mark (n : Nat) : StoredNumber := { value := n, check := checkWord [markImage n] }

/-- A credential slot that has never been written (R87). -/
def Slot.new : Slot := { state := .empty, key := 0 }

/-- The Table Store of a new part. DESIGN CHOICE (log 1): every table image holds fallback content and passes its
check, every slot is EMPTY, no entry is stored, the failure count and the numbering mark are 0. -/
def Store.new : Store :=
  { images := #v[Image.of (Tables.fallback.images .portSettings), Image.of (Tables.fallback.images .channelTable),
      Image.of (Tables.fallback.images .serviceClassMap), Image.of (Tables.fallback.images .classPolicy),
      Image.of (Tables.fallback.images .signalTable), Image.of (Tables.fallback.images .mirrorList),
      Image.of (Tables.fallback.images .regionMap)],
    slots := Vector.replicate 8 (.of .new),
    entries := [],
    failures := .count 0,
    mark := .mark 0,
    fallback := Vector.replicate 7 false,
    queue := [] }

/-- The machine right after reset: a new part just after a cold start (R16, R35, R71, R86, R107, R131, R140, R151,
R157, R167), with every line deasserted at the first sample (DESIGN CHOICE, log 1). -/
def State.reset : State :=
  { pending := [],
    part := { awake := true, quiet := 5000, stamp := 1, draws := 0 },
    ports := { w := .start .kbit500, e := .start .kbit250, c := .start .kbit250 },
    lines := { ignon := false, stlock := false, tooldet := false, raw := false, debounce := 0,
               tooldetChanged := false, ignonChanged := false },
    tables := .fallback,
    mirror := Vector.replicate 32 .quiet,
    signals := Vector.replicate 4 .stale,
    exchanges := [],
    grants := { slots := Vector.replicate 8 .new, challenge := none, lastChallenge := none, digest := none,
                grants := [], failures := 0, lockout := none, lamp := .dark },
    inspector := { windows := Vector.replicate 2 none, buffers := Vector.replicate 2 [],
                   overlays := Vector.replicate 16 none },
    meter := { creditE := 48000, creditC := 48000 },
    record := { kept := [], unrecorded := 0, mark := 0, partTime := 0, second := 1000 },
    agent := { attention := .clear, sideW := .absent, sideC := .absent, restart := .idle },
    store := .new }

end Sys2Proof.Machine
end

