-- ==== Sys2Proof/Machine/Flags.lean ====
section
/-! DEFINITION. What follows from the state at every moment: the five conditions (R84), the free room of the Access
Record (R141), the attention set and ATTN (R157), the sleep conditions (R14), and the access lamp (R106). -/

namespace Sys2Proof.Machine

open Sys2Proof

/-! ### Conditions (R84) -/

/-- Whether a raw value passes an entry's test (R84). -/
def testPasses (e : SignalEntry) (v : Nat) : Bool :=
  match e.test with
  | .atMost => decide (v ≤ e.first)
  | .atLeast => decide (e.first ≤ v)
  | .equals => decide (v = e.first)
  | .within => decide (e.first ≤ v ∧ v ≤ e.second)

/-- The condition a signal yields (R84). -/
def signalCondition (e : SignalEntry) (g : SignalState) : Bool :=
  match g.raw with
  | some v => e.live && g.fresh && g.available && testPasses e v
  | none => false

/-- Condition Ci (R84). -/
def condition (s : State) (i : Fin 4) : Bool := signalCondition (s.tables.signals.get i) (s.signals.get i)

/-- The conditions as a set: bits 0 to 3 for C0 to C3, bit 4 for IGN (R168, R84). -/
def conditions (s : State) : BitVec 5 :=
  BitVec.ofNat 5 ((condition s 0).toNat + 2 * (condition s 1).toNat + 4 * (condition s 2).toNat +
    8 * (condition s 3).toNat + 16 * s.lines.ignon.toNat)

/-- Whether every condition of a set is true (R79). -/
def allTrue (s : State) (required : BitVec 5) : Bool := required &&& ~~~(conditions s) == 0

/-- The watched conditions: those the working REPROGRAM entry requires (R125). -/
def watched (s : State) : BitVec 5 := (s.tables.policies.get 4).required

/-! ### The Access Record's room (R141) -/

/-- The entry of an append request. -/
def appendOf : StoreRequest → Option Entry
  | .append e => some e
  | _ => none

/-- The settling entries, in the order they were appended (R141). -/
def settling (s : State) : List Entry := s.store.queue.filterMap appendOf

/-- The reservations grants hold (R98, R144). -/
def grantReservations (l : List Grant) : Nat := (l.filter (·.reservation)).length

/-- The reservations a window holds (R112, R144). -/
def windowReservations : Option Window → Nat
  | some w => w.reservations
  | none => 0

/-- All reservations (R141, R144). -/
def reservations (s : State) : Nat :=
  grantReservations s.grants.grants + windowReservations (s.inspector.windows.get 0) +
    windowReservations (s.inspector.windows.get 1)

/-- Kept and settling entries and reservations together (R141). -/
def occupied (s : State) : Nat := s.record.kept.length + (settling s).length + reservations s

/-- The free room (R141). -/
def freeRoom (s : State) : Nat := 128 - occupied s

/-! ### The attention set (R157) -/

/-- RECORD_LOW (R147). -/
def recordLow (s : State) : Bool := decide (freeRoom s ≤ 16)

/-- Whether each condition is pending, by its number in an Attention Read reply: 1 STORE_FAIL to 8 DOWNLOAD_ENDED
(R157, R169). -/
def attentionSet (s : State) : List (Nat × Bool) :=
  let a := s.agent.attention
  [(1, a.storeFail), (2, a.fallback), (3, a.lockoutBegan), (4, a.withdrawnW), (5, a.withdrawnE),
   (6, a.withdrawnC), (7, recordLow s), (8, a.downloadEnded)]

/-- The pending conditions, the highest priority first. -/
def attentionPending (s : State) : List Nat := ((attentionSet s).filter (·.2)).map (·.1)

/-- The ATTN output: asserted while at least one condition is pending (R157). -/
def attn (s : State) : Bool := !(attentionPending s).isEmpty

/-- The latched conditions with the numbered one cleared; RECORD_LOW is a level and is not cleared (R157). -/
def clearAttention (a : Attention) (n : Nat) : Attention :=
  match n with
  | 1 => { a with storeFail := false }
  | 2 => { a with fallback := false }
  | 3 => { a with lockoutBegan := false }
  | 4 => { a with withdrawnW := false }
  | 5 => { a with withdrawnE := false }
  | 6 => { a with withdrawnC := false }
  | 8 => { a with downloadEnded := false }
  | _ => a

/-! ### Windows and the lamp -/

/-- How many download windows are open (R112). -/
def openWindows (s : State) : Nat :=
  (s.inspector.windows.get 0).isSome.toNat + (s.inspector.windows.get 1).isSome.toNat

/-- Whether a grant lights the lamp (R106). -/
def Grant.lights (g : Grant) : Bool := g.state == .active || g.state == .held

/-- The lamp as R106's table gives it; a toggle runs unbroken while a window is open, and begins lit. -/
def lampOf (s : State) : Lamp :=
  if openWindows s ≠ 0 then
    match s.grants.lamp with
    | .toggling lit left => .toggling lit left
    | _ => .toggling true 500
  else if s.grants.grants.any Grant.lights then .steady
  else .dark

/-- Whether ACCLMP drives the lamp lit. -/
def lampLit : Lamp → Bool
  | .dark => false
  | .steady => true
  | .toggling lit _ => lit

/-! ### Sleep (R14) -/

/-- The conditions of R14 beside the quiet timer. -/
def sleepConditions (s : State) : Bool :=
  !s.lines.ignon && !s.lines.tooldet && s.grants.grants.isEmpty && s.exchanges.isEmpty &&
    s.ports.w.rx.isEmpty && s.ports.e.rx.isEmpty && s.ports.c.rx.isEmpty &&
    s.ports.w.out.isEmpty && s.ports.e.out.isEmpty && s.ports.c.out.isEmpty && s.store.queue.isEmpty

end Sys2Proof.Machine
end

