-- ==== Sys2Proof/Machine/Ops.lean ====
section
/-! DEFINITION. The named operations the commands share: ports and their queues, the Load Meter's test, the Access
Record's appends, the store request queue, the Pending Exchange List, grants and windows by number, and the
gateway's own replies. -/

namespace Sys2Proof.Machine

open Sys2Proof

/-! ### Small helpers -/

/-- A 16-bit saturating count (R10, R146). -/
def saturate (n : Nat) : Nat := min 65535 n

/-- Change the first element that a test picks. -/
def modifyFirst {α : Type} (p : α → Bool) (f : α → α) : List α → List α
  | [] => []
  | x :: xs => if p x then f x :: xs else x :: modifyFirst p f xs

/-- One millisecond off a running timer; it stands at 0 until its expiry is taken. -/
def countDown (t : Option Nat) : Option Nat := t.map (fun n => n - 1)

/-- Do something only while the part is AWAKE: ASLEEP it takes and sends no frame, samples no line, and every timer
keeps its value (R14). -/
def whenAwake (s : State) (f : State → State) : State := if s.part.awake then f s else s

/-- The stamp for a new exchange, side answer or turn, and the state with the next one due. -/
def nextStamp (s : State) : State := { s with part := { s.part with stamp := s.part.stamp + 1 } }

/-- Use one position of the free values. -/
def nextDraw (s : State) : State := { s with part := { s.part with draws := s.part.draws + 1 } }

/-! ### Ports -/

def netPort : Net → Port
  | .E => .E
  | .C => .C

/-- A port's place among W, E and C, by which the free values name it. -/
def portPlace : Port → Nat
  | .W => 0
  | .E => 1
  | .C => 2

def mgmtPort : Mgmt → Port
  | .W => .W
  | .C => .C

def State.port (s : State) : Port → PortState
  | .W => s.ports.w
  | .E => s.ports.e
  | .C => s.ports.c

def State.setPort (s : State) (p : Port) (x : PortState) : State :=
  match p with
  | .W => { s with ports := { s.ports with w := x } }
  | .E => { s with ports := { s.ports with e := x } }
  | .C => { s with ports := { s.ports with c := x } }

/-- Change one port's counters. -/
def State.count (s : State) (p : Port) (f : Counters → Counters) : State :=
  s.setPort p { s.port p with counters := f (s.port p).counters }

def Counters.addDiscarded (n : Nat) (c : Counters) : Counters := { c with discarded := saturate (c.discarded + n) }
def Counters.addUnroutable (c : Counters) : Counters := { c with unroutable := saturate (c.unroutable + 1) }
def Counters.addLate (c : Counters) : Counters := { c with late := saturate (c.late + 1) }

/-- The bit rate the working Port Settings give a port (R3). -/
def settingsRate (t : PortSettings) : Port → Rate
  | .W => t.rateW
  | .E => t.rateE
  | .C => t.rateC

/-! ### The Load Meter (chapter 8) -/

def State.credit (s : State) : Net → Nat
  | .E => s.meter.creditE
  | .C => s.meter.creditC

def State.setCredit (s : State) (n : Net) (v : Nat) : State :=
  match n with
  | .E => { s with meter := { s.meter with creditE := v } }
  | .C => { s with meter := { s.meter with creditC := v } }

/-- The share of a metered port (R133). -/
def shareOf (t : PortSettings) : Net → Nat
  | .E => t.shareE
  | .C => t.shareC

/-- The ceiling of a bucket: the depth × 100 centibits (R133). -/
def ceilingOf (t : PortSettings) : Net → Nat
  | .E => t.depthE * 100
  | .C => t.depthC * 100

/-- Whether the head of a metered queue is to be released now (R135). -/
def releasable (s : State) (n : Net) : Bool :=
  match (s.port (netPort n)).out with
  | f :: _ => (s.port (netPort n)).status == .active && !f.released && decide (frameCost f.frame * 100 ≤ s.credit n)
  | [] => false

/-- A queue with its head marked released. -/
def releaseHead : List OutFrame → List OutFrame
  | f :: rest => { f with released := true } :: rest
  | [] => []

/-- The cost of a queue's head in centibits (R132). -/
def headCost : List OutFrame → Nat
  | f :: _ => frameCost f.frame * 100
  | [] => 0

/-- The release test of R135: a releasable head is charged once and marked released. -/
def testHead (n : Net) (s : State) : State :=
  if releasable s n then
    let x := s.port (netPort n)
    (s.setCredit n (s.credit n - headCost x.out)).setPort (netPort n) { x with out := releaseHead x.out }
  else s

/-- The release test at a port; port W is not metered (R137). -/
def testPort (p : Port) (s : State) : State :=
  match p with
  | .W => s
  | .E => testHead .E s
  | .C => testHead .C s

/-! ### Outward queues (R4 to R6) -/

/-- Whether the head of a port's queue is eligible (R4): at once on port W, after its release on E and C. -/
def headEligible (p : Port) (x : PortState) : Option OutFrame :=
  match x.status, x.out with
  | .active, f :: _ => if p = .W ∨ f.released = true then some f else none
  | _, _ => none

/-- What becomes of a frame offered to an outward queue. -/
inductive Offered where
  | joined | full | withdrawn
deriving DecidableEq, Repr

/-- How a port meets an offer (R4, R5, R6). -/
def offerResult (x : PortState) : Offered :=
  match x.status with
  | .withdrawn => .withdrawn
  | .active => if x.out.length < 32 then .joined else .full

/-- The state after an offer: the frame joins and a new head is tested, or it is discarded and counted. -/
def offerState (p : Port) (f : OutFrame) (s : State) : State :=
  match offerResult (s.port p) with
  | .joined => testPort p (s.setPort p { s.port p with out := (s.port p).out ++ [f] })
  | _ => s.count p (Counters.addDiscarded 1)

/-- Offer a frame whose loss has no consequence beyond the counter: a mirror frame or a gateway reply (R5). -/
def offerFree (p : Port) (f : OutFrame) (s : State) : State := offerState p f s

/-- A frame for an outward queue. -/
def outFrame (id : Ident) (data : List Byte) (origin : Origin) (owner : Nat) (mark : Mark) : OutFrame :=
  { frame := { id := id, data := data }, origin := origin, released := false, owner := owner, mark := mark }

/-! ### Channels -/

def State.channel (s : State) (c : Fin 16) : ChannelEntry := s.tables.channels.get c

/-- A gateway negative reply to the tool (R42, R59). -/
def gatewayReply (c : Fin 16) (code : Byte) (reason : Nat) (s : State) : State :=
  offerFree .W (outFrame (s.channel c).ids.response (negativeData code reason) (.reply c) 0 .plain) s

/-! ### The Pending Exchange List (R55) -/

/-- The exchange pending on a channel. -/
def channelExchange (s : State) (c : Fin 16) : Option ChannelExchange :=
  s.exchanges.findSome? (fun e => match e with
    | .channel x => if x.channel = c then some x else none
    | .management _ => none)

/-- The channel exchange of a number. -/
def ownedExchange (s : State) (id : Nat) : Option ChannelExchange :=
  s.exchanges.findSome? (fun e => match e with
    | .channel x => if x.id = id then some x else none
    | .management _ => none)

/-- The exchange pending on a management channel. -/
def mgmtExchange (s : State) (m : Mgmt) : Option MgmtExchange :=
  s.exchanges.findSome? (fun e => match e with
    | .management x => if x.chan = m then some x else none
    | .channel _ => none)

def isChannel (id : Nat) : Exchange → Bool
  | .channel x => x.id == id
  | .management _ => false

def isMgmt (id : Nat) : Exchange → Bool
  | .management x => x.id == id
  | .channel _ => false

/-- Put a channel exchange's new record in the place of the old. -/
def setChannelExchange (x : ChannelExchange) (s : State) : State :=
  { s with exchanges := modifyFirst (isChannel x.id) (fun _ => .channel x) s.exchanges }

/-- Put a management exchange's new record in the place of the old. -/
def setMgmtExchange (x : MgmtExchange) (s : State) : State :=
  { s with exchanges := modifyFirst (isMgmt x.id) (fun _ => .management x) s.exchanges }

/-- Take a channel exchange off the list; those behind it move up (R55). -/
def dropChannelExchange (id : Nat) (s : State) : State :=
  { s with exchanges := s.exchanges.eraseP (isChannel id) }

/-- Close a management exchange (R56). The frames of its reply that wait in a queue stay there. -/
def closeMgmt (id : Nat) (s : State) : State := { s with exchanges := s.exchanges.eraseP (isMgmt id) }

/-- How far a Restart has come once a frame of a management exchange has been sent, discarded or flushed: where the frame
is the Restart's own reply, the hot start is due (R163 step 4). -/
def restartAfter (id : Nat) (r : RestartPhase) : RestartPhase :=
  match r with
  | .answered i => if i = id then .due else .answered i
  | .taken i => .taken i
  | .idle => .idle
  | .due => .due

/-- A frame of a management exchange has left the part or been thrown away (R163 step 4). A Restart's reply is one unit,
the only frame its exchange offers; whether that exchange is still pending makes no difference. -/
def mgmtFrameGone (id : Nat) (s : State) : State :=
  { s with agent := { s.agent with restart := restartAfter id s.agent.restart } }

/-! ### Management replies (R42, R152) -/

/-- Make a reply ready for the management exchange of a number. -/
def answer (id : Nat) (reply : List Byte) (s : State) : State :=
  { s with exchanges := modifyFirst (isMgmt id) (fun e => match e with
      | .management x => .management { x with work := .ready reply }
      | .channel x => .channel x) s.exchanges }

/-- The refusal of a request (R42). -/
def refusalBytes (code : Byte) (r : Refuse) : List Byte := [byte 0xFF, code, byte (refuseCode r)]

/-- A positive management reply: the request code + 0x80, then the fields (R152). -/
def positiveBytes (code : Byte) (fields : List Byte) : List Byte := (code + 0x80) :: fields

/-- Refuse the request of a management exchange. -/
def refuse (x : MgmtExchange) (r : Refuse) (s : State) : State := answer x.id (refusalBytes x.code r) s

/-- Answer the request of a management exchange positively. -/
def accept (x : MgmtExchange) (fields : List Byte) (s : State) : State := answer x.id (positiveBytes x.code fields) s

/-- Answer the exchange that waits for a proof's grant, if it still does (R93). -/
def answerProof (g : Nat) (reply : List Byte) (s : State) : State :=
  match mgmtExchange s .W with
  | some x => if x.work = .awaitProof g then answer x.id reply s else s
  | none => s

/-! ### Attention (R157) -/

def raise (f : Attention → Attention) (s : State) : State :=
  { s with agent := { s.agent with attention := f s.agent.attention } }

def raiseStoreFail (s : State) : State := raise (fun a => { a with storeFail := true }) s
def raiseFallback (s : State) : State := raise (fun a => { a with fallback := true }) s
def raiseLockout (s : State) : State := raise (fun a => { a with lockoutBegan := true }) s
def raiseDownloadEnded (s : State) : State := raise (fun a => { a with downloadEnded := true }) s
def raiseWithdrawn (p : Port) (s : State) : State :=
  match p with
  | .W => raise (fun a => { a with withdrawnW := true }) s
  | .E => raise (fun a => { a with withdrawnE := true }) s
  | .C => raise (fun a => { a with withdrawnC := true }) s

/-! ### The store request queue (R165) and the Access Record's appends (R143, R144) -/

def pushStore (r : StoreRequest) (s : State) : State := { s with store := { s.store with queue := s.store.queue ++ [r] } }

/-- One event more that could not be entered (R146). -/
def addUnrecorded (n : Nat) (s : State) : State :=
  { s with record := { s.record with unrecorded := saturate (s.record.unrecorded + n) } }

/-- Whether the queue accepts an append or a failure-count write (R165). -/
def queueTakesAppend (s : State) : Bool := decide (s.store.queue.length < 16)

/-- Whether the queue accepts a table-entry write or a trim (R165). -/
def queueTakesWrite (s : State) : Bool := decide (s.store.queue.length < 8)

/-- The number after a numbering mark: the one after 0xFFFFFFFF is 0 (R149). -/
def nextNumber (mark : Nat) : Nat := (mark + 1) % 4294967296

/-- The entry a detail makes at this moment: its number, the part time, the node label and the unrecorded count it
carries (R142, R143 step 2). -/
def makeEntry (s : State) (d : Detail) (g : Option Nat) (sl : Option (Fin 8)) (c : Option (Fin 16)) : Entry :=
  { number := nextNumber s.record.mark, time := s.record.partTime, detail := d, grant := g, slot := sl,
    channel := c.map (fun k => (k, (s.channel k).label)), unrecorded := s.record.unrecorded }

/-- Steps 2 and 3 of R143: complete the entry and offer it to the store. -/
def writeEntry (d : Detail) (g : Option Nat) (sl : Option (Fin 8)) (c : Option (Fin 16)) (s : State) : State :=
  if queueTakesAppend s then
    let e := makeEntry s d g sl c
    let s := pushStore (.append e) s
    { s with record := { s.record with mark := e.number, unrecorded := 0 } }
  else addUnrecorded 1 s

/-- An append that is not into a reservation (R143). -/
def appendEntry (d : Detail) (g : Option Nat) (sl : Option (Fin 8)) (c : Option (Fin 16)) (s : State) : State :=
  if freeRoom s = 0 then addUnrecorded 1 s else writeEntry d g sl c s

/-- An append into a reservation its holder has just given up (R144); where the holder held none, an append that
needs free room. -/
def appendInto (held : Bool) (d : Detail) (g : Option Nat) (sl : Option (Fin 8)) (c : Option (Fin 16)) (s : State) :
    State :=
  if held then writeEntry d g sl c s else appendEntry d g sl c s

/-- Offer a failure-count write (R97). -/
def writeFailures (n : Nat) (s : State) : State :=
  if queueTakesAppend s then pushStore (.failureCount n) s else raiseStoreFail s

/-- Set the failure count to 0 after a good proof or a lockout's end, with its write if it was not 0 (R95). -/
def clearFailures (s : State) : State :=
  if s.grants.failures = 0 then s
  else writeFailures 0 { s with grants := { s.grants with failures := 0 } }

/-! ### Grants by number -/

def findGrant (s : State) (n : Nat) : Option Grant := s.grants.grants.find? (fun g => g.number == n)

def setGrants (l : List Grant) (s : State) : State := { s with grants := { s.grants with grants := l } }

def updateGrant (n : Nat) (f : Grant → Grant) (s : State) : State :=
  setGrants (modifyFirst (fun g => g.number == n) f s.grants.grants) s

/-- Take a grant off the table, its reservation with it (R98, R144). -/
def dropGrant (n : Nat) (s : State) : State := setGrants (s.grants.grants.eraseP (fun g => g.number == n)) s

/-- The class-set bits (R168). -/
def bitReprogram : BitVec 6 := 0x10
def bitManage : BitVec 6 := 0x20

/-- The class-set bit of a class; FORBIDDEN has none. -/
def classBit : ServiceClass → BitVec 6
  | .observe => 0x01 | .clear => 0x02 | .actuate => 0x04 | .configure => 0x08 | .reprogram => 0x10 | .forbidden => 0

def hasBit (set bit : BitVec 6) : Bool := set &&& bit != 0

/-- The grant that gives MANAGE authority: the earliest ACTIVE one whose class set includes it (R154). -/
def manageGrant (s : State) : Option Grant :=
  s.grants.grants.find? (fun g => g.state == .active && hasBit g.classes bitManage)

/-- Bring the lamp to R106's table. -/
def relamp (s : State) : State := { s with grants := { s.grants with lamp := lampOf s } }

/-! ### Windows by number -/

def State.window (s : State) (w : Fin 2) : Option Window := s.inspector.windows.get w

def setWindow (w : Fin 2) (x : Option Window) (s : State) : State :=
  { s with inspector := { s.inspector with windows := put s.inspector.windows w x } }

/-- The window open on a channel (R112). -/
def windowOn (s : State) (c : Fin 16) : Option (Fin 2 × Window) :=
  match s.window 0 with
  | some x => if x.channel = c then some (0, x) else
    (match s.window 1 with
     | some y => if y.channel = c then some (1, y) else none
     | none => none)
  | none =>
    (match s.window 1 with
     | some y => if y.channel = c then some (1, y) else none
     | none => none)

/-- The exchange linked to a window. -/
def linkedExchange (s : State) (w : Fin 2) : Option ChannelExchange :=
  s.exchanges.findSome? (fun e => match e with
    | .channel x => if x.window = some w then some x else none
    | .management _ => none)

/-- Drop the window link of every exchange that names a window that has ended. DESIGN CHOICE (log 45): the manual does
not say when a link is cleared. -/
def unlink (w : Fin 2) (s : State) : State :=
  { s with exchanges := s.exchanges.map (fun e => match e with
      | .channel x => if x.window = some w then .channel { x with window := none } else .channel x
      | .management x => .management x) }

end Sys2Proof.Machine
end

