-- ==== Sys2Proof/Machine/Windows.lean ====
section
/-! DEFINITION. How windows, grants and channel exchanges end, one beneath the other: the report of a window's end to
the Grant Unit (R104), the end of a window (R116, R117), and the close of an exchange (R65) with its report to the
Download Inspector (R68, R116, R122, R123, R129). -/

namespace Sys2Proof.Machine

open Sys2Proof

/-! ### A grant's last steps (R99 steps 2 and 3) -/

/-- Append GRANT_CLOSED into the grant's reservation, remove the grant, update the lamp. -/
def grantClose (g : Grant) (cause : CloseCause) (s : State) : State :=
  relamp (appendInto g.reservation (.grantClosed cause) (some g.number) (some g.slot) none (dropGrant g.number s))

/-! ### Reports to the Grant Unit (R104) -/

/-- A window has been taken for an Open under a grant. -/
def reportTaken (g : Nat) (w : Fin 2) (s : State) : State :=
  updateGrant g (fun x => if x.binding = .none then { x with binding := .pending w } else x) s

/-- A window has become ACTIVE. -/
def reportActive (g : Nat) (w : Fin 2) (s : State) : State :=
  updateGrant g (fun x => if x.binding = .pending w then { x with binding := .bound w } else x) s

/-- A window ended without having become ACTIVE: a HELD grant ends EXPIRED, an ACTIVE one may cover a new Open. -/
def reportEndedUnactivated (g : Nat) (w : Fin 2) (s : State) : State :=
  match findGrant s g with
  | some x =>
    if x.binding = .pending w then
      let s := updateGrant g (fun y => { y with binding := .none }) s
      if x.state = .held then grantClose x .expired s else s
    else s
  | none => s

/-- A window ended after having been ACTIVE: REPROGRAM leaves the class set; an ACTIVE grant whose set is then empty
ends CONSUMED, a HELD grant EXPIRED. -/
def reportEndedActive (g : Nat) (w : Fin 2) (s : State) : State :=
  match findGrant s g with
  | some x =>
    if x.binding = .bound w then
      let left := x.classes &&& ~~~bitReprogram
      let s := updateGrant g (fun y => { y with binding := .ended, classes := left }) s
      if x.state = .held then grantClose x .expired s
      else if x.state = .active ∧ left = 0 then grantClose x .consumed s
      else s
    else s
  | none => s

/-! ### The end of a window (R116, R117) -/

/-- Resolve an overlay (R111): the working map takes the stored content it holds, and the overlay is dropped. -/
def resolveOverlay (c : Fin 16) (s : State) : State :=
  match s.inspector.overlays.get c with
  | some m =>
    { s with tables := { s.tables with maps := put s.tables.maps c m },
             inspector := { s.inspector with overlays := put s.inspector.overlays c none } }
  | none => s

/-- Steps 4 and 5 of R117 but the report: the overlay is resolved, the window removed, its reservations released,
exchanges unlinked, the lamp brought up to date. -/
def removeWindow (w : Fin 2) (x : Window) (s : State) : State :=
  relamp (unlink w (setWindow w none (resolveOverlay x.channel s)))

/-- The remaining length an ended entry shows: L for a window that has not been ACTIVE (R116). -/
def endRemaining (x : Window) : Nat :=
  match x.run, x.range with
  | some r, _ => r.remaining
  | none, some (_, l) => l
  | none, none => 0

/-- Append DOWNLOAD_ENDED into one of the window's reservations and raise the attention condition, accepted or
not (R116, R117). -/
def appendEnded (w : Fin 2) (x : Window) (outcome : Outcome) (cause : EndCause) (s : State) : State :=
  let held := decide (0 < x.reservations)
  let s := setWindow w (some { x with reservations := x.reservations - 1 }) s
  let (a, l) := x.range.getD (0, 0)
  raiseDownloadEnded
    (appendInto held (.downloadEnded a l (endRemaining x) outcome cause) (some x.grant) (some x.slot)
      (some x.channel) s)

/-- A window that has been ACTIVE ends: steps 2 to 5 of R117. `tell` is false when the bound grant is itself ending,
which the report then does not reach (R104). -/
def endActive (w : Fin 2) (x : Window) (outcome : Outcome) (cause : EndCause) (tell : Bool) (s : State) : State :=
  let s := removeWindow w x (appendEnded w x outcome cause s)
  if tell then reportEndedActive x.grant w s else s

/-- A window that has not been ACTIVE ends without an entry; both reservations are released (R116). -/
def endPendingSilent (w : Fin 2) (x : Window) (tell : Bool) (s : State) : State :=
  let s := removeWindow w x s
  if tell then reportEndedUnactivated x.grant w s else s

/-- A window that has not been ACTIVE ends after its check with an entry, before its check without one (R116). -/
def endPending (w : Fin 2) (x : Window) (outcome : Outcome) (cause : EndCause) (tell : Bool) (s : State) : State :=
  match x.range with
  | some _ => endPendingSilent w x tell (appendEnded w x outcome cause s)
  | none => endPendingSilent w x tell s

/-- A window ends ABORTED for a cause from outside its exchange, under R117 or R116. -/
def endAborted (w : Fin 2) (x : Window) (cause : EndCause) (tell : Bool) (s : State) : State :=
  match x.run with
  | some _ => endActive w x .aborted cause tell s
  | none => endPending w x .aborted cause tell s

/-- Step 1 of R117: a linked exchange still pending is closed with a reason (R65, cause DOWNLOAD). The window is
ending, so the close is not reported to it again. -/
def closeLinked (w : Fin 2) (r : Reason) (s : State) : State :=
  match linkedExchange s w with
  | some x => gatewayReply x.channel x.code (reasonCode r) (dropChannelExchange x.id s)
  | none => s

/-- Abort a window: its linked exchange is closed with a reason, and the window ends. -/
def abortWindow (w : Fin 2) (r : Reason) (cause : EndCause) (tell : Bool) (s : State) : State :=
  match s.window w with
  | some x => endAborted w x cause tell (closeLinked w r s)
  | none => s

/-! ### The watched conditions: loss (R125) -/

/-- An ACTIVE window one of whose watched conditions is false becomes SUSPENDED, with 5 s of grace. -/
def suspendTest (w : Fin 2) (s : State) : State :=
  match s.window w with
  | some x =>
    if x.state = .active ∧ allTrue s (watched s) = false then
      setWindow w (some { x with state := .suspended, grace := some 5000 }) s
    else s
  | none => s

/-! ### The close of an exchange (R65) -/

/-- The causes of a close the Exchange Tracker makes (section 4.4). `told` is false where port W cannot carry the
reply because it is W that is down (R67). -/
inductive Closing where
  | answered | noReply | broken | congested
  | portDown (told : Bool)
deriving DecidableEq, Repr

/-- The cause a FAILED entry shows for a close of the Open's exchange (R116, R172). -/
def closingCause : Closing → EndCause
  | .answered => .none
  | .noReply => .noReply
  | .broken => .broken
  | .congested => .congested
  | .portDown _ => .portDown

/-- The gateway reply a close calls for (section 4.4). -/
def closingReason : Closing → Option Reason
  | .answered => none
  | .noReply => some .noReply
  | .broken => some .broken
  | .congested => some .congested
  | .portDown true => some .portDown
  | .portDown false => none

/-- What a window keeps when its linked exchange has closed and the window goes on: the staging buffer is released,
the block in hand dropped, the hold timer stopped, and the idle timer preset to 30 s (R118, R122, R127). -/
def Window.unlinked (x : Window) : Window :=
  { x with buffer := none, inHand := none, hold := none,
           idle := if x.state = .active ∨ x.state = .suspended then some 30000 else none }

/-- Release a linked exchange from its window when the window goes on. -/
def leaveWindow (w : Fin 2) (s : State) : State :=
  match s.window w with
  | some x => setWindow w (some x.unlinked) s
  | none => s

/-- A Close that ended without an answer returns its window to ACTIVE (R123), where it is tested at once. -/
def reopenWindow (w : Fin 2) (x : Window) (s : State) : State :=
  suspendTest w (setWindow w (some ({ x with state := .active } : Window).unlinked) s)

/-- The report of a close to the Download Inspector (R65 step 2): what it does to the window (R116, R122, R123,
R129). A refuse pace frame that answers an Open ends its window without an entry, one that answers a Close ends it
FAILED with cause CLOSE_REFUSED. DEDUCED (log 19): a CLOSING window whose Close exchange ends by the tool's refuse of
a still-working message has had no answer to its Close, and is returned to ACTIVE. DEDUCED (log 50): a Close that
closes before it was judged finds its window not CLOSING, and leaves it in its state. -/
def inspectorClosed (x : ChannelExchange) (cause : Closing) (s : State) : State :=
  match x.window with
  | none => s
  | some w =>
    match s.window w with
    | none => s
    | some v =>
      match v.state, cause with
      | .openPending, .answered => endPendingSilent w v true s
      | .openPending, .portDown _ => endPending w v .aborted .portDown true s
      | .openPending, c => endPending w v .failed (closingCause c) true s
      | _, .portDown _ => endActive w v .aborted .portDown true s
      | .closing, _ => reopenWindow w v s
      | _, .answered =>
        if x.role = some .closing then endActive w v .failed .closeRefused true s else leaveWindow w s
      | _, _ => leaveWindow w s

/-- Close an exchange by a cause of the Exchange Tracker's (R65): remove the record, report to the Inspector, offer
the gateway reply. -/
def closeExchange (x : ChannelExchange) (cause : Closing) (s : State) : State :=
  let s := inspectorClosed x cause (dropChannelExchange x.id s)
  match closingReason cause with
  | some r => gatewayReply x.channel x.code (reasonCode r) s
  | none => s

/-- Close an exchange by a reason of the Inspector's while its window goes on (R68, R65 with cause DOWNLOAD). -/
def closeDownload (x : ChannelExchange) (r : Reason) (s : State) : State :=
  let s := dropChannelExchange x.id s
  let s := match x.window with
    | some w => leaveWindow w s
    | none => s
  gatewayReply x.channel x.code (reasonCode r) s

/-! ### Offers on behalf of an exchange (R5, R6, R66, R67) -/

/-- The close an offer's failure brings, by the port that refused it. -/
def failedOffer (p : Port) : Offered → Option Closing
  | .joined => none
  | .full => some .congested
  | .withdrawn => some (.portDown (p != .W))

/-- Offer a frame for an exchange, then go on; a discarded frame closes the exchange instead and makes no other
change (R66, R67). -/
def offerThen (x : ChannelExchange) (p : Port) (f : OutFrame) (go : State → State) (s : State) : State :=
  match failedOffer p (offerResult (s.port p)) with
  | none => go (offerState p f s)
  | some c => closeExchange x c (offerState p f s)

/-- Offer frames one after the other until one is discarded (R66: frames not yet offered are not offered). -/
def offerAll (x : ChannelExchange) (p : Port) (go : State → State) : List OutFrame → State → State
  | [], s => go s
  | f :: fs, s => offerThen x p f (offerAll x p go fs) s

/-- A frame of an exchange bound for the controller, under the channel's request identifier (R17, R58). -/
def toController (s : State) (x : ChannelExchange) (data : List Byte) (pace : Bool) (mark : Mark) : OutFrame :=
  outFrame (s.channel x.channel).ids.request data (if pace then .pace x.channel else .exchange x.channel) x.id mark

/-- A frame of an exchange bound for the tool, under the channel's response identifier (R17). -/
def toTool (s : State) (x : ChannelExchange) (data : List Byte) (pace : Bool) (mark : Mark) : OutFrame :=
  outFrame (s.channel x.channel).ids.response data (if pace then .pace x.channel else .exchange x.channel) x.id mark

/-- The channel's target port. -/
def targetPort (s : State) (c : Fin 16) : Port := netPort (s.channel c).port

end Sys2Proof.Machine
end

