-- ==== Sys2Proof/Machine/GrantUnit.lean ====
section
/-! DEFINITION. The Grant Unit (chapter 6): the endings of grants, the challenge and the proof, the lockout, the
seconds timers, presence loss, and the requests it serves. -/

namespace Sys2Proof.Machine

open Sys2Proof

/-! ### Requests: the exchange a request row serves -/

/-- The management exchange whose complete request of a code is still to be served on a channel, while AWAKE (R14). -/
def servable (s : State) (m : Mgmt) (code : Nat) : Option MgmtExchange :=
  match mgmtExchange s m with
  | some x =>
    if s.part.awake = true ∧ x.state = .serving ∧ x.work = .unserved ∧ x.buffer.head? = some (byte code) then some x
    else none
  | none => none

/-- Serve the request of a code that is waiting on a management channel; nothing where none is (log 3). -/
def serve (m : Mgmt) (code : Nat) (f : MgmtExchange → State → State) (s : State) : State :=
  match servable s m code with
  | some x => f x s
  | none => s

/-- Mark how far a request has come (R154). -/
def setWork (x : MgmtExchange) (w : Work) (s : State) : State := setMgmtExchange { x with work := w } s

/-! ### The endings of grants (R96, R99, R102, R103) -/

/-- The cause a window's ended entry shows for the ending of its grant (R128, R172). -/
def windowCause : CloseCause → EndCause
  | .revoked => .revoked
  | .presence => .presence
  | .withdrawnSlot => .withdrawnSlot
  | .restart => .restart
  | .expired => .none
  | .consumed => .none

/-- Step 1 of R99: abort the window a grant is bound to. -/
def abortBound (g : Grant) (cause : CloseCause) (s : State) : State :=
  match g.binding with
  | .pending w => abortWindow w .notGranted (windowCause cause) false s
  | .bound w => abortWindow w .notGranted (windowCause cause) false s
  | .none => s
  | .ended => s

/-- End a grant, by its state (R99, R96). DEDUCED (log 49): the withdrawal of its slot ends a CHECKING or RECORDING
grant as a Revoke does. -/
def endGrant (cause : CloseCause) (g : Grant) (s : State) : State :=
  match g.state with
  | .checking =>
    let s := dropGrant g.number s
    let s := { s with grants := { s.grants with digest := s.grants.digest.map (fun d => { d with discarded := true }) } }
    answerProof g.number (refusalBytes (byte 0x11) .notAuthorised) s
  | .recording => updateGrant g.number (fun x => if x.cause = none then { x with cause := some cause } else x) s
  | _ => grantClose g cause (abortBound g cause s)

/-- End grants one after the other. -/
def endGrants (cause : CloseCause) (l : List Grant) (s : State) : State := l.foldl (fun s g => endGrant cause g s) s

/-- Presence loss (R103): the challenge, then a CHECKING grant, then every other grant in table order. -/
def presenceLost (s : State) : State :=
  let s := { s with grants := { s.grants with challenge := none } }
  let l := s.grants.grants
  endGrants .presence (l.filter (fun g => g.state != .checking))
    (endGrants .presence (l.filter (fun g => g.state == .checking)) s)

/-! ### Access Request (R90, R91) -/

/-- A duration clamped to 60..14400 s (R91, R101). -/
def clampDuration (n : Nat) : Nat := max 60 (min 14400 n)

/-- Whether a draw may be a challenge: not 0, and not the challenge issued before (R90). -/
def freshValue (last : Option (BitVec 32)) (v : BitVec 32) : Bool := v != 0 && decide (last ≠ some v)

/-- The challenge value from three draws of the random source; a source that gives no acceptable draw among them
gives 1 or 2 (log 21). -/
def drawChallenge (s : State) : BitVec 32 :=
  let ok := freshValue s.grants.lastChallenge
  let a := Config.randomDraw s.part.draws
  let b := Config.randomDraw (s.part.draws + 1)
  let c := Config.randomDraw (s.part.draws + 2)
  if ok a then a else if ok b then b else if ok c then c else if ok 1 then 1 else 2

/-- Issue a challenge (R90, R91). -/
def issueChallenge (slot : Fin 8) (channels : BitVec 16) (classes : BitVec 6) (duration : Nat) (s : State) : State :=
  let v := drawChallenge s
  nextDraw (nextDraw (nextDraw
    { s with grants := { s.grants with
        challenge := some { slot := slot, channels := channels, classes := classes, duration := duration, value := v,
                            validity := 30000 },
        lastChallenge := some v } }))

/-- Whether a request came on W with the debounced TOOLDET asserted (R91, R93, R101). -/
def onToolChannel (s : State) (m : Mgmt) : Bool := m == .W && s.lines.tooldet

/-- Whether a proof is in progress (R91, R93). -/
def proofInProgress (s : State) : Bool :=
  s.grants.grants.any (fun g => g.state == .checking || g.state == .recording)

/-- Access Request (R91). -/
def accessRequest (m : Mgmt) (x : MgmtExchange) (s : State) : State :=
  let n := fieldAt x.buffer 1 1
  let channels := fieldAt x.buffer 2 2
  let classes := fieldAt x.buffer 4 1
  let duration := clampDuration (fieldAt x.buffer 5 2)
  if onToolChannel s m = false then refuse x .notAuthorised s
  else if s.grants.lockout.isSome then refuse x .lockedOut s
  else if s.grants.challenge.isSome || proofInProgress s then refuse x .busy s
  else if h : n < 8 then
    if (s.grants.slots.get ⟨n, h⟩).state ≠ .live then refuse x .slotState s
    else if channels = 0 ∨ classes = 0 ∨ 64 ≤ classes then refuse x .badEntry s
    else if 8 ≤ s.grants.grants.length then refuse x .busy s
    else if freeRoom s < 2 then refuse x .recordFull s
    else
      let v := drawChallenge s
      accept x (beBytes 4 v.toNat ++ beBytes 2 duration)
        (issueChallenge ⟨n, h⟩ (BitVec.ofNat 16 channels) (BitVec.ofNat 6 classes) duration s)
  else refuse x .badEntry s

def execAccessRequest (m : Mgmt) (s : State) : Host.Outcome State Fault Refusal := .next (serve m 0x10 (accessRequest m) s)

/-! ### Access Proof (R93) -/

/-- The lowest grant number not in use (R93). -/
def freeNumber (l : List Grant) : Nat := ((List.range (l.length + 1)).find? (fun n => l.all (fun g => g.number != n))).getD 0

/-- The CHECKING grant a proof creates from the consumed challenge (R93). DESIGN CHOICE (log 47): its remaining seconds
are 0 until it is ACTIVE. -/
def checkingGrant (n : Nat) (ch : Challenge) : Grant :=
  { number := n, slot := ch.slot, channels := ch.channels, classes := ch.classes, granted := ch.duration,
    remaining := 0, extensions := 0, state := .checking, binding := .none, activation := none, cause := none,
    reservation := false, seconds := none }

/-- Start the digest of a proof (R92, R93). -/
def startDigest (n : Nat) (ch : Challenge) (tag : List Byte) (s : State) : State :=
  { s with grants := { s.grants with
      challenge := none,
      grants := s.grants.grants ++ [checkingGrant n ch],
      digest := some { grant := n, discarded := false, slot := ch.slot, tag := tag,
                       message := proofMessage ch.value Config.serial ch.slot.val ch.channels ch.classes ch.duration } } }

/-- Access Proof (R93). -/
def accessProof (m : Mgmt) (x : MgmtExchange) (s : State) : State :=
  if onToolChannel s m = false then refuse x .notAuthorised s
  else if s.grants.lockout.isSome then refuse x .lockedOut s
  else
    match s.grants.challenge with
    | none => refuse x .noChallenge s
    | some ch =>
      if freeRoom s < 2 then refuse x .recordFull { s with grants := { s.grants with challenge := none } }
      else
        let n := freeNumber s.grants.grants
        setWork x (.awaitProof n) (startDigest n ch (x.buffer.drop 1) s)

def execAccessProof (m : Mgmt) (s : State) : Host.Outcome State Fault Refusal := .next (serve m 0x11 (accessProof m) s)

/-! ### The digest's completion (R92, R94, R95) -/

/-- The tag the Digest Unit computes with the working slot's key (R92). -/
def digestTag (s : State) (d : DigestRun) : List Byte :=
  proofTag (beBytes 16 (s.grants.slots.get d.slot).key.toNat) d.message

/-- Start a lockout once the failure count has reached 3 (R94 step 4). -/
def beginLockout (slot : Fin 8) (s : State) : State :=
  if s.grants.failures = 3 then
    raiseLockout (appendEntry .lockoutBegan none (some slot) none
      { s with grants := { s.grants with lockout := some 600000 } })
  else s

/-- The tags differ (R94). -/
def proofFailed (d : DigestRun) (s : State) : State :=
  let s := dropGrant d.grant s
  let n := min 3 (s.grants.failures + 1)
  let s := writeFailures n { s with grants := { s.grants with failures := n } }
  let s := beginLockout d.slot (appendEntry .proofFailed none (some d.slot) none s)
  answerProof d.grant (refusalBytes (byte 0x11) .proofMismatch) s

/-- The tags are equal (R95). DESIGN CHOICE (log 48): the opening entry is offered to the store before the write of
the failure count. -/
def proofMatched (d : DigestRun) (s : State) : State :=
  match findGrant s d.grant with
  | none => clearFailures s
  | some g =>
    if freeRoom s < 2 then
      answerProof g.number (refusalBytes (byte 0x11) .recordFull) (clearFailures (dropGrant g.number s))
    else if queueTakesAppend s then
      clearFailures (updateGrant g.number (fun x => { x with state := .recording, reservation := true })
        (writeEntry (.grantOpened g.channels g.classes g.granted) (some g.number) (some g.slot) none s))
    else
      answerProof g.number (refusalBytes (byte 0x11) .busy)
        (clearFailures (dropGrant g.number (addUnrecorded 1 s)))

/-- The Digest Unit completes (R92); a discarded result has no effect (R99, R103). -/
def digestComplete (s : State) : State :=
  match s.grants.digest with
  | none => s
  | some d =>
    let s := { s with grants := { s.grants with digest := none } }
    if d.discarded then s
    else if digestTag s d = d.tag then proofMatched d s
    else proofFailed d s

def execDigestComplete (s : State) : Host.Outcome State Fault Refusal := .next (whenAwake s digestComplete)

/-! ### The decision of a RECORDING grant (R96) -/

/-- The GRANT_OPENED append of a grant has completed (R96). -/
def grantDecided (n : Nat) (pass : Bool) (s : State) : State :=
  match s.grants.grants.find? (fun g => g.number == n && g.state == .recording) with
  | none => s
  | some g =>
    if pass = false then
      answerProof n (refusalBytes (byte 0x11) .storeFail) (dropGrant n s)
    else
      match g.cause with
      | some cause => answerProof n (refusalBytes (byte 0x11) .notAuthorised) (grantClose g cause s)
      | none =>
        let now := s.record.partTime
        answerProof n (positiveBytes (byte 0x11) (byte n :: beBytes 2 g.granted))
          (relamp (updateGrant n (fun x => { x with state := .active, remaining := x.granted, activation := some now,
                                                    seconds := some 1000 }) s))

/-! ### Grant Extend and Grant Revoke (R101, R102) -/

/-- Grant Extend (R101). -/
def grantExtend (m : Mgmt) (x : MgmtExchange) (s : State) : State :=
  let n := fieldAt x.buffer 1 1
  let duration := clampDuration (fieldAt x.buffer 2 2)
  if onToolChannel s m = false then refuse x .notAuthorised s
  else if s.grants.lockout.isSome then refuse x .lockedOut s
  else
    match findGrant s n with
    | none => refuse x .badEntry s
    | some g =>
      if g.state ≠ .active then refuse x .notAuthorised s
      else if 3 ≤ g.extensions then refuse x .notAuthorised s
      else
        let left := min 14400 (g.remaining + duration)
        accept x (beBytes 2 left ++ beBytes 1 (g.extensions + 1))
          (updateGrant n (fun y => { y with remaining := left, extensions := g.extensions + 1 }) s)

def execGrantExtend (m : Mgmt) (s : State) : Host.Outcome State Fault Refusal := .next (serve m 0x12 (grantExtend m) s)

/-- Grant Revoke (R102): 0xFF names every grant (R169). -/
def grantRevoke (x : MgmtExchange) (s : State) : State :=
  let n := fieldAt x.buffer 1 1
  if n = 255 then
    accept x [byte s.grants.grants.length] (endGrants .revoked s.grants.grants s)
  else
    match findGrant s n with
    | none => refuse x .badEntry s
    | some g => accept x [byte 1] (endGrant .revoked g s)

def execGrantRevoke (m : Mgmt) (s : State) : Host.Outcome State Fault Refusal := .next (serve m 0x13 grantRevoke s)

/-! ### Credential Write and Withdraw (R88, R89) -/

/-- Whether the lock allows a stored write (R160). -/
def lockAllows (s : State) : Bool :=
  match s.tables.ports.lock with
  | .unlocked => true
  | .line => !s.lines.stlock
  | .frozen => false

/-- Credential Write (R88). -/
def credentialWrite (m : Mgmt) (x : MgmtExchange) (s : State) : State :=
  let n := fieldAt x.buffer 1 1
  let key := BitVec.ofNat 128 (fieldAt x.buffer 2 16)
  let first := s.grants.slots.toList.all (fun k => k.state != .live)
  let carrier := manageGrant s
  if m ≠ .W ∨ (first = false ∧ carrier = none) then refuse x .notAuthorised s
  else if s.lines.stlock ∨ s.tables.ports.lock = .frozen then refuse x .tableLocked s
  else if h : n < 8 then
    if (s.grants.slots.get ⟨n, h⟩).state ≠ .empty then refuse x .slotState s
    else if queueTakesWrite s = false then refuse x .busy s
    else setWork x .awaitStore (pushStore (.credentialWrite ⟨n, h⟩ key (carrier.map (·.number)) x.id) s)
  else refuse x .badEntry s

def execCredentialWrite (m : Mgmt) (s : State) : Host.Outcome State Fault Refusal :=
  .next (serve m 0x14 (credentialWrite m) s)

/-- Credential Withdraw (R89). -/
def credentialWithdraw (m : Mgmt) (x : MgmtExchange) (s : State) : State :=
  let n := fieldAt x.buffer 1 1
  match m, manageGrant s with
  | .W, some g =>
    if h : n < 8 then
      if (s.grants.slots.get ⟨n, h⟩).state ≠ .live then refuse x .slotState s
      else if queueTakesWrite s = false then refuse x .busy s
      else setWork x .awaitStore (pushStore (.credentialWithdraw ⟨n, h⟩ (some g.number) x.id) s)
    else refuse x .badEntry s
  | _, _ => refuse x .notAuthorised s

def execCredentialWithdraw (m : Mgmt) (s : State) : Host.Outcome State Fault Refusal :=
  .next (serve m 0x15 (credentialWithdraw m) s)

/-! ### Timers (R90, R97, R100, R106) -/

/-- The challenge's validity runs out (R90). -/
def execChallengeValidityExpiry (s : State) : Host.Outcome State Fault Refusal :=
  .next (whenAwake s (fun s => { s with grants := { s.grants with challenge := none } }))

/-- The lockout runs out (R97). -/
def lockoutOver (s : State) : State :=
  match s.grants.lockout with
  | some _ => clearFailures { s with grants := { s.grants with lockout := none } }
  | none => s

def execLockoutExpiry (s : State) : Host.Outcome State Fault Refusal := .next (whenAwake s lockoutOver)

/-- A grant whose remaining seconds have reached 0 (R100). -/
def grantExpired (g : Grant) (s : State) : State :=
  match g.binding with
  | .none => endGrant .expired g s
  | .ended => endGrant .expired g s
  | _ => updateGrant g.number (fun x => { x with state := .held, remaining := 0, seconds := none }) s

/-- A grant's seconds timer runs out (R100). -/
def secondOver (n : Nat) (s : State) : State :=
  match findGrant s n with
  | none => s
  | some g =>
    if g.state ≠ .active ∨ g.seconds = none then s
    else if g.remaining ≤ 1 then
      grantExpired { g with remaining := 0 } (updateGrant n (fun x => { x with remaining := 0 }) s)
    else updateGrant n (fun x => { x with remaining := g.remaining - 1, seconds := some 1000 }) s

def execGrantSecondsTimerExpiry (g : Fin 8) (s : State) : Host.Outcome State Fault Refusal :=
  .next (whenAwake s (secondOver g.val))

/-- The lamp alternates while it toggles (R106). -/
def toggleLamp : Lamp → Lamp
  | .toggling lit _ => .toggling (!lit) 500
  | l => l

def execAcclmpToggle (s : State) : Host.Outcome State Fault Refusal :=
  .next (whenAwake s (fun s => { s with grants := { s.grants with lamp := toggleLamp s.grants.lamp } }))

end Sys2Proof.Machine
end

