-- ==== Sys2Proof/Machine/Sender.lean ====
section
/-! DEFINITION. The gateway as the sender of a segmented message (R53): the frames it offers first, and the follows
it offers once it has the turn. -/

namespace Sys2Proof.Machine

open Sys2Proof

/-- The first frame of a message with its mark: a unit is also the last, a lead gives the turn away (R53). -/
def firstFrame (msg : List Byte) (stamp : Nat) : List Byte × Mark :=
  if msg.length ≤ 7 then (unitData msg, .last) else (leadData msg, .turn stamp)

/-- The segmentation record once the first frame has been offered (R43, R53). -/
def firstSeg (g : Seg) (msg : List Byte) (stamp : Nat) : Seg :=
  if msg.length ≤ 7 then { g.reset with len := msg.length } else g.lead (followCount msg.length) stamp

/-- The follows to offer now, at most as many as the first argument, with the record after them: up to the
allowance or to the last follow (R53). A follow that spends the allowance gives the turn away, and the segment timer is
stopped while it waits in the queue (R48); one with more to come under a gap starts the gap when it is sent. -/
def planFollows (msg : List Byte) (stamp : Nat) : Nat → Seg → List (List Byte × Mark) × Seg
  | 0, g => ([], g)
  | k + 1, g =>
    let bytes := followBytes msg g.next
    let data := followData msg g.next
    if g.next = g.count then ([(data, .last)], { g with len := g.len + bytes.length })
    else
      let a := g.allow.spend
      if a = .num 0 then
        ([(data, .turn stamp)],
          { g with phase := .paceDue, next := g.next + 1, allow := a, len := g.len + bytes.length, timer := none,
                   turn := stamp })
      else
        let g' := { g with next := g.next + 1, allow := a, len := g.len + bytes.length }
        let rest := planFollows msg stamp k g'
        ((data, if g.gap = 0 then .plain else .spaced) :: rest.1, rest.2)

/-- The record after a proceed that the gateway takes as the sender, with no clamping (R53). DEDUCED (log 14): the turn is
the gateway's again, so a lead or follow that gave it away and still waits in the queue presets no timer when it is
sent. -/
def Seg.resume (g : Seg) (allowance gap : Nat) : Seg := g.proceed allowance gap 0

/-- The record after a wait that the gateway takes as the sender: the timer is preset at once (R53). DEDUCED (log 55): so
it is where the frame that gave the turn away still waits in the queue. -/
def Seg.waited (g : Seg) : Seg := { g with timer := some 1000 }

/-- How many follows are offered at once: all the allowance gives when the gap is 0, otherwise one (R53). -/
def burst (g : Seg) : Nat := if g.gap = 0 then 63 else 1

end Sys2Proof.Machine
end

