-- ==== Sys2Proof/Machine/Agent.lean ====
section
/-! DEFINITION. The Management Agent (sections 10.1 and 10.2): the frames of a management channel, the judgement of
a complete request, the side answer, and the gateway as the sender of its management messages. -/

namespace Sys2Proof.Machine

open Sys2Proof

/-! ### Channels and their parts -/

/-- The identifier pair of a management channel (R152). -/
def mgmtPair (s : State) : Mgmt → IdPair
  | .W => s.tables.ports.wPair
  | .C => s.tables.ports.cPair

def sideOf (s : State) : Mgmt → Side
  | .W => s.agent.sideW
  | .C => s.agent.sideC

def setSide (m : Mgmt) (x : Side) (s : State) : State :=
  match m with
  | .W => { s with agent := { s.agent with sideW := x } }
  | .C => { s with agent := { s.agent with sideC := x } }

/-- Whether a channel's side answer is SENDING. -/
def sideSending (s : State) (m : Mgmt) : Bool :=
  match sideOf s m with
  | .sending _ _ _ _ => true
  | _ => false

/-- Whether a channel's side answer is absent. -/
def sideAbsent (s : State) (m : Mgmt) : Bool :=
  match sideOf s m with
  | .absent => true
  | _ => false

/-- The end of a side answer (R153). -/
def endSide (m : Mgmt) (s : State) : State := setSide m .absent s

/-- A frame for a management channel. -/
def mgmtFrameOut (m : Mgmt) (part : MgmtPart) (id : Ident) (owner : Nat) (data : List Byte) (mark : Mark) : OutFrame :=
  outFrame id data (.management m part) owner mark

/-- What the loss of a management frame ends (R5, R6): its exchange, its side answer, or nothing more. -/
def mgmtLost (m : Mgmt) (part : MgmtPart) (owner : Nat) (s : State) : State :=
  match part with
  | .exchange => mgmtFrameGone owner (closeMgmt owner s)
  | .side => endSide m s
  | .loose => s

/-- Offer a management frame, then go on; a discarded one ends what it belongs to (R5, R6, R56, R153). -/
def offerMgmt (m : Mgmt) (part : MgmtPart) (f : OutFrame) (go : State → State) (s : State) : State :=
  match offerResult (s.port (mgmtPort m)) with
  | .joined => go (offerState (mgmtPort m) f s)
  | _ => mgmtLost m part f.owner (offerState (mgmtPort m) f s)

/-- Offer management frames one after the other until one is discarded. -/
def offerMgmtAll (m : Mgmt) (part : MgmtPart) (go : State → State) : List OutFrame → State → State
  | [], s => go s
  | f :: fs, s => offerMgmt m part f (offerMgmtAll m part go fs) s

/-- A refusal outside any exchange: BUSY, or MALFORMED for a broken request (R152, R153). -/
def looseRefusal (m : Mgmt) (id : Ident) (code : Byte) (r : Refuse) (s : State) : State :=
  offerMgmt m .loose (mgmtFrameOut m .loose id 0 (negativeData code (refuseCode r)) .plain) (fun s => s) s

/-! ### The judgement of a complete request (R154, R163) -/

/-- The length of each request's message, byte 0 counted (R169); a Table Write's is in `lengthFits`. -/
def requestLength (code : Nat) : Option Nat :=
  match code with
  | 0x01 => some 1 | 0x02 => some 1 | 0x03 => some 1 | 0x04 => some 2 | 0x05 => some 1 | 0x06 => some 1
  | 0x07 => some 4 | 0x08 => some 2 | 0x10 => some 7 | 0x11 => some 9 | 0x12 => some 4 | 0x13 => some 2
  | 0x14 => some 18 | 0x15 => some 2 | 0x18 => some 4 | 0x19 => some 2 | 0x1A => some 2 | 0x1C => some 3
  | 0x1F => some 1 | _ => none

/-- Whether a message has its request's length (R169). DEDUCED (log 53): a Table Write to a table outside 0 to 6 has no
image length, and is long enough at 4 bytes. -/
def lengthFits (n : Nat) (msg : List Byte) : Bool :=
  if fieldAt msg 0 1 = 0x18 then
    (match readTable (fieldAt msg 1 1) with
     | some t => msg.length == 4 + imageLength t
     | none => decide (4 ≤ msg.length)) && decide (4 ≤ msg.length)
  else msg.length == n

/-- Steps 1 and 2 of R154, and the BUSY of a restarting Agent (R163). DESIGN CHOICE (log 22): BUSY comes after
UNKNOWN_REQUEST and MALFORMED. -/
def requestRefusal (restart : RestartPhase) (msg : List Byte) : Option Refuse :=
  match requestLength (fieldAt msg 0 1) with
  | none => some .unknownRequest
  | some n =>
    if lengthFits n msg = false then some .malformed
    else if restart ≠ .idle then some .busy
    else none

/-- A request's message is complete (R154): a refusal is made ready at once; otherwise the request's own row serves
it. -/
def judgeRequest (x : MgmtExchange) (s : State) : State :=
  match requestRefusal s.agent.restart x.buffer with
  | some r => refuse x r s
  | none => s

/-! ### Gathering a request (R52, R56, R152) -/

/-- A new management exchange's record. -/
def freshMgmt (s : State) (m : Mgmt) (msg : List Byte) (st : MgmtState) : MgmtExchange :=
  { id := s.part.stamp, chan := m, code := msg.headD 0, state := st, seg := .fresh,
    response := (mgmtPair s m).response, buffer := msg, work := .unserved, gapTimer := none }

/-- Put a new management exchange at the end of the list (R55, R56). -/
def joinMgmt (x : MgmtExchange) (s : State) : State :=
  nextStamp { s with exchanges := s.exchanges ++ [.management x] }

/-- A unit opens an exchange in SERVING and completes its request (R56). -/
def openUnit (m : Mgmt) (msg : List Byte) (s : State) : State :=
  let x := freshMgmt s m msg .serving
  judgeRequest x (joinMgmt x s)

/-- A lead opens an exchange in RECEIVING and is answered proceed, allowance 0 and gap 0 ms (R152). -/
def openLead (m : Mgmt) (count : Nat) (msg : List Byte) (s : State) : State :=
  let x := freshMgmt s m msg .receiving
  let s := joinMgmt x s
  let stamp := s.part.stamp
  offerMgmt m .exchange (mgmtFrameOut m .exchange x.response x.id (paceData 0 0 0) (.turn stamp))
    (fun s => nextStamp (setMgmtExchange { x with seg := (x.seg.lead count stamp).proceed 0 0 stamp } s)) s

/-- A request that breaks while it is gathered (R152): its exchange closes, and MALFORMED answers it. -/
def requestBroken (x : MgmtExchange) (s : State) : State :=
  looseRefusal x.chan x.response x.code .malformed (closeMgmt x.id s)

/-- A follow while a request is gathered (R52). -/
def gatherFollow (x : MgmtExchange) (i : Nat) (msg : List Byte) (s : State) : State :=
  if x.seg.phase = .followsDue ∧ i = x.seg.next then
    let x' := { x with buffer := x.buffer ++ msg }
    if i = x.seg.count then
      let y := { x' with state := .serving, seg := x.seg.reset }
      judgeRequest y (setMgmtExchange y s)
    else setMgmtExchange { x' with seg := x.seg.follow msg.length 0 } s
  else requestBroken x s

/-! ### The gateway as the sender of a reply (R53) -/

/-- Begin a reply: its first frame is offered and the exchange moves to ANSWERING (R56). -/
def beginReply (x : MgmtExchange) (reply : List Byte) (s : State) : State :=
  let stamp := s.part.stamp
  let first := firstFrame reply stamp
  offerMgmt x.chan .exchange (mgmtFrameOut x.chan .exchange x.response x.id first.1 first.2)
    (fun s => nextStamp (setMgmtExchange
      { x with state := .answering, seg := firstSeg x.seg reply stamp, work := .ready reply, gapTimer := none } s)) s

/-- The reply an exchange has ready or is sending. -/
def replyOf (x : MgmtExchange) : List Byte :=
  match x.work with
  | .ready r => r
  | _ => []

/-- Offer the reply's follows that the turn allows now (R53). -/
def replyFollows (n : Nat) (x : MgmtExchange) (s : State) : State :=
  let stamp := s.part.stamp
  let plan := planFollows (replyOf x) stamp n x.seg
  offerMgmtAll x.chan .exchange
    (fun s => nextStamp (setMgmtExchange { x with seg := plan.2, gapTimer := none } s))
    (plan.1.map (fun f => mgmtFrameOut x.chan .exchange x.response x.id f.1 f.2)) s

/-- A tool's pace frame for the reply being sent (R53, R56). DEDUCED (log 54): one that comes while a reply of one unit is
still in the queue is out of turn, and ends the message as broken. -/
def answeringPace (x : MgmtExchange) (allowance code gap : Nat) (s : State) : State :=
  if x.seg.phase = .paceDue then
    (if code = 0 then
      let seg := x.seg.resume allowance gap
      replyFollows (burst seg) { x with seg := seg } s
     else if code = 1 then setMgmtExchange { x with seg := x.seg.waited } s
     else closeMgmt x.id s)
  else closeMgmt x.id s

/-! ### The side answer (R153) -/

/-- Begin a side answer's message (R53, R153). -/
def beginSide (m : Mgmt) (msg : List Byte) (s : State) : State :=
  let id := s.part.stamp
  let stamp := s.part.stamp + 1
  let first := firstFrame msg stamp
  let s := nextStamp (nextStamp s)
  offerMgmt m .side (mgmtFrameOut m .side (mgmtPair s m).response id first.1 first.2)
    (setSide m (.sending id (firstSeg .fresh msg stamp) msg none)) s

/-- Offer a side answer's follows that the turn allows now (R53). -/
def sideFollows (n : Nat) (m : Mgmt) (id : Nat) (seg : Seg) (msg : List Byte) (s : State) : State :=
  let stamp := s.part.stamp
  let plan := planFollows msg stamp n seg
  offerMgmtAll m .side (fun s => nextStamp (setSide m (.sending id plan.2 msg none) s))
    (plan.1.map (fun f => mgmtFrameOut m .side (mgmtPair s m).response id f.1 f.2)) s

/-- A tool's pace frame for the side answer being sent (R53, R153). DEDUCED (log 54): as for a reply, one that comes while
a unit is still in the queue ends the message. -/
def sidePace (m : Mgmt) (id : Nat) (seg : Seg) (msg : List Byte) (gapTimer : Option Nat) (allowance code gap : Nat)
    (s : State) : State :=
  if seg.phase = .paceDue then
    (if code = 0 then
      let seg := seg.resume allowance gap
      sideFollows (burst seg) m id seg msg s
     else if code = 1 then setSide m (.sending id seg.waited msg gapTimer) s
     else endSide m s)
  else endSide m s

/-- Whether a unit is a side request: byte 0 is the Status Read or the Attention Read code (R153). -/
def sideRequest (msg : List Byte) : Bool := fieldAt msg 0 1 == 2 || fieldAt msg 0 1 == 3

/-- A well-formed unit or lead on a channel with a pending exchange is refused BUSY (R153). -/
def refuseBusy (m : Mgmt) (msg : List Byte) (s : State) : State :=
  looseRefusal m (mgmtPair s m).response (msg.headD 0) .busy s

/-! ### Frames handed to the Agent (R26, R52, R53, R56, R152, R153) -/

/-- A pace frame, or a malformed one (`none`), goes to the message being sent; with none, it breaks a request being
gathered and is otherwise dropped. -/
def mgmtPace (m : Mgmt) (pace : Option (Nat × Nat × Nat)) (s : State) : State :=
  match sideOf s m with
  | .sending id seg msg gapTimer =>
    (match pace with
     | some (a, code, g) => sidePace m id seg msg gapTimer a code g s
     | none => endSide m s)
  | _ =>
    match mgmtExchange s m with
    | none => s
    | some x =>
      match x.state, pace with
      | .receiving, _ => requestBroken x s
      | .serving, _ => s
      | .answering, some (a, code, g) => answeringPace x a code g s
      | .answering, none => closeMgmt x.id s

/-- A malformed frame, no pace frame, ends the side answer being sent (R53), unless it is a follow (log 23). -/
def sideBad (m : Mgmt) (k : BadKind) (s : State) : State :=
  if sideSending s m = true ∧ k ≠ .follow then endSide m s else s

/-- A malformed frame, no pace frame, ends the exchange's own message: it breaks a request being gathered (R52), and,
unless it is a follow, a reply being sent (R53; log 23). -/
def exchangeBad (m : Mgmt) (k : BadKind) (s : State) : State :=
  match mgmtExchange s m with
  | none => s
  | some x =>
    match x.state with
    | .receiving => requestBroken x s
    | .serving => s
    | .answering => if k = .follow then s else closeMgmt x.id s

/-- A malformed frame that is no pace frame: a malformed unit, a malformed lead or an empty frame breaks every message in
hand on the channel, gathered or sent; a malformed follow breaks only a request. DEDUCED (log 23): from R52, R53 and
R153 together. -/
def mgmtBad (m : Mgmt) (k : BadKind) (s : State) : State := exchangeBad m k (sideBad m k s)

/-- The announced count of the message a follow is read against (R38). -/
def gatherCount (s : State) (m : Mgmt) : Nat :=
  match mgmtExchange s m with
  | some x => if x.state = .receiving then x.seg.count else 0
  | none => 0

/-- A frame on a management channel. -/
def mgmtFrame (m : Mgmt) (data : List Byte) (s : State) : State :=
  match readSsx (gatherCount s m) data with
  | .pace a code g => mgmtPace m (some (a, code, g)) s
  | .bad .pace => mgmtPace m none s
  | .bad k => mgmtBad m k s
  | .unit msg =>
    (match mgmtExchange s m with
     | none => openUnit m msg s
     | some _ =>
       if sideRequest msg && sideAbsent s m then setSide m (.waiting msg) s else refuseBusy m msg s)
  | .lead count msg =>
    (match mgmtExchange s m with
     | none => openLead m count msg s
     | some _ => refuseBusy m msg s)
  | .follow i msg =>
    match mgmtExchange s m with
    | none => s
    | some x => if x.state = .receiving then gatherFollow x i msg s else s

/-- Begin the reply that is ready on a channel, unless its side answer is SENDING (R56, R153). -/
def managementReplyBegins (m : Mgmt) (s : State) : State :=
  match mgmtExchange s m with
  | none => s
  | some x =>
    match x.state, x.work with
    | .serving, .ready reply => if sideSending s m then s else beginReply x reply s
    | _, _ => s

def execManagementReplyBegins (m : Mgmt) (s : State) : Host.Outcome State Fault Refusal :=
  .next (whenAwake s (managementReplyBegins m))

end Sys2Proof.Machine
end

