-- ==== Sys2Proof/Machine/Layouts.lean ====
section
/-! DEFINITION. The bytes of the replies to the reading requests (R155 to R158, R168 to R172). -/

namespace Sys2Proof.Machine

open Sys2Proof

/-! ### Named values and timers -/

/-- A timer field (R170): the remaining ms in 2 bytes, all ones while stopped. -/
def timerBytes : Option Nat → List Byte
  | some n => beBytes 2 n
  | none => [byte 0xFF, byte 0xFF]

/-- An optional number of one byte, all ones when absent (R168). -/
def optByte : Option Nat → Byte
  | some n => byte n
  | none => byte 0xFF

def portStatusByte : PortStatus → Byte
  | .active => byte 0 | .withdrawn => byte 1

def portByte : Port → Byte
  | .W => byte 0 | .E => byte 1 | .C => byte 2

def slotStateByte : SlotState → Byte
  | .empty => byte 0 | .live => byte 1 | .withdrawn => byte 2

def grantStateByte : GrantState → Byte
  | .checking => byte 0 | .recording => byte 1 | .active => byte 2 | .held => byte 3

def exchStateByte : ExchState → Byte
  | .inbound => byte 0 | .staging => byte 1 | .stagedHold => byte 2 | .outbound => byte 3 | .awaiting => byte 4
  | .replying => byte 5

def phaseByte : Phase → Byte
  | .none => byte 0 | .paceDue => byte 1 | .followsDue => byte 2

def mgmtStateByte : MgmtState → Byte
  | .receiving => byte 0 | .serving => byte 1 | .answering => byte 2

def mgmtByte : Mgmt → Byte
  | .W => byte 0 | .C => byte 1

def windowStateByte : WindowState → Byte
  | .openPending => byte 0 | .active => byte 1 | .suspended => byte 2 | .closing => byte 3

/-! ### Identity Read (R155) -/

/-- Family, revision, serial, and the capacities in R155's order, the buffer size in 2 bytes (R169). DESIGN CHOICE (log
57): FIFOs and queues of 32 frames are one capacity, and one byte. -/
def identityFields : List Byte :=
  beBytes 2 0x6130 ++ [Config.revision] ++ beBytes 8 Config.serial.toNat ++
    [byte 3, byte 32, byte 16, byte 4, byte 32, byte 3, byte 8, byte 8, byte 2, byte 2] ++ beBytes 2 448 ++
    [byte 128, byte 16]

/-! ### Status Read (R156, R170) -/

/-- Whether an entry is live, channel by channel, as a channel set (R156, R168). -/
def liveSet (s : State) : Nat :=
  (List.finRange 16).foldl (fun a c => a + if (s.channel c).live then 2 ^ c.val else 0) 0

/-- The lockout's remaining time in seconds, 0 when none runs (R170). DESIGN CHOICE (log 25): a part of a second counts
as a whole one. -/
def lockoutSeconds (s : State) : Nat :=
  match s.grants.lockout with
  | some n => (n + 999) / 1000
  | none => 0

/-- Freshness and availability of a signal (R82, R156). -/
def signalBytes (g : SignalState) : List Byte :=
  [if g.fresh then byte 0 else byte 1, if g.available then byte 0 else byte 1]

/-- The fields of R156 in order. DESIGN CHOICE (log 25): a line's state is a yes/no byte, asserted 1 and deasserted 0, as
its change flag is; the conditions are one set, and each signal two named values. -/
def statusFields (s : State) : List Byte :=
  [if s.part.awake then byte 0 else byte 1, portStatusByte s.ports.w.status, portStatusByte s.ports.e.status,
    portStatusByte s.ports.c.status] ++ beBytes 4 s.record.partTime ++
  [yesNoByte s.lines.ignon, yesNoByte s.lines.stlock, yesNoByte s.lines.tooldet, yesNoByte s.lines.tooldetChanged,
    yesNoByte s.lines.ignonChanged] ++
  [byte (conditions s).toNat] ++ s.signals.toList.flatMap signalBytes ++
  [byte s.grants.failures] ++ beBytes 2 (lockoutSeconds s) ++
  [byte s.grants.grants.length, byte (openWindows s)] ++
  [yesNoByte (!s.store.queue.isEmpty), byte s.store.queue.length] ++
  s.store.fallback.toList.map yesNoByte ++ beBytes 2 (liveSet s) ++ [lockByte s.tables.ports.lock] ++
  [byte s.record.kept.length, byte (settling s).length, byte (reservations s)] ++ beBytes 2 s.record.unrecorded

/-- Serving a Status Read clears both change flags (R13). -/
def clearFlags (s : State) : State :=
  { s with lines := { s.lines with tooldetChanged := false, ignonChanged := false } }

/-! ### Attention Read (R157) -/

/-- The condition of highest priority, 0 for none (R157, R169). -/
def firstAttention (s : State) : Nat := (attentionPending s).headD 0

/-- The state with the returned condition cleared if it is latched (R157). -/
def takeAttention (s : State) : State :=
  { s with agent := { s.agent with attention := clearAttention s.agent.attention (firstAttention s) } }

/-- Condition, and the number still pending after it has been taken (R169). -/
def attentionFields (s : State) : List Byte :=
  [byte (firstAttention s), byte (attentionPending (takeAttention s)).length]

/-! ### Counters Read (R155, R10) -/

def countersBytes (c : Counters) : List Byte :=
  beBytes 2 c.received ++ beBytes 2 c.overrun ++ beBytes 2 c.unroutable ++ beBytes 2 c.late ++
    beBytes 2 c.transmitted ++ beBytes 2 c.discarded ++ beBytes 2 c.withdrawals

def readPort (n : Nat) : Option Port :=
  match n with
  | 0 => some .W | 1 => some .E | 2 => some .C | _ => none

/-! ### Traffic List (R70, R130, R170) -/

def allowanceByte : Allowance → Byte
  | .num n => byte n
  | .rest => byte 0xFF

/-- The reply timer's state and remaining time (R170). -/
def replyTimerBytes : ReplyTimer → List Byte
  | .stopped => [byte 0, byte 0xFF, byte 0xFF]
  | .pendingSend => [byte 1, byte 0xFF, byte 0xFF]
  | .running n => byte 2 :: beBytes 2 n

/-- A channel exchange item, 19 bytes. -/
def channelItem (x : ChannelExchange) : List Byte :=
  [byte 0, byte x.channel.val, x.code, classByte x.cls, roleByte x.role, exchStateByte x.state,
    phaseByte x.seg.phase, byte x.seg.count, byte x.seg.next, allowanceByte x.seg.allow, byte x.seg.gap] ++
  beBytes 2 x.seg.len ++ replyTimerBytes x.timer ++
  [if x.extended then byte 1 else byte 0, byte x.reloads, optByte (x.window.map (·.val))]

/-- A management exchange item, 4 bytes. -/
def mgmtItem (x : MgmtExchange) : List Byte := [byte 1, mgmtByte x.chan, x.code, mgmtStateByte x.state]

def exchangeItem : Exchange → List Byte
  | .channel x => channelItem x
  | .management x => mgmtItem x

/-- A window item, 37 bytes, in the fields of R170. DEDUCED (log 51): they have no place for the reservations held. -/
def windowItem (n : Fin 2) (w : Window) : List Byte :=
  let range := w.range.getD (0, 0)
  let run := w.run.getD { bmax := 0, next := 0, remaining := 0, expected := 0, last := none, erase := false }
  let done := run.last.getD { start := 0, count := 0, counter := 0 }
  [byte 2, byte n.val, byte w.channel.val, byte w.grant, windowStateByte w.state] ++
  beBytes 4 range.1 ++ beBytes 4 range.2 ++ beBytes 2 run.bmax ++ beBytes 5 run.next ++ beBytes 4 run.remaining ++
  [byte run.expected, yesNoByte run.last.isSome, byte done.counter] ++ beBytes 2 done.count ++
  [yesNoByte run.erase] ++ timerBytes w.grace ++ timerBytes w.idle ++ timerBytes w.hold ++
  [optByte (w.buffer.map (·.val))]

/-- The items of the open windows, in window-number order (R130). -/
def windowItems (s : State) : List (List Byte) :=
  ((s.window 0).map (windowItem 0)).toList ++ ((s.window 1).map (windowItem 1)).toList

/-- The item count and the items (R170). -/
def trafficFields (s : State) : List Byte :=
  let items := s.exchanges.map exchangeItem ++ windowItems s
  byte items.length :: items.flatten

/-! ### Grant List (R105, R171) -/

/-- Binding in bits 7 to 4, window number in bits 3 to 0 (R171). -/
def bindingByte : Binding → Byte
  | .none => byte 0
  | .pending w => byte (16 + w.val)
  | .bound w => byte (32 + w.val)
  | .ended => byte 48

/-- Activation time, all ones when absent (R171). -/
def activationBytes : Option Nat → List Byte
  | some n => beBytes 4 n
  | none => beBytes 4 0xFFFFFFFF

/-- A grant item, 16 bytes (R171). DEDUCED (log 51): its fields have no place for the reservation held. -/
def grantItem (g : Grant) : List Byte :=
  [byte g.number, byte g.slot.val] ++ beBytes 2 g.channels.toNat ++ [byte g.classes.toNat] ++ beBytes 2 g.granted ++
    beBytes 2 g.remaining ++ [byte g.extensions, grantStateByte g.state, bindingByte g.binding] ++
    activationBytes g.activation

/-- The challenge record without its value (R105). DESIGN CHOICE (log 25): while it is absent its numbers read all
ones and its sets read empty. -/
def challengeBytes : Option Challenge → List Byte
  | some c => [byte 1, byte c.slot.val] ++ beBytes 2 c.channels.toNat ++ [byte c.classes.toNat] ++
      beBytes 2 c.duration ++ beBytes 2 c.validity
  | none => [byte 0, byte 0xFF, byte 0, byte 0, byte 0, byte 0xFF, byte 0xFF, byte 0xFF, byte 0xFF]

def grantFields (s : State) : List Byte :=
  byte s.grants.grants.length :: s.grants.grants.flatMap grantItem ++ challengeBytes s.grants.challenge ++
    s.grants.slots.toList.map (fun k => slotStateByte k.state)

/-! ### Table Read (R158) -/

/-- Whether an image passes its check word (R164). -/
def Image.passes (i : Image) : Bool := i.check == checkWord i.entries

def storedImage (s : State) (t : TableId) : Image := s.store.images.get (tableFin t)

/-- Whether a stored credential slot passes its check word (R87, R164). -/
def StoredSlot.passes (k : StoredSlot) : Bool := k.check == checkWord [slotImage k.slot.state.number k.slot.key]

/-- Whether a stored failure count passes its check word (R97, R164). -/
def StoredNumber.countPasses (n : StoredNumber) : Bool := n.check == checkWord [countImage n.value]

/-- Whether a stored numbering mark passes its check word (R151, R164). -/
def StoredNumber.markPasses (n : StoredNumber) : Bool := n.check == checkWord [markImage n.value]

/-- The signal state a working Signal Table read adds (R82, R169); an absent raw value reads all ones (R168). -/
def signalStateBytes (g : SignalState) : List Byte :=
  [yesNoByte g.raw.isSome] ++ beBytes 2 (g.raw.getD 0xFFFF) ++
    [if g.available then byte 0 else byte 1, if g.fresh then byte 0 else byte 1] ++ timerBytes g.timer

/-- A working read: whether an overlay applies, the entry, and a signal's state. -/
def workingRead (s : State) (t : TableId) (i : Nat) : List Byte :=
  let overlay := decide (t = .regionMap) && (s.inspector.overlays.get (Fin.ofNat 16 i)).isSome
  yesNoByte overlay :: encodeEntry (s.tables.entry t i) ++
    (if t = .signalTable then signalStateBytes (s.signals.get (Fin.ofNat 4 i)) else [])

/-- A stored read: whether the image passes its check, and the entry as the image holds it. -/
def storedRead (s : State) (t : TableId) (i : Nat) : List Byte :=
  yesNoByte (storedImage s t).passes :: imageAt (storedImage s t).entries i

/-- The fields of a Table Read reply; none when the table, entry or copy does not exist (R158). -/
def tableReadFields (s : State) (t n copy : Nat) : Option (List Byte) :=
  match readTable t with
  | none => none
  | some tb =>
    match entryIndex tb n with
    | none => none
    | some i =>
      if copy = 0 then some ([byte t, byte n, byte copy] ++ workingRead s tb i)
      else if copy = 1 then some ([byte t, byte n, byte copy] ++ storedRead s tb i)
      else none

/-! ### Record Read (R148, R172) -/

def closeCauseByte : CloseCause → Byte
  | .expired => byte 0 | .revoked => byte 1 | .presence => byte 2 | .consumed => byte 3 | .withdrawnSlot => byte 4
  | .restart => byte 5

def outcomeByte : Outcome → Byte
  | .complete => byte 0 | .failed => byte 1 | .aborted => byte 2

def endCauseByte : EndCause → Byte
  | .none => byte 0 | .refused => byte 1 | .closeRefused => byte 2 | .noReply => byte 3 | .broken => byte 4
  | .congested => byte 5 | .regionBarred => byte 6 | .condition => byte 7 | .idle => byte 8 | .portDown => byte 9
  | .revoked => byte 10 | .presence => byte 11 | .withdrawnSlot => byte 12 | .restart => byte 13

/-- The kind of an entry, in R142's order (R172). -/
def kindByte : Detail → Byte
  | .grantOpened _ _ _ => byte 0 | .grantClosed _ => byte 1 | .proofFailed => byte 2 | .lockoutBegan => byte 3
  | .downloadOpened _ _ => byte 4 | .downloadEnded _ _ _ _ _ => byte 5 | .transferRefused _ _ _ => byte 6
  | .tableWritten _ _ => byte 7 | .credentialChanged _ => byte 8

/-- The details of an entry (R172). DESIGN CHOICE (log 52): a start of 2^32 reads as its low 32 bits. -/
def detailBytes : Detail → List Byte
  | .grantOpened ch cl d => beBytes 2 ch.toNat ++ [byte cl.toNat] ++ beBytes 2 d
  | .grantClosed c => [closeCauseByte c]
  | .proofFailed => []
  | .lockoutBegan => []
  | .downloadOpened a l => beBytes 4 a ++ beBytes 4 l
  | .downloadEnded a l r o c => beBytes 4 a ++ beBytes 4 l ++ beBytes 4 r ++ [outcomeByte o, endCauseByte c]
  | .transferRefused a l r => beBytes 4 a ++ beBytes 4 l ++ [byte (reasonCode r)]
  | .tableWritten t n => [byte (tableNumber t), byte n, byte 1]
  | .credentialChanged w => [if w then byte 1 else byte 0]

/-- Bytes filled up with zeros to a length. -/
def padTo (n : Nat) (bs : List Byte) : List Byte := bs ++ List.replicate (n - bs.length) (byte 0)

/-- The presence byte of an entry (R172). -/
def presenceByte (e : Entry) : Byte :=
  byte ((if e.grant.isSome then 1 else 0) + (if e.slot.isSome then 2 else 0) + (if e.channel.isSome then 4 else 0) +
    (if e.unrecorded = 0 then 0 else 8))

/-- An entry as read, 30 bytes; an absent field reads 0 (R172). -/
def entryBytes (e : Entry) : List Byte :=
  beBytes 4 e.number ++ beBytes 4 e.time ++ [kindByte e.detail, presenceByte e, byte (e.grant.getD 0),
    byte ((e.slot.map (·.val)).getD 0), byte ((e.channel.map (·.1.val)).getD 0), (e.channel.map (·.2)).getD 0] ++
  beBytes 2 e.unrecorded ++ padTo 14 (detailBytes e.detail)

/-- An entry as it is stored, with the check word of its image (R151, R164). DESIGN CHOICE (log 26): the image is the
entry's 30 bytes. -/
def StoredEntry.of (e : Entry) : StoredEntry := { entry := e, check := checkWord [entryBytes e] }

/-- Whether a stored entry passes its check word (R151). -/
def StoredEntry.passes (x : StoredEntry) : Bool := x.check == checkWord [entryBytes x.entry]

/-- The stored entries that pass their check words, in the order they were stored (R151). -/
def storedKept (s : State) : List Entry := (s.store.entries.filter (·.passes)).map (·.entry)

/-- How many entries a Record Read of `n` returns (R148): one reply carries at most 14 (R172). -/
def recordCount (s : State) (n : Nat) : Nat := min 14 (min n s.record.kept.length)

def recordFields (s : State) (n : Nat) : List Byte :=
  [byte s.record.kept.length, byte (recordCount s n)] ++ (s.record.kept.take (recordCount s n)).flatMap entryBytes

end Sys2Proof.Machine
end

