-- ==== Sys2Proof/Machine/Reads.lean ====
section
/-! DEFINITION. The reading requests (section 10.3, R70, R105, R148), each served at once, and the side answer's
beginning, at which a side request is served (R153). -/

namespace Sys2Proof.Machine

open Sys2Proof

/-- Identity Read (R155). -/
def execIdentityRead (m : Mgmt) (s : State) : Host.Outcome State Fault Refusal :=
  .next (serve m 0x01 (fun x s => accept x identityFields s) s)

/-- Status Read (R156): the reply shows the flags, then both are cleared (R13). -/
def execStatusRead (m : Mgmt) (s : State) : Host.Outcome State Fault Refusal :=
  .next (serve m 0x02 (fun x s => accept x (statusFields s) (clearFlags s)) s)

/-- Attention Read (R157). -/
def execAttentionRead (m : Mgmt) (s : State) : Host.Outcome State Fault Refusal :=
  .next (serve m 0x03 (fun x s => accept x (attentionFields s) (takeAttention s)) s)

/-- Counters Read (R155): a port outside the three is BAD_ENTRY. -/
def countersRead (x : MgmtExchange) (s : State) : State :=
  match readPort (fieldAt x.buffer 1 1) with
  | some p => accept x (portByte p :: countersBytes (s.port p).counters) s
  | none => refuse x .badEntry s

def execCountersRead (m : Mgmt) (s : State) : Host.Outcome State Fault Refusal := .next (serve m 0x04 countersRead s)

/-- Traffic List (R70, R130). -/
def execTrafficList (m : Mgmt) (s : State) : Host.Outcome State Fault Refusal :=
  .next (serve m 0x05 (fun x s => accept x (trafficFields s) s) s)

/-- Grant List (R105). -/
def execGrantList (m : Mgmt) (s : State) : Host.Outcome State Fault Refusal :=
  .next (serve m 0x06 (fun x s => accept x (grantFields s) s) s)

/-- Table Read (R158). -/
def tableRead (x : MgmtExchange) (s : State) : State :=
  match tableReadFields s (fieldAt x.buffer 1 1) (fieldAt x.buffer 2 1) (fieldAt x.buffer 3 1) with
  | some fields => accept x fields s
  | none => refuse x .badEntry s

def execTableRead (m : Mgmt) (s : State) : Host.Outcome State Fault Refusal := .next (serve m 0x07 tableRead s)

/-- Record Read (R148). -/
def execRecordRead (m : Mgmt) (s : State) : Host.Outcome State Fault Refusal :=
  .next (serve m 0x08 (fun x s => accept x (recordFields s (fieldAt x.buffer 1 1)) s) s)

/-! ### The side answer (R153, R156, R157) -/

/-- The message of a side answer, taken as it begins: a request of the wrong length is MALFORMED (R154). -/
def sideMessage (s : State) (request : List Byte) : List Byte :=
  let code := request.headD 0
  if request.length ≠ 1 then refusalBytes code .malformed
  else if code = byte 2 then positiveBytes code (statusFields s)
  else positiveBytes code (attentionFields s)

/-- What serving a side request changes: the flags a Status Read clears, the condition an Attention Read takes. -/
def sideServed (request : List Byte) (s : State) : State :=
  if request.length ≠ 1 then s
  else if request.headD 0 = byte 2 then clearFlags s
  else takeAttention s

/-- Whether a channel's exchange is ANSWERING, so that the channel is sending another message (R153). -/
def answering (s : State) (m : Mgmt) : Bool :=
  match mgmtExchange s m with
  | some x => x.state == .answering
  | none => false

/-- A WAITING side answer begins SENDING (R153). -/
def sideBegins (m : Mgmt) (s : State) : State :=
  match sideOf s m with
  | .waiting request => if answering s m then s else beginSide m (sideMessage s request) (sideServed request s)
  | _ => s

def execSideAnswerBegins (m : Mgmt) (s : State) : Host.Outcome State Fault Refusal := .next (whenAwake s (sideBegins m))

end Sys2Proof.Machine
end

