-- ==== Sys2Proof/Machine/Blocks.lean ====
section
/-! DEFINITION. Download blocks (R118 to R121), and the watched conditions of the windows (R125): a window that
returns to ACTIVE checks and sends the block it held, or answers the lead that waited. -/

namespace Sys2Proof.Machine

open Sys2Proof

/-! ### Entries for refused transfers -/

/-- A TRANSFER_REFUSED entry of a window, not into a reservation (R119, R120, R124). -/
def refuseTransfer (x : Window) (start length : Nat) (r : Reason) (s : State) : State :=
  appendEntry (.transferRefused start length r) (some x.grant) (some x.slot) (some x.channel) s

/-! ### Barred sets as they stand (R111) -/

def channelWriteBars (s : State) (c : Fin 16) : List (Nat × Nat) :=
  writeBarsWith (s.tables.maps.get c) (s.inspector.overlays.get c)

def channelEraseBars (s : State) (c : Fin 16) : List (Nat × Nat) :=
  eraseBarsWith (s.tables.maps.get c) (s.inspector.overlays.get c)

/-! ### Sending a staged block (R121) -/

/-- The bytes in a window's staging buffer. -/
def stagedBytes (s : State) (x : Window) : List Byte :=
  match x.buffer with
  | some b => s.inspector.buffers.get b
  | none => []

/-- The exchange moves to OUTBOUND_TO_ECU and the first frame of the staged message is offered (R121, R53). -/
def sendBlock (x : ChannelExchange) (v : Window) (s : State) : State :=
  let msg := stagedBytes s v
  let stamp := s.part.stamp
  let first := firstFrame msg stamp
  offerThen x (targetPort s x.channel) (toController s x first.1 false first.2)
    (fun s => nextStamp
      (setChannelExchange { x with state := .outbound, seg := firstSeg x.seg msg stamp, gapTimer := none } s)) s

/-- The check of a block in hand at the moment it is about to leave (R120). -/
def checkBlock (w : Fin 2) (x : ChannelExchange) (v : Window) (s : State) : State :=
  match v.inHand with
  | some b =>
    if hitsBars (channelWriteBars s v.channel) b.start (b.start + b.count) then
      abortWindow w .regionBarred .regionBarred true (refuseTransfer v b.start b.count .regionBarred s)
    else sendBlock x v s
  | none => s

/-- Offer follows of a block being re-sent: those the turn allows now (R53). -/
def sendFollows (n : Nat) (x : ChannelExchange) (s : State) : State :=
  match x.window.bind s.window with
  | some v =>
    let stamp := s.part.stamp
    let plan := planFollows (stagedBytes s v) stamp n x.seg
    offerAll x (targetPort s x.channel)
      (fun s => nextStamp (setChannelExchange { x with seg := plan.2, gapTimer := none } s))
      (plan.1.map (fun f => toController s x f.1 false f.2)) s
  | none => s

/-- A re-sent block has been sent whole: the buffer is released and the exchange moves to AWAITING with its reply
timer RUNNING (R121, R61). -/
def blockSent (x : ChannelExchange) (s : State) : State :=
  let s := match x.window with
    | some w => (match s.window w with
      | some v => setWindow w (some { v with buffer := none }) s
      | none => s)
    | none => s
  setChannelExchange { x with state := .awaiting, seg := x.seg.reset, gapTimer := none, extended := false,
                              timer := .running (s.channel x.channel).replyTimeout } s

/-! ### The pace frames of a block's receiver (R118) -/

/-- Answer a block lead with proceed, allowance 0 and gap 0 ms. -/
def sendProceed (x : ChannelExchange) (s : State) : State :=
  let stamp := s.part.stamp
  offerThen x .W (toTool s x (paceData 0 0 0) true (.turn stamp))
    (fun s => nextStamp (setChannelExchange { x with seg := x.seg.proceed 0 0 stamp } s)) s

/-- Answer a block lead with wait, which presets no segment timer (R48, R52). -/
def sendWait (x : ChannelExchange) (s : State) : State :=
  offerThen x .W (toTool s x (paceData 0 1 0) true .plain) (fun s => s) s

/-! ### The watched conditions (R125) -/

/-- A SUSPENDED window all of whose watched conditions are true becomes ACTIVE; a held block is checked and sent, a
waiting lead answered. -/
def resumeWindow (w : Fin 2) (x : Window) (s : State) : State :=
  let v := { x with state := .active, grace := none }
  let s := setWindow w (some v) s
  match linkedExchange s w with
  | some e =>
    if e.state = .stagedHold then checkBlock w e v (setWindow w (some { v with hold := none }) s)
    else if e.state = .staging ∧ e.seg.phase = .paceDue then
      sendProceed e (setWindow w (some { v with hold := none }) s)
    else s
  | none => s

/-- The test of one window (R125). -/
def testWindow (w : Fin 2) (s : State) : State :=
  match s.window w with
  | some x =>
    if x.state = .suspended then (if allTrue s (watched s) then resumeWindow w x s else s) else suspendTest w s
  | none => s

/-- The test of every window, made at each condition change and at each write of the REPROGRAM policy (R84, R125).
DESIGN CHOICE (log 46): window 0 is tested, and acts, before window 1. -/
def testWindows (s : State) : State := testWindow 1 (testWindow 0 s)

/-- What the Condition Monitor reports after an event: the windows are tested if any condition changed (R84). -/
def reportConditions (before : BitVec 5) (s : State) : State :=
  if conditions s = before then s else testWindows s

/-! ### Gathering and judging a block (R118, R119) -/

/-- A block that is refused while its window goes on (R119). -/
def refuseBlock (x : ChannelExchange) (r : Reason) (s : State) : State := closeDownload x r s

/-- A block that passes R119 becomes the block in hand; it is checked at once or held. -/
def takeBlock (w : Fin 2) (x : ChannelExchange) (v : Window) (b : HandBlock) (s : State) : State :=
  let held := v.state == .suspended
  let v' := { v with inHand := some b, hold := if held then some 2000 else v.hold }
  let s := setWindow w (some v') s
  if held then setChannelExchange { x with state := .stagedHold } s else checkBlock w x v' s

/-- A complete block message is judged by its counter and length (R119). -/
def judgeBlock (x : ChannelExchange) (s : State) : State :=
  match x.window with
  | none => s
  | some w =>
    match s.window w with
    | none => s
    | some v =>
      match v.run with
      | none => refuseBlock x .sequence s
      | some r =>
        let msg := stagedBytes s v
        let k := fieldAt msg 1 1
        let n := msg.length - 2
        if msg.length < 3 then refuseBlock x .outOfWindow (refuseTransfer v r.next 0 .outOfWindow s)
        else if k = r.expected then
          (if n ≤ min r.bmax r.remaining then
            takeBlock w x v { start := r.next, count := n, counter := k, again := false } s
           else refuseBlock x .outOfWindow (refuseTransfer v r.next n .outOfWindow s))
        else
          match r.last with
          | some d =>
            if k = d.counter ∧ n = d.count then
              takeBlock w x v { start := d.start, count := n, counter := k, again := true } s
            else refuseBlock x .sequence s
          | none => refuseBlock x .sequence s

/-- The lowest free staging buffer (R118). -/
def freeBuffer (s : State) : Fin 2 :=
  let holds (w : Fin 2) : Bool := match s.window w with
    | some x => x.buffer == some 0
    | none => false
  if holds 0 || holds 1 then 1 else 0

/-- Store bytes in a staging buffer. -/
def setBuffer (b : Fin 2) (bytes : List Byte) (s : State) : State :=
  { s with inspector := { s.inspector with buffers := put s.inspector.buffers b bytes } }

/-- The first frame of an admitted Download Block (R118): a buffer is taken; a unit is judged at once, a lead is
answered proceed, or wait while the window is SUSPENDED. -/
def stageFirst (x : ChannelExchange) (w : Fin 2) (v : Window) (first : Ssx) (s : State) : State :=
  let b := freeBuffer s
  match first with
  | .unit msg => judgeBlock x (setBuffer b msg (setWindow w (some { v with buffer := some b }) s))
  | .lead count msg =>
    let x' := { x with seg := x.seg.lead count 0 }
    let s := setChannelExchange x' (setBuffer b msg s)
    if v.state = .suspended then
      sendWait x' (setWindow w (some { v with buffer := some b, hold := some 2000 }) s)
    else sendProceed x' (setWindow w (some { v with buffer := some b }) s)
  | _ => s

/-- A tool frame while a block is STAGING (R52, R118, R60). -/
def stagingFrame (x : ChannelExchange) (frame : Ssx) (s : State) : State :=
  match frame with
  | .follow i msg =>
    if x.seg.phase = .followsDue ∧ i = x.seg.next then
      match x.window.bind s.window with
      | some v =>
        let s := (match v.buffer with
          | some b => setBuffer b (stagedBytes s v ++ msg) s
          | none => s)
        if i = x.seg.count then
          let x' := { x with seg := x.seg.reset }
          judgeBlock x' (setChannelExchange x' s)
        else setChannelExchange { x with seg := x.seg.follow msg.length 0 } s
      | none => closeExchange x .broken s
    else closeExchange x .broken s
  | _ => closeExchange x .broken s

end Sys2Proof.Machine
end

