-- ==== Sys2Proof/Machine/Admission.lean ====
section
/-! DEFINITION. The Admission Unit (section 5.3): the decision on the first frame of a request, with the Download
Inspector's part of it (R77, R80, R113, R124). -/

namespace Sys2Proof.Machine

open Sys2Proof

/-- The Admission Unit's answer. `linked` admits a step of an open download, `opening` an Open under a covering
grant, for which a window is to be taken. -/
inductive Decision where
  | refuse (r : Reason)
  | pass (cls : ServiceClass) (role : Option Role)
  | linked (role : Role) (w : Fin 2)
  | opening (grant : Nat) (slot : Fin 8) (w : Fin 2)
deriving DecidableEq, Repr

/-- A message's byte 0, the service or request code. -/
def codeOf (msg : List Byte) : Byte := msg.headD 0

/-- The Service Class Map entry of a code; none outside 0x01..0x7E (R72, R77). -/
def classOf (s : State) (code : Byte) : Option CodeEntry :=
  if h : 1 ≤ code.toNat ∧ code.toNat ≤ 126 then some (s.tables.codes.get ⟨code.toNat - 1, by omega⟩) else none

/-- The Class Policy entry of a class; FORBIDDEN has none and is refused before this is asked (R75). -/
def policyOf (s : State) : ServiceClass → PolicyEntry
  | .observe => s.tables.policies.get 0
  | .clear => s.tables.policies.get 1
  | .actuate => s.tables.policies.get 2
  | .configure => s.tables.policies.get 3
  | .reprogram => s.tables.policies.get 4
  | .forbidden => PolicyEntry.fallback

/-- Whether a class is open on a channel (R17, R75). -/
def classOpen (e : ChannelEntry) (cls : ServiceClass) : Bool :=
  match cls with
  | .observe => e.openClasses.getLsbD 0
  | .clear => e.openClasses.getLsbD 1
  | .actuate => e.openClasses.getLsbD 2
  | .configure => e.openClasses.getLsbD 3
  | _ => false

/-- Whether a grant covers a request (R78). DEDUCED (log 20): "never yet bound to a download window" is binding
NONE. -/
def covers (g : Grant) (c : Fin 16) (cls : ServiceClass) (opening : Bool) : Bool :=
  g.state == .active && g.channels.getLsbD c.val && hasBit g.classes (classBit cls) &&
    (!opening || g.binding == .none)

/-- The covering grant: the earliest in the Grant Table (R78). -/
def coveringGrant (s : State) (c : Fin 16) (cls : ServiceClass) (opening : Bool) : Option Grant :=
  s.grants.grants.find? (fun g => covers g c cls opening)

/-- Whether a request of a class needs a grant on a channel (R78). -/
def needsGrant (s : State) (c : Fin 16) (cls : ServiceClass) : Bool :=
  !classOpen (s.channel c) cls && (policyOf s cls).grantNeeded

/-- Whether a first frame can begin a message with one follow: an Open's 10 bytes, an Erase's 9 (R113, R124). -/
def oneFollow : Ssx → Bool
  | .lead count _ => count == 1
  | _ => false

/-- The lowest free window number (R113). -/
def freeWindow (s : State) : Option (Fin 2) :=
  match s.window 0 with
  | none => some 0
  | some _ =>
    (match s.window 1 with
     | none => some 1
     | some _ => none)

/-- The Inspector's judgement of an Open's first frame (R113). -/
def judgeOpening (s : State) (c : Fin 16) (first : Ssx) (g : Grant) : Decision :=
  match windowOn s c, freeWindow s with
  | none, some w =>
    if !oneFollow first then .refuse .outOfWindow
    else if freeRoom s < 2 then .refuse .recordFull
    else .opening g.number g.slot w
  | _, _ => .refuse .windowBusy

/-- Steps R78 to R80 for a code that is not a download step. -/
def judgeClass (s : State) (c : Fin 16) (cls : ServiceClass) (role : Option Role) (first : Ssx) : Decision :=
  let opening := decide (role = some .opening)
  let cover := coveringGrant s c cls opening
  if (needsGrant s c cls || opening) && cover.isNone then .refuse .notGranted
  else if allTrue s (policyOf s cls).required = false then .refuse .condition
  else
    match opening, cover with
    | true, some g => judgeOpening s c first g
    | _, _ => .pass cls role

/-- A download step (R77 step 3): linked to the channel's window; an Erase whose frame cannot begin a 9-byte message
is refused at once (R124). -/
def judgeStep (s : State) (c : Fin 16) (role : Role) (first : Ssx) : Decision :=
  match windowOn s c with
  | none => .refuse .noWindow
  | some (w, _) => if role = .erase ∧ oneFollow first = false then .refuse .outOfWindow else .linked role w

/-- The admission decision (R77 to R80). -/
def admission (s : State) (c : Fin 16) (code : Byte) (first : Ssx) : Decision :=
  match classOf s code with
  | none => .refuse .forbidden
  | some e =>
    match e.cls, e.role with
    | .forbidden, _ => .refuse .forbidden
    | .reprogram, some .block => judgeStep s c .block first
    | .reprogram, some .closing => judgeStep s c .closing first
    | .reprogram, some .erase => judgeStep s c .erase first
    | cls, role => judgeClass s c cls role first

/-- The judgement of a request's first frame (R57): the target port first, then admission. -/
def judgeFirst (s : State) (c : Fin 16) (code : Byte) (first : Ssx) : Decision :=
  if (s.port (targetPort s c)).status = .withdrawn then .refuse .portDown else admission s c code first

/-- Take a window for an admitted Open (R113): OPEN_PENDING with two reservations, reported to the Grant Unit. -/
def takeWindow (c : Fin 16) (grant : Nat) (slot : Fin 8) (w : Fin 2) (s : State) : State :=
  relamp (reportTaken grant w (setWindow w
    (some { channel := c, grant := grant, slot := slot, state := .openPending, range := none, run := none,
            inHand := none, grace := none, idle := none, hold := none, buffer := none, reservations := 2 }) s))

end Sys2Proof.Machine
end

