-- ==== Sys2Proof/Machine/Tracker.lean ====
section
/-! DEFINITION. The Exchange Tracker (chapters 3 and 4): opening an exchange, following its segments in both
directions, the judgement of Open, Close and Erase when complete, and the controller's reply. -/

namespace Sys2Proof.Machine

open Sys2Proof

/-! ### The end of a request (R61) and its passing frames (R44, R47) -/

/-- The exchange once its whole request has been offered: AWAITING, PENDING_SEND with basis REPLY (R61). -/
def requestDone (x : ChannelExchange) : ChannelExchange :=
  { x with state := .awaiting, seg := x.seg.reset, timer := .pendingSend, extended := false, gathered := [] }

/-- Offer the last frame of a request (R44, R47 step 2, R61). -/
def passLast (x : ChannelExchange) (data : List Byte) (s : State) : State :=
  offerThen x (targetPort s x.channel) (toController s x data false .lastRequest)
    (setChannelExchange (requestDone x)) s

/-! ### Close (R123) -/

/-- A complete Close: INCOMPLETE while bytes remain, otherwise the window becomes CLOSING and the last frame is
offered. -/
def judgeClose (x : ChannelExchange) (data : List Byte) (s : State) : State :=
  match x.window with
  | none => passLast x data s
  | some w =>
    match s.window w with
    | none => passLast x data s
    | some v =>
      if endRemaining v ≠ 0 then closeDownload x .incomplete s
      else passLast x data (setWindow w (some { v with state := .closing, grace := none, hold := none }) s)

/-! ### Open (R114) -/

/-- The refusal of a complete Open, if any, with whether it is a range refusal (R114). -/
def openRefusal (s : State) (c : Fin 16) (msg : List Byte) : Option (Reason × Bool) :=
  let m := s.tables.maps.get c
  let a := fieldAt msg 2 4
  let l := fieldAt msg 6 4
  if msg.length ≠ 10 then some (.outOfWindow, false)
  else if m.present = false then some (.outOfWindow, true)
  else if ¬(1 ≤ l ∧ a + l ≤ 2 ^ 32) then some (.outOfWindow, true)
  else if ¬(m.base ≤ a ∧ a + l ≤ m.base + 2 ^ m.exponent) then some (.outOfWindow, true)
  else if hitsBars (channelWriteBars s c) a (a + l) then some (.regionBarred, true)
  else none

/-- An Open refused at its check (R114): its exchange is closed with the reason; a range refusal is entered into one
reservation; the window ends without having become ACTIVE. -/
def refuseOpen (w : Fin 2) (v : Window) (msg : List Byte) (r : Reason) (range : Bool) (s : State) : State :=
  let s := closeLinked w r s
  if range then
    let v' := { v with reservations := v.reservations - 1 }
    let s := setWindow w (some v') s
    endPendingSilent w v' true
      (appendInto (decide (0 < v.reservations)) (.transferRefused (fieldAt msg 2 4) (fieldAt msg 6 4) r)
        (some v.grant) (some v.slot) (some v.channel) s)
  else endPendingSilent w v true s

/-- A complete Open (R114). -/
def judgeOpen (x : ChannelExchange) (msg data : List Byte) (s : State) : State :=
  match x.window with
  | none => passLast x data s
  | some w =>
    match s.window w with
    | none => passLast x data s
    | some v =>
      match openRefusal s x.channel msg with
      | some (r, range) => refuseOpen w v msg r range s
      | none =>
        passLast x data (setWindow w (some { v with range := some (fieldAt msg 2 4, fieldAt msg 6 4) }) s)

/-! ### Erase (R124) -/

/-- A complete Erase, checked in the order of R124. -/
def judgeErase (x : ChannelExchange) (msg data : List Byte) (s : State) : State :=
  match x.window with
  | none => passLast x data s
  | some w =>
    match s.window w with
    | none => passLast x data s
    | some v =>
      let a := fieldAt msg 1 4
      let m := fieldAt msg 5 4
      let lo := (v.range.getD (0, 0)).1
      let hi := lo + (v.range.getD (0, 0)).2
      let permitted := match v.run with
        | some r => r.erase
        | none => false
      if msg.length ≠ 9 then closeDownload x .outOfWindow s
      else if v.state ≠ .active then closeDownload x .condition s
      else if permitted = false then closeDownload x .sequence s
      else if ¬(1 ≤ m ∧ lo ≤ a ∧ a + m ≤ hi) then
        closeDownload x .outOfWindow (refuseTransfer v a m .outOfWindow s)
      else if hitsBars (channelEraseBars s v.channel) a (a + m) then
        abortWindow w .regionBarred .regionBarred true (refuseTransfer v a m .regionBarred s)
      else passLast x data s

/-! ### The request's frames -/

/-- Whether an exchange's request bytes are read by the Inspector when it is complete (R114, R124). -/
def readsRequest (x : ChannelExchange) : Bool := x.role == some .opening || x.role == some .erase

/-- Whether a message of this role is judged by the Inspector before its last frame is offered. -/
def lastRequestFrame (x : ChannelExchange) (msg data : List Byte) (s : State) : State :=
  match x.role with
  | some .opening => judgeOpen x msg data s
  | some .closing => judgeClose x data s
  | some .erase => judgeErase x msg data s
  | _ => passLast x data s

/-- The first frame of an admitted request (R58, R44): a unit completes it, a lead gives the turn away. -/
def passFirst (x : ChannelExchange) (first : Ssx) (data : List Byte) (s : State) : State :=
  match first with
  | .unit msg => lastRequestFrame x msg data s
  | .lead count msg =>
    let stamp := s.part.stamp
    offerThen x (targetPort s x.channel) (toController s x data false (.turn stamp))
      (fun s => nextStamp (setChannelExchange
        { x with seg := x.seg.lead count stamp, gathered := if readsRequest x then msg else [] } s)) s
  | _ => s

/-- A new exchange's record (R58). -/
def freshExchange (id : Nat) (c : Fin 16) (code : Byte) (cls : ServiceClass) (role : Option Role)
    (w : Option (Fin 2)) (st : ExchState) : ChannelExchange :=
  { id := id, channel := c, code := code, cls := cls, role := role, state := st, seg := .fresh, timer := .stopped,
    extended := false, reloads := 0, window := w, form := .other, gathered := [], gapTimer := none }

/-- Put a new exchange at the end of the list (R55). -/
def joinList (x : ChannelExchange) (s : State) : State :=
  nextStamp { s with exchanges := s.exchanges ++ [.channel x] }

/-- A linked exchange opens on a window: its idle timer stops (R127). -/
def stopIdle (w : Fin 2) (s : State) : State :=
  match s.window w with
  | some v => setWindow w (some { v with idle := none }) s
  | none => s

/-- A step of an open download is opened (R58): a Block is STAGING, a Close or an Erase INBOUND. -/
def openStep (c : Fin 16) (code : Byte) (role : Role) (w : Fin 2) (first : Ssx) (data : List Byte) (s : State) :
    State :=
  let st : ExchState := if role = .block then .staging else .inbound
  let x := freshExchange s.part.stamp c code .reprogram (some role) (some w) st
  let s := stopIdle w (joinList x s)
  if role = .block then
    (match s.window w with
     | some v => stageFirst x w v first s
     | none => s)
  else passFirst x first data s

/-- A request's first frame on a free channel is judged, and its exchange opened or refused (R57, R58, R59). -/
def newRequest (c : Fin 16) (first : Ssx) (msg data : List Byte) (s : State) : State :=
  let code := codeOf msg
  match judgeFirst s c code first with
  | .refuse r => gatewayReply c code (reasonCode r) s
  | .pass cls role =>
    let x := freshExchange s.part.stamp c code cls role none .inbound
    passFirst x first data (joinList x s)
  | .linked role w => openStep c code role w first data s
  | .opening g slot w =>
    let x := freshExchange s.part.stamp c code .reprogram (some .opening) (some w) .inbound
    passFirst x first data (joinList x (takeWindow c g slot w s))

/-- A follow of the request with the next index (R47). -/
def requestFollow (x : ChannelExchange) (i : Nat) (msg data : List Byte) (s : State) : State :=
  let bytes := if readsRequest x then x.gathered ++ msg else []
  if i = x.seg.count then lastRequestFrame x bytes data s
  else
    let stamp := s.part.stamp
    let seg := x.seg.follow msg.length stamp
    offerThen x (targetPort s x.channel)
      (toController s x data false (if seg.phase = .paceDue then .turn stamp else .plain))
      (fun s => nextStamp (setChannelExchange { x with seg := seg, gathered := bytes } s)) s

/-! ### Pace frames passed on (R45, R46) -/

/-- A controller's pace frame for the request, clamped when it says proceed (R45, R46). -/
def requestPace (x : ChannelExchange) (allowance code gap : Nat) (data : List Byte) (s : State) : State :=
  let e := s.channel x.channel
  let stamp := s.part.stamp
  if code = 0 then
    offerThen x .W (toTool s x (clampPace e.maxAllowance e.minGap data allowance gap) true (.turn stamp))
      (fun s => nextStamp (setChannelExchange
        { x with seg := x.seg.proceed (clampAllowance e.maxAllowance allowance) (clampGap e.minGap gap) stamp } s)) s
  else if code = 1 then
    offerThen x .W (toTool s x data true (.turn stamp))
      (fun s => nextStamp (setChannelExchange { x with seg := { x.seg with timer := none, turn := stamp } } s)) s
  else offerThen x .W (toTool s x data true .plain) (closeExchange x .answered) s

/-- The tool's pace frame for the reply, passed as received (R45). -/
def replyPace (x : ChannelExchange) (allowance code gap : Nat) (data : List Byte) (s : State) : State :=
  let stamp := s.part.stamp
  let p := targetPort s x.channel
  if code = 0 then
    offerThen x p (toController s x data true (.turn stamp))
      (fun s => nextStamp (setChannelExchange { x with seg := x.seg.proceed allowance gap stamp } s)) s
  else if code = 1 then
    offerThen x p (toController s x data true (.turn stamp))
      (fun s => nextStamp (setChannelExchange { x with seg := { x.seg with timer := none, turn := stamp } } s)) s
  else offerThen x p (toController s x data true .plain) (closeExchange x .answered) s

/-! ### The reply (R62, R63) and its report to the Inspector (R68, R115, R116, R122, R123) -/

/-- Bmax of a controller's maximum block length (R115 step 1). -/
def bmaxOf (n : Nat) : Nat := if n = 0 then 1 else min 446 n

/-- The reply frame with its bytes 1 and 2 rewritten with Bmax (R115 step 1). -/
def rewriteBmax (bmax : Nat) (data : List Byte) : List Byte :=
  (data.set 2 (byte (bmax / 256))).set 3 (byte (bmax % 256))

/-- An Open is accepted (R115 steps 2 to 5). -/
def acceptOpen (w : Fin 2) (v : Window) (bmax : Nat) (s : State) : State :=
  let (a, l) := v.range.getD (0, 0)
  let run : WindowRun := { bmax := bmax, next := a, remaining := l, expected := 1, last := none, erase := true }
  let v' := { v with state := .active, run := some run, reservations := v.reservations - 1 }
  let s := appendInto (decide (0 < v.reservations)) (.downloadOpened a l) (some v.grant) (some v.slot)
    (some v.channel) (setWindow w (some v') s)
  suspendTest w (reportActive v.grant w s)

/-- A positive reply to a new block advances the window (R122). -/
def advance (b : HandBlock) (r : WindowRun) : WindowRun :=
  if b.again then r
  else { r with next := r.next + b.count, remaining := r.remaining - b.count, expected := (b.counter + 1) % 256,
                last := some { start := b.start, count := b.count, counter := b.counter }, erase := false }

/-- The window after a positive reply to a Block (R122). -/
def blockAnswered (w : Fin 2) (v : Window) (s : State) : State :=
  match v.inHand, v.run with
  | some b, some r => setWindow w (some { v with run := some (advance b r) }) s
  | _, _ => s

/-- The Inspector's part in a final reply: the state after its report, and the frame's data as they are to be
passed; nothing when the reply is withheld (R115, R116, R122, R123). -/
def inspectReply (x : ChannelExchange) (form : ReplyForm) (msg data : List Byte) (s : State) :
    State × Option (List Byte) :=
  match x.window with
  | none => (s, some data)
  | some w =>
    match s.window w with
    | none => (s, some data)
    | some v =>
      match v.state, x.role with
      | .openPending, _ =>
        if form = .positive then
          (if msg.length < 3 then
            (endPending w v .failed .broken true (closeLinked w .broken s), none)
           else
            let bmax := bmaxOf (fieldAt msg 1 2)
            (acceptOpen w v bmax s, some (rewriteBmax bmax data)))
        else (endPendingSilent w v true s, some data)
      | .closing, _ =>
        if form = .positive then (endActive w v .complete .none true s, some data)
        else (endActive w v .failed .closeRefused true s, some data)
      | _, some .block => if form = .positive then (blockAnswered w v s, some data) else (s, some data)
      | _, _ => (s, some data)

/-- After a still-working message has been passed whole: the wait is extended (R63). -/
def extendWait (s : State) (x : ChannelExchange) : ChannelExchange :=
  { x with state := .awaiting, seg := x.seg.reset, reloads := x.reloads + 1, extended := true,
           timer := .running ((s.channel x.channel).extTimeout * 1000) }

/-- Offer a final reply's first frame to port W (R62): a unit closes the exchange ANSWERED, a lead moves it to
REPLYING. -/
def passReply (x : ChannelExchange) (form : ReplyForm) (first : Ssx) (data : List Byte) (s : State) : State :=
  match first with
  | .lead count _ =>
    let stamp := s.part.stamp
    offerThen x .W (toTool s x data false (.turn stamp))
      (fun s => nextStamp (setChannelExchange
        { x with state := .replying, form := form, timer := .stopped, seg := x.seg.lead count stamp } s)) s
  | _ => offerThen x .W (toTool s x data false .plain) (closeExchange x .answered) s

/-- The first frame of a reply, taken in AWAITING (R62, R63). -/
def takeReply (x : ChannelExchange) (first : Ssx) (msg data : List Byte) (s : State) : State :=
  let form := replyForm x.code msg
  let x := { x with timer := .stopped }
  if form = .stillWorking then
    (if 64 ≤ x.reloads then closeExchange x .noReply s
     else
      match first with
      | .lead _ _ => passReply x form first data s
      | _ => offerThen x .W (toTool s x data false .plain) (fun s => setChannelExchange (extendWait s x) s) s)
  else
    match inspectReply x form msg data (setChannelExchange x s) with
    | (s, none) => s
    | (s, some data) =>
      match ownedExchange s x.id with
      | some x => passReply x form first data s
      | none => s

/-- A follow of the reply with the next index (R47, R62, R63). -/
def replyFollow (x : ChannelExchange) (i : Nat) (msg data : List Byte) (s : State) : State :=
  if i = x.seg.count then
    offerThen x .W (toTool s x data false .plain)
      (fun s => if x.form = .stillWorking then setChannelExchange (extendWait s x) s
        else closeExchange x .answered s) s
  else
    let stamp := s.part.stamp
    let seg := x.seg.follow msg.length stamp
    offerThen x .W (toTool s x data false (if seg.phase = .paceDue then .turn stamp else .plain))
      (fun s => nextStamp (setChannelExchange { x with seg := seg } s)) s

/-! ### The controller's pace frames for a block being re-sent (R53, R121) -/

/-- A refuse ends the message unsent and the window FAILED, cause REFUSED (R121). -/
def blockRefused (x : ChannelExchange) (s : State) : State :=
  match x.window with
  | none => closeExchange x .broken s
  | some w =>
    match s.window w with
    | none => closeExchange x .broken s
    | some v => endActive w v .failed .refused true (closeLinked w .broken s)

/-- A pace frame taken in PACE_DUE while a block is re-sent (R53, R121). -/
def outboundPace (x : ChannelExchange) (allowance code gap : Nat) (s : State) : State :=
  if code = 0 then
    let x' := { x with seg := x.seg.resume allowance gap }
    sendFollows (burst x'.seg) x' s
  else if code = 1 then setChannelExchange { x with seg := x.seg.waited } s
  else blockRefused x s

/-! ### Frames handed to the Tracker (R26, R49 to R51, R60, R118) -/

/-- A tool-side frame of a channel with a pending exchange. -/
def toolPending (x : ChannelExchange) (data : List Byte) (s : State) : State :=
  match readSsx x.seg.count data with
  | .unit msg => gatewayReply x.channel (codeOf msg) (reasonCode .exchangeOpen) s
  | .lead _ msg => gatewayReply x.channel (codeOf msg) (reasonCode .exchangeOpen) s
  | frame =>
    match x.state, frame with
    | .staging, _ => stagingFrame x frame s
    | .inbound, .follow i msg =>
      if x.seg.phase = .followsDue ∧ i = x.seg.next then requestFollow x i msg data s else closeExchange x .broken s
    | .replying, .pace a code g =>
      if x.seg.phase = .paceDue then replyPace x a code g data s else closeExchange x .broken s
    | _, _ => closeExchange x .broken s

/-- A tool-side frame (R51, R57, R60). -/
def toolFrame (c : Fin 16) (data : List Byte) (s : State) : State :=
  match channelExchange s c with
  | some x => toolPending x data s
  | none =>
    match readSsx 0 data with
    | .unit msg => newRequest c (.unit msg) msg data s
    | .lead count msg => newRequest c (.lead count msg) msg data s
    | _ => s

/-- A controller frame that is dropped and counted late (R51, R118). -/
def dropLate (c : Fin 16) (s : State) : State := s.count (targetPort s c) Counters.addLate

/-- A controller-side frame of a channel with a pending exchange (R49, R50, R53). DEDUCED (log 56): while a block is re-sent
as one unit that still waits in the queue, a pace frame of the controller, a refuse included, is out of turn, and closes
the exchange BROKEN; its window goes on. -/
def controllerPending (x : ChannelExchange) (data : List Byte) (s : State) : State :=
  match x.state, readSsx x.seg.count data with
  | .staging, _ => dropLate x.channel s
  | .stagedHold, _ => dropLate x.channel s
  | .outbound, .pace a code g =>
    if x.seg.phase = .paceDue then outboundPace x a code g s else closeExchange x .broken s
  | .inbound, .pace a code g =>
    if x.seg.phase = .paceDue then requestPace x a code g data s else closeExchange x .broken s
  | .awaiting, .unit msg => takeReply x (.unit msg) msg data s
  | .awaiting, .lead count msg => takeReply x (.lead count msg) msg data s
  | .replying, .follow i msg =>
    if x.seg.phase = .followsDue ∧ i = x.seg.next then replyFollow x i msg data s else closeExchange x .broken s
  | _, _ => closeExchange x .broken s

/-- A controller-side frame (R51). -/
def controllerFrame (c : Fin 16) (data : List Byte) (s : State) : State :=
  match channelExchange s c with
  | some x => controllerPending x data s
  | none => dropLate c s

end Sys2Proof.Machine
end

