-- ==== Sys2Proof/Machine/Router.lean ====
section
/-! DEFINITION. The Frame Router (chapter 2) and the Condition Monitor's taking of values (section 5.4): the
classification of a frame, the signal values of vehicle traffic, and the Mirror List. -/

namespace Sys2Proof.Machine

open Sys2Proof

/-! ### The Condition Monitor (R82, R84) -/

/-- The value a frame gives a signal, if it carries every byte of it (R82). -/
def signalValue (e : SignalEntry) (n : Net) (f : Frame) : Option Nat :=
  if e.live && e.port == n && e.id == f.id then
    (if e.wide then
      (if e.offset + 2 ≤ f.data.length then
        some (if e.little then fieldAt f.data (e.offset + 1) 1 * 256 + fieldAt f.data e.offset 1
          else fieldAt f.data e.offset 1 * 256 + fieldAt f.data (e.offset + 1) 1)
       else none)
     else if e.offset + 1 ≤ f.data.length then some (fieldAt f.data e.offset 1)
     else none)
  else none

/-- The not-available value of a signal's width (R82). -/
def notAvailable (e : SignalEntry) : Nat := if e.wide then 65535 else 255

/-- A signal after a frame has been offered (R82). -/
def takeValue (e : SignalEntry) (n : Net) (f : Frame) (g : SignalState) : SignalState :=
  match signalValue e n f with
  | some v => { raw := some v, available := v != notAvailable e, fresh := true, timer := some e.stale }
  | none => g

/-- The signals after a vehicle frame has been offered (R82): a signal is offered no frame while its port is WITHDRAWN
(DEDUCED, log 42). -/
def signalsAfter (n : Net) (f : Frame) (s : State) : Vector SignalState 4 :=
  match (s.port (netPort n)).status with
  | .withdrawn => s.signals
  | .active => tabulate 4 (fun i => takeValue (s.tables.signals.get i) n f (s.signals.get i))

/-- A vehicle frame is offered to the Condition Monitor (R27, R82, R84). DESIGN CHOICE (log 24): every signal takes its
value before the changes are reported. -/
def offerSignals (n : Net) (f : Frame) (s : State) : State :=
  reportConditions (conditions s) { s with signals := signalsAfter n f s }

/-! ### The Mirror List (R28 to R33) -/

/-- Whether an identifier agrees with a value in every bit where the mask is 1, the formats being equal (R28). -/
def identMatches : MatchId → Ident → Bool
  | .std v k, .std a => (a ^^^ v) &&& k == 0
  | .ext v k, .ext a => (a ^^^ v) &&& k == 0
  | _, _ => false

/-- Whether a frame from a network matches a position (R28). -/
def mirrorMatches (e : MirrorEntry) (n : Net) (f : Frame) : Bool := e.inUse && e.port == n && identMatches e.ids f.id

/-- The deciding position: the first that matches (R28). -/
def decidingPosition (s : State) (n : Net) (f : Frame) : Option (Fin 32) :=
  (List.finRange 32).find? (fun i => mirrorMatches (s.tables.mirrors.get i) n f)

def setMirror (i : Fin 32) (r : MirrorRun) (s : State) : State := { s with mirror := put s.mirror i r }

/-- Offer a mirror frame to port W (R30, R33). -/
def offerMirror (f : Frame) (s : State) : State := offerFree .W (outFrame f.id f.data .mirror 0 .plain) s

/-- A matching frame at its deciding position (R30, R31). -/
def mirrorFrame (i : Fin 32) (f : Frame) (s : State) : State :=
  let e := s.tables.mirrors.get i
  if e.pass = false then s
  else if e.interval = 0 then offerMirror f s
  else
    match s.mirror.get i with
    | .quiet => setMirror i (.timing e.interval) (offerMirror f s)
    | .timing left => setMirror i (.holding left f) s
    | .holding left _ => setMirror i (.holding left f) s

/-- A vehicle frame is offered to the Mirror List, which acts while TOOLDET is asserted (R29). -/
def offerMirrors (n : Net) (f : Frame) (s : State) : State :=
  if s.lines.tooldet then
    (match decidingPosition s n f with
     | some i => mirrorFrame i f s
     | none => s)
  else s

/-- A position's interval timer runs out (R32). -/
def mirrorExpired (i : Fin 32) (s : State) : State :=
  match s.mirror.get i with
  | .quiet => s
  | .timing _ => setMirror i .quiet s
  | .holding _ f => setMirror i (.timing (s.tables.mirrors.get i).interval) (offerMirror f s)

def execMirrorIntervalExpiry (i : Fin 32) (s : State) : Host.Outcome State Fault Refusal :=
  .next (whenAwake s (mirrorExpired i))

/-- Every position QUIET with an empty hold (R29, R35). -/
def clearMirrors (s : State) : State := { s with mirror := Vector.replicate 32 .quiet }

/-! ### Classification (R23 to R27) -/

/-- The live channel a test picks (R24, R25); a frame matches at most one (R19). -/
def findChannel (s : State) (p : ChannelEntry → Bool) : Option (Fin 16) :=
  (List.finRange 16).find? (fun c => (s.channel c).live && p (s.channel c))

/-- A frame taken from port W (R24). -/
def classifyW (f : Frame) (s : State) : State :=
  if f.id = s.tables.ports.wPair.request then mgmtFrame .W f.data s
  else
    match findChannel s (fun e => decide (e.ids.request = f.id)) with
    | some c => toolFrame c f.data s
    | none => s.count .W Counters.addUnroutable

/-- Vehicle traffic is offered to the Condition Monitor and to the Mirror List (R27). DESIGN CHOICE (log 43): what the
Condition Monitor's offer brings about, to the frames a resumed window offers, comes before the Mirror List's. -/
def broadcast (n : Net) (f : Frame) (s : State) : State := offerMirrors n f (offerSignals n f s)

/-- A frame taken from port E or C (R25). -/
def classifyNet (n : Net) (f : Frame) (s : State) : State :=
  if n = .C ∧ s.tables.ports.cEnabled = true ∧ f.id = s.tables.ports.cPair.request then mgmtFrame .C f.data s
  else
    match findChannel s (fun e => e.port == n && decide (e.ids.response = f.id)) with
    | some c => controllerFrame c f.data s
    | none => broadcast n f s

/-- A frame is classified by its port (R24, R25). -/
def classify (p : Port) (f : Frame) (s : State) : State :=
  match p with
  | .W => classifyW f s
  | .E => classifyNet .E f s
  | .C => classifyNet .C f s

/-- The Router takes the oldest frame of a receive FIFO (R23). -/
def routerTakes (p : Port) (s : State) : State :=
  match (s.port p).rx with
  | [] => s
  | f :: rest => classify p f (s.setPort p { s.port p with rx := rest })

def execRouterTakesFrame (p : Port) (s : State) : Host.Outcome State Fault Refusal :=
  .next (whenAwake s (routerTakes p))

end Sys2Proof.Machine
end

