-- ==== Sys2Proof/Machine/TableWrites.lean ====
section
/-! DEFINITION. Writing and reloading tables (section 10.4): the checks of R159 and R160 with those of each table's
chapter, the effects of a working write, Table Reload, Lock Policy Write and Record Acknowledge. -/

namespace Sys2Proof.Machine

open Sys2Proof

/-! ### Clashes with the rest of a copy (step 4 of R159) -/

/-- Whether an identifier is one of a pair. -/
def inPair (p : IdPair) (i : Ident) : Bool := p.request == i || p.response == i

/-- Whether a live entry clashes with the management identifiers (R19): the W pair for every entry, the C pair for
a port C entry. -/
def clashesManagement (p : PortSettings) (e : ChannelEntry) : Bool :=
  e.live && (inPair p.wPair e.ids.request || inPair p.wPair e.ids.response ||
    (e.port == .C && (inPair p.cPair e.ids.request || inPair p.cPair e.ids.response)))

/-- Whether two live entries clash (R19). -/
def clashesEntry (a b : ChannelEntry) : Bool :=
  a.live && b.live &&
    (a.ids.request == b.ids.request || a.ids.request == b.ids.response || a.ids.response == b.ids.request ||
      (a.port == b.port && a.ids.response == b.ids.response))

/-- Whether a new Channel Table entry clashes with the rest of a copy (R19). -/
def channelClash (tb : Tables) (i : Fin 16) (e : ChannelEntry) : Bool :=
  clashesManagement tb.ports e ||
    (List.finRange 16).any (fun j => decide (j ≠ i) && clashesEntry e (tb.channels.get j))

/-- Whether new Port Settings that move a management pair clash with a copy's live channels (R20). -/
def portsClash (tb : Tables) (p : PortSettings) : Bool :=
  (p.wPair != tb.ports.wPair || p.cPair != tb.ports.cPair) &&
    (p.wPair.request == p.wPair.response || p.cPair.request == p.cPair.response ||
      tb.channels.toList.any (clashesManagement p))

/-- Whether another code of a copy already carries a role that at most one may carry (R72, R73). -/
def roleClash (tb : Tables) (i : Fin 126) (e : CodeEntry) : Bool :=
  (e.role == some .opening || e.role == some .block || e.role == some .closing) &&
    (List.finRange 126).any (fun j => decide (j ≠ i) && (tb.codes.get j).role == e.role)

/-- Step 4 of R159, against a copy. -/
def clashes (tb : Tables) : TableEntry → Bool
  | .channel i e => channelClash tb i e
  | .portSettings p => portsClash tb p
  | .code i e => roleClash tb i e
  | _ => false

/-! ### The stored copy (R160, R164) -/

/-- One table of the stored copy: its image's content, or fallback content when the image fails its check. -/
def storedContent (s : State) (t : TableId) : Tables :=
  if (storedImage s t).passes then tableFrom t (storedImage s t).entries .fallback else .fallback

/-- The stored copy as writes are compared with it (R160). -/
def storedTables (s : State) : Tables := allTables.foldl (fun tb t => tb.take t (storedContent s t)) .fallback

/-- The entry a stored write stores: a Port Settings write keeps the stored lock policy (R160). -/
def storedForm (s : State) : TableEntry → TableEntry
  | .portSettings p => .portSettings { p with lock := (storedTables s).ports.lock }
  | e => e

/-! ### Use (step 5 of R159) -/

/-- Whether a channel has a pending exchange or an open window (R21, R110). -/
def channelInUse (s : State) (c : Fin 16) : Bool := (channelExchange s c).isSome || (windowOn s c).isSome

/-- The terms of step 5 for Port Settings: the C pair or flag while the C channel has an exchange or a side answer,
the W pair while the W channel has a side answer. -/
def portsInUse (s : State) (p : PortSettings) : Bool :=
  let old := s.tables.ports
  ((p.cPair != old.cPair || p.cEnabled != old.cEnabled) &&
      ((mgmtExchange s .C).isSome || !sideAbsent s .C)) ||
    (p.wPair != old.wPair && !sideAbsent s .W)

def entryInUse (s : State) : TableEntry → Bool
  | .channel i _ => channelInUse s i
  | .map i _ => channelInUse s i
  | .portSettings p => portsInUse s p
  | _ => false

/-! ### The stored map (step 6 of R159) -/

/-- The content a working write of a map builds (R110). -/
def newMap (s : State) (i : Fin 16) (m : RegionMap) : RegionMap := mergeMarks (s.tables.maps.get i) m

/-- Whether a working write would loosen a map below its valid stored copy (R110). -/
def loosens (s : State) : TableEntry → Bool
  | .map i m =>
    (storedImage s .regionMap).passes && !noLooser ((storedContent s .regionMap).maps.get i) (newMap s i m)
  | _ => false

/-! ### The effects of a working write -/

/-- The credit of a port within the ceiling of new settings (R138). -/
def clampCredit (p : PortSettings) (n : Net) (s : State) : State := s.setCredit n (min (s.credit n) (ceilingOf p n))

/-- Whether a port is sending a frame: an ACTIVE port transmits its eligible head (R4, R7). -/
def portSends (s : State) (p : Port) : Bool := (headEligible p (s.port p)).isSome

/-- Whether a port is receiving a frame (R3). The state holds no frame on the wire, so it is a free value (log 12); a
WITHDRAWN port takes no frames (R8). -/
def portReceives (s : State) (p : Port) : Bool :=
  (s.port p).status == .active && Config.receivingFrame s.part.draws (portPlace p)

/-- Whether a port is idle: neither receiving nor sending a frame (R3). -/
def portIdle (s : State) (p : Port) : Bool := !portSends s p && !portReceives s p

/-- A written bit rate at one port (R3): changed by the write, it takes effect at once on an idle port, and otherwise
at BIT_RATE_CHANGE_EFFECT. -/
def applyRate (old new : PortSettings) (s : State) (p : Port) : State :=
  if settingsRate old p ≠ settingsRate new p ∧ portIdle s p = true then
    s.setPort p { s.port p with rate := settingsRate new p }
  else s

/-- The bit rates of new Port Settings at the three ports (R3). -/
def applyRates (old new : PortSettings) (s : State) : State :=
  nextDraw ([Port.W, .E, .C].foldl (applyRate old new) s)

/-- Port Settings take effect (R3, R21, R138): the bit rates, then the credits, which are clamped before the heads are
tested. -/
def applyPorts (p : PortSettings) (s : State) : State :=
  let s := applyRates s.tables.ports p { s with tables := { s.tables with ports := p } }
  testHead .C (testHead .E (clampCredit p .C (clampCredit p .E s)))

/-- A working entry takes new content, with the effects of its chapter (R21, R34, R74, R76, R85, R110, R138). -/
def applyEntry (e : TableEntry) (s : State) : State :=
  match e with
  | .portSettings p => applyPorts p s
  | .channel i c => { s with tables := s.tables.withEntry (.channel i c) }
  | .code i c => { s with tables := s.tables.withEntry (.code i c) }
  | .policy i p =>
    let s := { s with tables := s.tables.withEntry (.policy i p) }
    if i = 4 then testWindows s else s
  | .signal i g =>
    reportConditions (conditions s)
      { s with tables := s.tables.withEntry (.signal i g), signals := put s.signals i .stale }
  | .mirror i r =>
    { s with tables := s.tables.withEntry (.mirror i r), mirror := put s.mirror i .quiet }
  | .map i m => { s with tables := s.tables.withEntry (.map i (newMap s i m)) }

/-! ### Table Write (R159, R160) -/

/-- Whether a channel and the Grant Table give MANAGE authority on W, and the grant that gives it (R154). -/
def manageOnW (s : State) (m : Mgmt) : Option Grant :=
  match m with
  | .W => manageGrant s
  | .C => none

/-- Whether a written lock policy differs from the current one (step 3 of R159). -/
def movesLock (s : State) : TableEntry → Bool
  | .portSettings p => p.lock != s.tables.ports.lock
  | _ => false

/-- The entry a Table Write names, when steps 2 and 3 of R159 pass. -/
def writtenEntry (s : State) (buffer : List Byte) : Option TableEntry :=
  match readTable (fieldAt buffer 1 1) with
  | none => none
  | some t =>
    match readEntry t (fieldAt buffer 2 1) (buffer.drop 4) with
    | some e => if movesLock s e then none else some e
    | none => none

/-- Table, entry and copy as the reply carries them (R169). -/
def writeReply (buffer : List Byte) : List Byte := (buffer.drop 1).take 3

/-- A working Table Write (R159). A copy byte that is neither WORKING nor STORED is BAD_ENTRY (R168). -/
def writeWorking (m : Mgmt) (x : MgmtExchange) (s : State) : State :=
  if (manageOnW s m).isNone then refuse x .notAuthorised s
  else if fieldAt x.buffer 3 1 ≠ 0 then refuse x .badEntry s
  else
    match writtenEntry s x.buffer with
    | none => refuse x .badEntry s
    | some e =>
      if clashes s.tables e then refuse x .badEntry s
      else if entryInUse s e then refuse x .inUse s
      else if loosens s e then refuse x .lessThanStored s
      else accept x (writeReply x.buffer) (applyEntry e s)

/-- Whether a waiting Table Write names the stored copy. -/
def namesStored (x : MgmtExchange) : Bool := fieldAt x.buffer 3 1 == 1

def execTableWriteWorking (m : Mgmt) (s : State) : Host.Outcome State Fault Refusal :=
  .next (serve m 0x18 (fun x s => if namesStored x then s else writeWorking m x s) s)

/-- A stored Table Write (R160). -/
def writeStored (m : Mgmt) (x : MgmtExchange) (s : State) : State :=
  match manageOnW s m with
  | none => refuse x .notAuthorised s
  | some g =>
    if lockAllows s = false then refuse x .tableLocked s
    else
      match writtenEntry s x.buffer with
      | none => refuse x .badEntry s
      | some e =>
        if clashes (storedTables s) e then refuse x .badEntry s
        else if queueTakesWrite s = false then refuse x .busy s
        else setWork x .awaitStore (pushStore (.tableEntry e (some (g.number, g.slot)) x.id) s)

def execTableWriteStored (m : Mgmt) (s : State) : Host.Outcome State Fault Refusal :=
  .next (serve m 0x18 (fun x s => if namesStored x then writeStored m x s else s) s)

/-! ### Table Reload (R161) -/

/-- The working copy with one table reloaded. -/
def reloaded (s : State) (t : TableId) : Tables := s.tables.take t (storedContent s t)

/-- Whether a reload would leave a live channel clashing with the working copy of the other table (R22, R161). -/
def reloadClash (s : State) (t : TableId) : Bool :=
  decide (t = .channelTable ∨ t = .portSettings) &&
    (reloaded s t).channels.toList.any (clashesManagement (reloaded s t).ports)

/-- Whether a reload is refused for use (R161). -/
def reloadInUse (s : State) (t : TableId) : Bool :=
  s.exchanges.any (fun e => match e with
    | .channel _ => true
    | .management _ => false) || openWindows s != 0 ||
    (decide (t = .portSettings) && portsInUse s (reloaded s t).ports)

/-- The effects of a reload on the blocks, as of a working write of every entry (R34, R76, R85, R138). -/
def reloadEffects (t : TableId) (tb : Tables) (s : State) : State :=
  match t with
  | .portSettings => applyPorts tb.ports s
  | .classPolicy => testWindows { s with tables := tb }
  | .signalTable =>
    reportConditions (conditions s) { s with tables := tb, signals := Vector.replicate 4 .stale }
  | .mirrorList => clearMirrors { s with tables := tb }
  | _ => { s with tables := tb }

/-- Load one table: content, fallback flag, FALLBACK (R161). -/
def loadTable (s : State) (t : TableId) : State :=
  let ok := (storedImage s t).passes
  let s' := reloadEffects t (reloaded s t) s
  let s' := { s' with store := { s'.store with fallback := put s'.store.fallback (tableFin t) (!ok) } }
  if ok then s' else raiseFallback s'

/-- Table Reload (R161). -/
def tableReload (m : Mgmt) (x : MgmtExchange) (s : State) : State :=
  if (manageOnW s m).isNone then refuse x .notAuthorised s
  else
    match readTable (fieldAt x.buffer 1 1) with
    | none => refuse x .badEntry s
    | some t =>
      if reloadInUse s t then refuse x .inUse s
      else if reloadClash s t then refuse x .badEntry s
      else accept x [byte (tableNumber t), yesNoByte (!(storedImage s t).passes)] (loadTable s t)

def execTableReload (m : Mgmt) (s : State) : Host.Outcome State Fault Refusal := .next (serve m 0x19 (tableReload m) s)

/-! ### Lock Policy Write (R162) -/

/-- Lock Policy Write, judged in R162's order. -/
def lockPolicyWrite (m : Mgmt) (x : MgmtExchange) (s : State) : State :=
  match manageOnW s m with
  | none => refuse x .notAuthorised s
  | some g =>
    if s.lines.stlock then refuse x .tableLocked s
    else
      match readLock (fieldAt x.buffer 1 1) with
      | none => refuse x .badEntry s
      | some p =>
        if s.tables.ports.lock = .frozen then refuse x .tableLocked s
        else if p = s.tables.ports.lock then accept x [lockByte p] s
        else if queueTakesWrite s = false then refuse x .busy s
        else setWork x .awaitStore (pushStore (.lockPolicy p (some (g.number, g.slot)) x.id) s)

def execLockPolicyWrite (m : Mgmt) (s : State) : Host.Outcome State Fault Refusal :=
  .next (serve m 0x1A (lockPolicyWrite m) s)

/-! ### Record Acknowledge (R150) -/

/-- Whether a request is on C, or on W with MANAGE (R150, R163). -/
def onCOrManage (s : State) (m : Mgmt) : Bool :=
  match m with
  | .C => true
  | .W => (manageGrant s).isSome

/-- Record Acknowledge (R150). -/
def recordAcknowledge (m : Mgmt) (x : MgmtExchange) (s : State) : State :=
  let n := min (fieldAt x.buffer 1 2) s.record.kept.length
  if onCOrManage s m = false then refuse x .notAuthorised s
  else if n = 0 then accept x [byte 0, byte s.record.kept.length] s
  else if queueTakesWrite s = false then refuse x .busy s
  else setWork x .awaitStore (pushStore (.trim n x.id) s)

def execRecordAcknowledge (m : Mgmt) (s : State) : Host.Outcome State Fault Refusal :=
  .next (serve m 0x1C (recordAcknowledge m) s)

/-! ### Restart (R163) -/

/-- Restart: the challenge is discarded, every grant ends with cause RESTART, the Agent is restarting. -/
def restartRequest (m : Mgmt) (x : MgmtExchange) (s : State) : State :=
  if onCOrManage s m = false then refuse x .notAuthorised s
  else if !s.store.queue.isEmpty || s.grants.grants.any (fun g => g.state == .checking) then refuse x .busy s
  else
    let s := setWork x .awaitRestart { s with grants := { s.grants with challenge := none } }
    let s := endGrants .restart s.grants.grants s
    { s with agent := { s.agent with restart := .taken x.id } }

def execRestart (m : Mgmt) (s : State) : Host.Outcome State Fault Refusal := .next (serve m 0x1F (restartRequest m) s)

/-- The management exchange of a number. -/
def mgmtOwned (s : State) (id : Nat) : Option MgmtExchange :=
  s.exchanges.findSome? (fun e => match e with
    | .management x => if x.id = id then some x else none
    | .channel _ => none)

/-- Mark the Restart's reply as offered (R163 step 3). -/
def restartAnswered (id : Nat) (s : State) : State :=
  { s with agent := { s.agent with restart := match s.agent.restart with
      | .taken i => if i = id then .answered i else .taken i
      | r => r } }

/-- The Restart's positive reply is offered once the store is idle (R163 step 3). While the channel's side answer is
SENDING the reply waits for it (R153). A reply that a full or WITHDRAWN port discards makes the hot start due at once
(step 4). -/
def restartReply (s : State) : State :=
  match s.agent.restart with
  | .taken id =>
    if s.store.queue.isEmpty then
      match mgmtOwned s id with
      | some x =>
        if x.state = .serving ∧ sideSending s x.chan = false then
          beginReply x (positiveBytes (byte 0x1F) []) (restartAnswered id s)
        else s
      | none => s
    else s
  | _ => s

def execRestartReplyOffered (s : State) : Host.Outcome State Fault Refusal := .next (whenAwake s restartReply)

end Sys2Proof.Machine
end

