-- ==== Sys2Proof/Machine/StoreController.lean ====
section
/-! DEFINITION. The Store Controller (section 10.6): the oldest request of the queue is the operation in progress;
each completion acts on its requester, and the next operation begins. -/

namespace Sys2Proof.Machine

open Sys2Proof

def setQueue (q : List StoreRequest) (s : State) : State := { s with store := { s.store with queue := q } }

/-- The operation at the head of a queue begins (R165): a stored table write found to clash with the stored copy as it
stands ends without writing, BAD_ENTRY (R160), and the one behind it begins; a trim is clamped to the kept count
(R150). -/
def beginQueue : List StoreRequest → State → State
  | [], s => setQueue [] s
  | r :: rest, s =>
    match r with
    | .tableEntry e _ req =>
      if clashes (storedTables s) e then beginQueue rest (answer req (refusalBytes (byte 0x18) .badEntry) s)
      else setQueue (r :: rest) s
    | .trim n req => setQueue (.trim (min n s.record.kept.length) req :: rest) s
    | _ => setQueue (r :: rest) s

/-- Begin the next operation (R165). -/
def beginNext (s : State) : State := beginQueue s.store.queue s

/-- The operation in progress leaves the queue, its completion takes effect, and the next begins. -/
def complete (rest : List StoreRequest) (effect : State → State) (s : State) : State :=
  beginNext (effect (setQueue rest s))

/-- The reply of a store operation that completed with fail, and STORE_FAIL (R166). -/
def storeFailed (req : Nat) (code : Byte) (s : State) : State :=
  answer req (refusalBytes code .storeFail) (raiseStoreFail s)

/-- The positive reply to the request of a number. -/
def storePassed (req : Nat) (code : Byte) (fields : List Byte) (s : State) : State :=
  answer req (positiveBytes code fields) s

/-! ### Append (R145, R96) -/

def setRecord (r : AccessRecord) (s : State) : State := { s with record := r }

/-- The stored numbering mark (R149, R164). -/
def storeMark (n : Nat) (s : State) : State :=
  { s with store := { s.store with mark := .mark n } }

/-- The stored entries after one more has been stored: behind the others, in the place of one that fails its check where
there is one, whose place is free (R151; DEDUCED, log 15). -/
def storedWith (x : StoredEntry) (l : List StoredEntry) : List StoredEntry :=
  l.eraseP (fun y => !y.passes) ++ [x]

def setEntries (l : List StoredEntry) (s : State) : State := { s with store := { s.store with entries := l } }

/-- An append completes with pass: the entry is kept, and it and its number, the mark, are stored (R145, R151). -/
def appendPassed (e : Entry) (s : State) : State :=
  storeMark e.number (setEntries (storedWith (.of e) s.store.entries)
    (setRecord { s.record with kept := s.record.kept ++ [e] } s))

/-- An append completes with fail: the entry and the count it carried are counted unrecorded (R145, R146). Whether its
mark was stored is open (log 16). -/
def appendFailed (e : Entry) (s : State) : State :=
  let stored := Config.failedAppendStoresMark s.part.draws
  let s := raiseStoreFail (addUnrecorded (1 + e.unrecorded) (nextDraw s))
  if stored then storeMark e.number s else s

/-- The report of a GRANT_OPENED completion to the Grant Unit (R96, R145). -/
def reportOpened (e : Entry) (pass : Bool) (s : State) : State :=
  match e.detail, e.grant with
  | .grantOpened _ _ _, some n => grantDecided n pass s
  | _, _ => s

def appendComplete (pass : Bool) (s : State) : State :=
  match s.store.queue with
  | .append e :: rest =>
    complete rest (fun s => reportOpened e pass (if pass then appendPassed e s else appendFailed e s)) s
  | _ => s

def execAppendComplete (pass : Bool) (s : State) : Host.Outcome State Fault Refusal :=
  .next (whenAwake s (appendComplete pass))

/-! ### Failure-count write (R97) -/

def storeFailures (n : Nat) (s : State) : State :=
  { s with store := { s.store with failures := .count n } }

def failureCountWriteComplete (pass : Bool) (s : State) : State :=
  match s.store.queue with
  | .failureCount n :: rest =>
    complete rest (fun s => if pass then storeFailures n s else raiseStoreFail s) s
  | _ => s

def execFailureCountWriteComplete (pass : Bool) (s : State) : Host.Outcome State Fault Refusal :=
  .next (whenAwake s (failureCountWriteComplete pass))

/-! ### Table-entry write (R160, R111, R164) -/

/-- The entry images a stored write starts from: the stored ones, or fallback content when the image fails (R164). -/
def baseImages (s : State) (t : TableId) : List (List Byte) :=
  if (storedImage s t).passes then (storedImage s t).entries else Tables.fallback.images t

def setImage (t : TableId) (i : Image) (s : State) : State :=
  { s with store := { s.store with images := put s.store.images (tableFin t) i } }

/-- Write one entry and the check word over the whole table (R164). -/
def writeImage (e : TableEntry) (s : State) : State :=
  setImage (tableOf e) (Image.of ((baseImages s (tableOf e)).set (entryPlace e) (encodeEntry e))) s

/-- Append TABLE_WRITTEN, naming the grant that carried the write and its slot (R142, R160). -/
def appendWritten (t : TableId) (n : Nat) (carrier : Option (Nat × Fin 8)) (s : State) : State :=
  appendEntry (.tableWritten t n) (carrier.map (·.1)) (carrier.map (·.2)) none s

/-- A stored map write has passed (R111): the working map follows, or is overlaid while a window is open. -/
def mapFollows (e : TableEntry) (s : State) : State :=
  match e with
  | .map i m =>
    if (windowOn s i).isSome then
      { s with inspector := { s.inspector with overlays := put s.inspector.overlays i (some m) } }
    else { s with tables := { s.tables with maps := put s.tables.maps i m } }
  | _ => s

/-- A table-entry write completes with pass (R160). -/
def tableWritten (e : TableEntry) (carrier : Option (Nat × Fin 8)) (req : Nat) (s : State) : State :=
  let t := tableOf e
  let n := entryNumber t (entryPlace e)
  let s := mapFollows e (appendWritten t n carrier (writeImage (storedForm s e) s))
  storePassed req (byte 0x18) [byte (tableNumber t), byte n, byte 1] s

def tableEntryWriteComplete (pass : Bool) (s : State) : State :=
  match s.store.queue with
  | .tableEntry e carrier req :: rest =>
    complete rest (fun s => if pass then tableWritten e carrier req s else storeFailed req (byte 0x18) s) s
  | _ => s

def execTableEntryWriteComplete (pass : Bool) (s : State) : Host.Outcome State Fault Refusal :=
  .next (whenAwake s (tableEntryWriteComplete pass))

/-! ### Credential slots (R88, R89) -/

/-- Both copies of a slot take new content (R88, R89, R166). -/
def storeSlot (i : Fin 8) (x : Slot) (s : State) : State :=
  { s with grants := { s.grants with slots := put s.grants.slots i x },
           store := { s.store with slots := put s.store.slots i (.of x) } }

/-- A credential write completes with pass (R88). -/
def credentialWritten (i : Fin 8) (key : BitVec 128) (carrier : Option Nat) (req : Nat) (s : State) : State :=
  let s := storeSlot i { state := .live, key := key } s
  storePassed req (byte 0x14) [byte i.val] (appendEntry (.credentialChanged false) carrier (some i) none s)

def credentialWriteComplete (pass : Bool) (s : State) : State :=
  match s.store.queue with
  | .credentialWrite i key carrier req :: rest =>
    complete rest (fun s => if pass then credentialWritten i key carrier req s
      else storeFailed req (byte 0x14) s) s
  | _ => s

def execCredentialWriteComplete (pass : Bool) (s : State) : Host.Outcome State Fault Refusal :=
  .next (whenAwake s (credentialWriteComplete pass))

/-- Discard the outstanding challenge if it is of a slot (R89 step 3, R90). -/
def dropChallenge (i : Fin 8) (s : State) : State :=
  match s.grants.challenge with
  | some c => if c.slot = i then { s with grants := { s.grants with challenge := none } } else s
  | none => s

/-- A credential withdraw completes with pass (R89). -/
def credentialWithdrawn (i : Fin 8) (carrier : Option Nat) (req : Nat) (s : State) : State :=
  let s := storeSlot i { state := .withdrawn, key := (s.grants.slots.get i).key } s
  let s := dropChallenge i (appendEntry (.credentialChanged true) carrier (some i) none s)
  let s := endGrants .withdrawnSlot (s.grants.grants.filter (fun g => g.slot == i)) s
  storePassed req (byte 0x15) [byte i.val] s

def credentialWithdrawComplete (pass : Bool) (s : State) : State :=
  match s.store.queue with
  | .credentialWithdraw i carrier req :: rest =>
    complete rest (fun s => if pass then credentialWithdrawn i carrier req s
      else storeFailed req (byte 0x15) s) s
  | _ => s

def execCredentialWithdrawComplete (pass : Bool) (s : State) : Host.Outcome State Fault Refusal :=
  .next (whenAwake s (credentialWithdrawComplete pass))

/-! ### Lock policy write (R162) -/

/-- A lock policy write completes with pass (R162): both copies take the policy. -/
def lockWritten (p : LockPolicy) (carrier : Option (Nat × Fin 8)) (req : Nat) (s : State) : State :=
  let stored := (storedTables s).ports
  let s := writeImage (.portSettings { stored with lock := p }) s
  let s := { s with tables := { s.tables with ports := { s.tables.ports with lock := p } } }
  storePassed req (byte 0x1A) [lockByte p] (appendWritten .portSettings 0 carrier s)

def lockPolicyWriteComplete (pass : Bool) (s : State) : State :=
  match s.store.queue with
  | .lockPolicy p carrier req :: rest =>
    complete rest (fun s => if pass then lockWritten p carrier req s else storeFailed req (byte 0x1A) s) s
  | _ => s

def execLockPolicyWriteComplete (pass : Bool) (s : State) : Host.Outcome State Fault Refusal :=
  .next (whenAwake s (lockPolicyWriteComplete pass))

/-! ### Trim (R150) -/

/-- The stored entries without the oldest `n` that pass their checks (R150). -/
def trimStored : Nat → List StoredEntry → List StoredEntry
  | _, [] => []
  | 0, l => l
  | n + 1, x :: rest => if x.passes then trimStored n rest else x :: trimStored (n + 1) rest

/-- The oldest kept entries go, from the store too (R150). -/
def removeOldest (n : Nat) (s : State) : State :=
  setEntries (trimStored n s.store.entries) (setRecord { s.record with kept := s.record.kept.drop n } s)

/-- A trim completes with pass: the oldest kept entries go (R150). -/
def trimmed (n req : Nat) (s : State) : State :=
  storePassed req (byte 0x1C) [byte (min n s.record.kept.length), byte (s.record.kept.drop n).length]
    (removeOldest n s)

def trimComplete (pass : Bool) (s : State) : State :=
  match s.store.queue with
  | .trim n req :: rest =>
    complete rest (fun s => if pass then trimmed n req s else storeFailed req (byte 0x1C) s) s
  | _ => s

def execTrimComplete (pass : Bool) (s : State) : Host.Outcome State Fault Refusal :=
  .next (whenAwake s (trimComplete pass))

end Sys2Proof.Machine
end

