-- ==== Sys2Proof/Machine/BusPorts.lean ====
section
/-! DEFINITION. Bus Ports and the Load Meter (chapters 1 and 8): reception, the three outcomes of a transmission
attempt, withdrawal and recovery, the input lines, sleep, refill and release; and the timers of chapters 3, 4, 5 and 7. -/

namespace Sys2Proof.Machine

open Sys2Proof

/-- A frame was seen on a port: the quiet timer is preset to 5 s (R14). -/
def presetQuiet (s : State) : State := { s with part := { s.part with quiet := 5000 } }

/-! ### Reception (R1, R2) -/

def Counters.addReceived (c : Counters) : Counters := { c with received := saturate (c.received + 1) }
def Counters.addOverrun (c : Counters) : Counters := { c with overrun := saturate (c.overrun + 1) }

/-- A frame taken from the network as the port keeps it: a code of 9 to 15 is DLC 8 with eight bytes (R1). -/
def keptFrame (f : BusFrame) : Frame := { id := f.id, data := f.data.take 8 }

/-- A frame is offered to a port's receive FIFO (R2). -/
def fifoOffer (p : Port) (f : Frame) (s : State) : State :=
  if (s.port p).rx.length < 32 then s.setPort p { s.port p with rx := (s.port p).rx ++ [f] }
  else s.count p Counters.addOverrun

/-- A port takes a frame from its network (R1); a WITHDRAWN port takes none. -/
def receive (p : Port) (f : BusFrame) (s : State) : State :=
  if (s.port p).status = .withdrawn then s
  else
    let s := (presetQuiet s).count p Counters.addReceived
    if f.remote then s.count p Counters.addUnroutable else fifoOffer p (keptFrame f) s

def execFrameReceived (p : Port) (f : BusFrame) (s : State) : Host.Outcome State Fault Refusal :=
  .next (whenAwake s (receive p f))

/-! ### The sending of a frame (R7, R48, R53, R61) -/

def Counters.addTransmitted (c : Counters) : Counters := { c with transmitted := saturate (c.transmitted + 1) }

/-- The segment timer preset by the sending of a frame that gave the turn away (R48), while that frame is the latest
of its message to do so (log 14). -/
def Seg.turnSent (g : Seg) (stamp : Nat) : Seg :=
  if g.turn = stamp ∧ g.phase ≠ .none then { g with timer := some 1000 } else g

/-- A frame of a channel's exchange has been sent. -/
def channelSent (x : ChannelExchange) (mark : Mark) (s : State) : State :=
  match mark with
  | .plain => s
  | .turn stamp => setChannelExchange { x with seg := x.seg.turnSent stamp } s
  | .lastRequest =>
    if x.state = .awaiting ∧ x.timer = .pendingSend then
      setChannelExchange { x with timer := .running (s.channel x.channel).replyTimeout } s
    else s
  | .spaced => if x.seg.phase = .followsDue then setChannelExchange { x with gapTimer := some x.seg.gap } s else s
  | .last => if x.state = .outbound then blockSent x s else s

/-- A frame of a management exchange has been sent. -/
def mgmtSent (x : MgmtExchange) (mark : Mark) (s : State) : State :=
  match mark with
  | .turn stamp => setMgmtExchange { x with seg := x.seg.turnSent stamp } s
  | .spaced => if x.seg.phase = .followsDue then setMgmtExchange { x with gapTimer := some x.seg.gap } s else s
  | .last => if x.state = .answering then closeMgmt x.id s else s
  | _ => s

/-- A frame of a side answer has been sent. -/
def sideSent (m : Mgmt) (id : Nat) (seg : Seg) (msg : List Byte) (gapTimer : Option Nat) (mark : Mark) (s : State) :
    State :=
  match mark with
  | .turn stamp => setSide m (.sending id (seg.turnSent stamp) msg gapTimer) s
  | .spaced => if seg.phase = .followsDue then setSide m (.sending id seg msg (some seg.gap)) s else s
  | .last => endSide m s
  | _ => s

/-- What the sending of a frame brings about for the message it belongs to. -/
def sentEffect (f : OutFrame) (s : State) : State :=
  match f.origin with
  | .exchange _ | .pace _ =>
    (match ownedExchange s f.owner with
     | some x => channelSent x f.mark s
     | none => s)
  | .management _ .exchange =>
    mgmtFrameGone f.owner (match mgmtOwned s f.owner with
     | some x => mgmtSent x f.mark s
     | none => s)
  | .management m .side =>
    (match sideOf s m with
     | .sending id seg msg gapTimer => if id = f.owner then sideSent m id seg msg gapTimer f.mark s else s
     | _ => s)
  | .management _ .loose | .mirror | .reply _ => s

/-- A port after its head frame has been sent (R7). -/
def PortState.afterSent (x : PortState) : PortState :=
  { x with out := x.out.tail, fault := x.fault - 1, counters := x.counters.addTransmitted }

/-- The head frame has been sent (R7): it leaves the queue, and a new head is tested (R135). -/
def frameSent (p : Port) (s : State) : State :=
  match headEligible p (s.port p) with
  | some f => sentEffect f (testPort p ((presetQuiet s).setPort p (s.port p).afterSent))
  | none => s

def execFrameSent (p : Port) (s : State) : Host.Outcome State Fault Refusal := .next (whenAwake s (frameSent p))

/-- An attempt lost to another node's frame (R7): the frame stays, and the quiet timer is preset (R14). -/
def transmissionLost (p : Port) (s : State) : State :=
  match headEligible p (s.port p) with
  | some _ => presetQuiet s
  | none => s

def execTransmissionLost (p : Port) (s : State) : Host.Outcome State Fault Refusal :=
  .next (whenAwake s (transmissionLost p))

/-! ### Withdrawal (R8, R67, R129) -/

def Counters.addWithdrawals (c : Counters) : Counters := { c with withdrawals := saturate (c.withdrawals + 1) }

/-- What the flush of a frame ends (R8 step 1): the exchange, management exchange or side answer it belongs to. -/
def flushed (p : Port) (f : OutFrame) (s : State) : State :=
  match f.origin with
  | .exchange _ | .pace _ =>
    (match ownedExchange s f.owner with
     | some x => closeExchange x (.portDown (p != .W)) s
     | none => s)
  | .management _ .exchange => mgmtFrameGone f.owner (closeMgmt f.owner s)
  | .management m .side =>
    (match sideOf s m with
     | .sending id _ _ _ => if id = f.owner then endSide m s else s
     | _ => s)
  | .management _ .loose | .mirror | .reply _ => s

/-- The numbers of the exchanges whose target port a port is (R67). DESIGN CHOICE (log 44): those the flush has left close
in list order, the oldest first, and so their replies join port W's queue in that order. -/
def targeting (p : Port) (s : State) : List Nat :=
  s.exchanges.filterMap (fun e => match e with
    | .channel x => if targetPort s x.channel = p then some x.id else none
    | .management _ => none)

/-- Close an exchange by number with cause PORT_DOWN, if it is still pending (R67). -/
def closeDown (s : State) (id : Nat) : State :=
  match ownedExchange s id with
  | some x => closeExchange x (.portDown true) s
  | none => s

/-- End a window whose channel has a withdrawn target port (R129). -/
def windowDown (p : Port) (w : Fin 2) (s : State) : State :=
  match s.window w with
  | some v => if targetPort s v.channel = p then endAborted w v .portDown true s else s
  | none => s

/-- A port becomes WITHDRAWN (R8): the flush, the counters, the recovery timer, then the reports. DESIGN CHOICE
(log 44): the flushed frames end what they belong to, with its PORT_DOWN reply and its window, in the order of the queue,
the head first. DESIGN CHOICE (log 46): of two windows that the report ends, window 0 ends first. -/
def withdraw (p : Port) (s : State) : State :=
  let x := s.port p
  let s := s.setPort p { x with status := .withdrawn, out := [], recovery := some 100,
                                counters := x.counters.addDiscarded x.out.length }
  let s := x.out.foldl (fun s f => flushed p f s) s
  let s := s.count p Counters.addWithdrawals
  let s := (targeting p s).foldl closeDown s
  raiseWithdrawn p (windowDown p 1 (windowDown p 0 s))

/-- A failed attempt raises the fault score by 8; at 128 the port is withdrawn (R7, R8). -/
def transmissionFailed (p : Port) (s : State) : State :=
  match headEligible p (s.port p) with
  | some _ =>
    let n := (s.port p).fault + 8
    let s := s.setPort p { s.port p with fault := n }
    if 128 ≤ n then withdraw p s else s
  | none => s

def execTransmissionFailed (p : Port) (s : State) : Host.Outcome State Fault Refusal :=
  .next (whenAwake s (transmissionFailed p))

/-- A recovered port's credit is set to its ceiling; port W has none (R9, R139). -/
def refillPort (p : Port) (s : State) : State :=
  match p with
  | .W => s
  | .E => s.setCredit .E (ceilingOf s.tables.ports .E)
  | .C => s.setCredit .C (ceilingOf s.tables.ports .C)

/-- The recovery timer of a WITHDRAWN port runs out (R9). -/
def recover (p : Port) (s : State) : State :=
  if (s.port p).status = .withdrawn then
    refillPort p (s.setPort p { s.port p with status := .active, fault := 0, out := [], recovery := none })
  else s

def execPortRecovery (p : Port) (s : State) : Host.Outcome State Fault Refusal := .next (whenAwake s (recover p))

/-- A written bit rate takes effect (R3). -/
def execBitRateChangeEffect (p : Port) (s : State) : Host.Outcome State Fault Refusal :=
  .next (whenAwake s (fun s => s.setPort p { s.port p with rate := settingsRate s.tables.ports p }))

/-! ### The Load Meter (R134, R135) -/

/-- The refill of a bucket at a tick: r × share centibits (R134). -/
def refillOf (s : State) (n : Net) : Nat := rateKbit (s.port (netPort n)).rate * shareOf s.tables.ports n

/-- One bucket's refill, up to its ceiling, followed by the release test (R134, R135). -/
def refill (n : Net) (s : State) : State :=
  testHead n (s.setCredit n (min (ceilingOf s.tables.ports n) (s.credit n + refillOf s n)))

def execMeterRefill (s : State) : Host.Outcome State Fault Refusal :=
  .next (whenAwake s (fun s => refill .C (refill .E s)))

/-- The Load Meter's release of a head (R135). -/
def execHeadFrameRelease (n : Net) (s : State) : Host.Outcome State Fault Refusal := .next (whenAwake s (testHead n))

/-! ### The input lines (R11 to R13) -/

/-- The IGNON sample changes (R11, R84). -/
def ignonChanges (level : Bool) (s : State) : State :=
  if s.lines.ignon = level then s
  else reportConditions (conditions s) { s with lines := { s.lines with ignon := level, ignonChanged := true } }

def execIgnonChange (level : Bool) (s : State) : Host.Outcome State Fault Refusal :=
  .next (whenAwake s (ignonChanges level))

/-- The STLOCK sample changes (R11). -/
def execStlockChange (level : Bool) (s : State) : Host.Outcome State Fault Refusal :=
  .next (whenAwake s (fun s => { s with lines := { s.lines with stlock := level } }))

/-- The debounced TOOLDET takes the raw level (R12): presence, or presence loss, is reported to the Router (R29) and
to the Grant Unit (R103). -/
def debounced (s : State) : State :=
  let now := s.lines.raw
  let s := { s with lines := { s.lines with tooldet := now, debounce := 0, tooldetChanged := true } }
  if now then clearMirrors s else presenceLost (clearMirrors s)

/-- One tick's sample of TOOLDET (R12). -/
def sampleTooldet (level : Bool) (s : State) : State :=
  let n := if level = s.lines.tooldet then 0 else s.lines.debounce + 1
  let s := { s with lines := { s.lines with raw := level, debounce := n } }
  if 200 ≤ n then debounced s else s

def execTooldetRawChange (level : Bool) (s : State) : Host.Outcome State Fault Refusal :=
  .next (whenAwake s (sampleTooldet level))

/-- The debounce count reaches 200 (R12). -/
def debounceCompletes (s : State) : State := if s.lines.raw = s.lines.tooldet then s else debounced s

def execTooldetDebounceComplete (s : State) : Host.Outcome State Fault Refusal :=
  .next (whenAwake s debounceCompletes)

/-! ### Sleep (R14) -/

/-- The part falls asleep if the quiet timer has run out and every condition of R14 holds. -/
def sleepTest (s : State) : State :=
  if s.part.quiet = 0 ∧ sleepConditions s = true then { s with part := { s.part with awake := false } } else s

/-- The quiet timer runs out, and the part tests whether it may sleep (R14). -/
def execQuietTimerExpiry (s : State) : Host.Outcome State Fault Refusal :=
  .next (whenAwake s (fun s => sleepTest { s with part := { s.part with quiet := 0 } }))

def execEnterAsleep (s : State) : Host.Outcome State Fault Refusal := .next (whenAwake s sleepTest)

/-! ### Timers of exchanges and messages (R48, R53, R64) -/

/-- Whether a reply timer is RUNNING. -/
def ReplyTimer.isRunning : ReplyTimer → Bool
  | .running _ => true
  | _ => false

/-- The reply timer of an AWAITING exchange runs out (R64). -/
def replyExpired (c : Fin 16) (s : State) : State :=
  match channelExchange s c with
  | some x => if x.state = .awaiting ∧ x.timer.isRunning = true then closeExchange x .noReply s else s
  | none => s

def execReplyTimerExpiry (c : Fin 16) (s : State) : Host.Outcome State Fault Refusal :=
  .next (whenAwake s (replyExpired c))

/-- A management message's segment timer runs out (R52, R53, R152). -/
def mgmtExpired (x : MgmtExchange) (s : State) : State :=
  match x.seg.timer, x.state with
  | none, _ => s
  | some _, .receiving => requestBroken x s
  | some _, _ => closeMgmt x.id s

/-- A segment timer runs out, and its message breaks (R48, R50, R52, R53). -/
def segmentExpired (r : MessageRef) (s : State) : State :=
  match r with
  | .channel c =>
    (match channelExchange s c with
     | some x => if x.seg.timer.isSome then closeExchange x .broken s else s
     | none => s)
  | .management m =>
    (match mgmtExchange s m with
     | some x => mgmtExpired x s
     | none => s)
  | .side m =>
    match sideOf s m with
    | .sending _ seg _ _ => if seg.timer.isSome then endSide m s else s
    | _ => s

def execSegmentTimerExpiry (r : MessageRef) (s : State) : Host.Outcome State Fault Refusal :=
  .next (whenAwake s (segmentExpired r))

/-- Whether a sender's next follow waits for its gap (R53). -/
def gapRuns (g : Seg) (t : Option Nat) : Bool := g.phase == .followsDue && t.isSome

/-- The gap has passed: the next follow is offered (R53). -/
def gapPassed (r : MessageRef) (s : State) : State :=
  match r with
  | .channel c =>
    (match channelExchange s c with
     | some x => if x.state = .outbound ∧ gapRuns x.seg x.gapTimer = true then sendFollows 1 x s else s
     | none => s)
  | .management m =>
    (match mgmtExchange s m with
     | some x => if x.state = .answering ∧ gapRuns x.seg x.gapTimer = true then replyFollows 1 x s else s
     | none => s)
  | .side m =>
    match sideOf s m with
    | .sending id seg msg t => if gapRuns seg t then sideFollows 1 m id seg msg s else s
    | _ => s

def execGapFollowOffer (r : MessageRef) (s : State) : Host.Outcome State Fault Refusal :=
  .next (whenAwake s (gapPassed r))

/-! ### Timers of windows and signals (R83, R118, R125 to R127) -/

/-- The grace timer runs out while SUSPENDED (R125). -/
def graceExpired (w : Fin 2) (s : State) : State :=
  match s.window w with
  | some v => if v.grace.isSome then abortWindow w .condition .condition true s else s
  | none => s

def execGraceTimerExpiry (w : Fin 2) (s : State) : Host.Outcome State Fault Refusal :=
  .next (whenAwake s (graceExpired w))

/-- The still-working reply for a held block (R126): 0xFF, the Block code, 0x2F, as a gateway reply. -/
def holdReply (x : ChannelExchange) (s : State) : State := gatewayReply x.channel x.code 0x2F s

/-- The hold timer runs out (R118, R126): a waiting lead gets a further wait, a held block a still-working reply, and
the timer is preset to 2 s. -/
def holdExpired (w : Fin 2) (s : State) : State :=
  match s.window w, linkedExchange s w with
  | some v, some x =>
    if v.hold.isSome then
      let s := setWindow w (some { v with hold := some 2000 }) s
      if x.state = .stagedHold then holdReply x s
      else if x.state = .staging ∧ x.seg.phase = .paceDue then sendWait x s
      else s
    else s
  | _, _ => s

def execHoldTimerExpiry (w : Fin 2) (s : State) : Host.Outcome State Fault Refusal := .next (whenAwake s (holdExpired w))

/-- The idle timer runs out (R127). -/
def idleExpired (w : Fin 2) (s : State) : State :=
  match s.window w with
  | some v => if v.idle.isSome then endActive w v .aborted .idle true s else s
  | none => s

def execIdleTimerExpiry (w : Fin 2) (s : State) : Host.Outcome State Fault Refusal := .next (whenAwake s (idleExpired w))

/-- A staleness timer runs out (R83, R84). -/
def signalStale (i : Fin 4) (s : State) : State :=
  let g := s.signals.get i
  if g.timer.isSome then
    reportConditions (conditions s) { s with signals := put s.signals i { g with fresh := false, timer := none } }
  else s

def execStalenessTimerExpiry (i : Fin 4) (s : State) : Host.Outcome State Fault Refusal :=
  .next (whenAwake s (signalStale i))

end Sys2Proof.Machine
end

