-- ==== Sys2Proof/Machine/Starts.lean ====
section
/-! DEFINITION. The starts (R16, R22, R35, R71, R86, R87, R97, R107, R131, R140, R151, R153, R157, R166, R167): the cold
start with what it finds in the store, the hot start, the wake, and the part-time second (R149). -/

namespace Sys2Proof.Machine

open Sys2Proof

/-! ### What a cold start leaves of the operation in progress (R166) -/

/-- A check word that is not the one an image's bytes give (R166; free, log 17). -/
def wrongCheck (draw : Nat) (images : List (List Byte)) : BitVec 16 :=
  checkWord images + 1 + BitVec.ofNat 16 (Config.tornCheckOffset draw).val

/-- An image left failing by a write cut short: the written entry's bytes are free, and the check word is not the one
its bytes give (R166; free values, log 17). -/
def tornImage (draw : Nat) (images : List (List Byte)) (place len : Nat) : Image :=
  let entries := images.set place ((List.range len).map (Config.tornByte draw))
  { entries := entries, check := wrongCheck draw entries }

/-- The stored numbering mark after an append cut short (R149, R151; free, log 17). -/
def tornMark (draw : Nat) (e : Entry) (mark : StoredNumber) : StoredNumber :=
  if Config.tornAppendMark draw = 0 then mark
  else if Config.tornAppendMark draw = 1 then .mark e.number
  else { value := e.number, check := wrongCheck draw [markImage e.number] }

/-- An entry left failing its check by an append cut short (R151, R166). -/
def tornEntry (draw : Nat) (e : Entry) : StoredEntry := { entry := e, check := wrongCheck draw [entryBytes e] }

/-- A slot's stored copy left failing its check (R87, R166). -/
def tornSlot (i : Fin 8) (s : State) : State :=
  let k := (s.store.slots.get i).slot
  let torn := { slot := k, check := wrongCheck s.part.draws [slotImage k.state.number k.key] }
  { s with store := { s.store with slots := put s.store.slots i torn } }

/-- The stored failure count left failing its check (R97, R166). -/
def tornCount (s : State) : State :=
  let n := s.store.failures.value
  { s with store := { s.store with failures := { value := n, check := wrongCheck s.part.draws [countImage n] } } }

/-- What a cold start in the middle of an operation leaves in the store (R166). -/
def tear (r : StoreRequest) (s : State) : State :=
  let d := s.part.draws
  match r with
  | .append e =>
    setEntries (storedWith (tornEntry d e) s.store.entries)
      { s with store := { s.store with mark := tornMark d e s.store.mark } }
  | .failureCount _ => tornCount s
  | .tableEntry e _ _ =>
    let t := tableOf e
    setImage t (tornImage d (baseImages s t) (entryPlace e) (imageLength t)) s
  | .credentialWrite i _ _ _ => tornSlot i s
  | .credentialWithdraw i _ _ => tornSlot i s
  | .lockPolicy _ _ _ => setImage .portSettings (tornImage d (baseImages s .portSettings) 0 29) s
  | .trim n _ => if Config.tornTrimRemoves d then removeOldest n s else s

/-- The store at the moment a cold start reads it: the operation in progress is cut short, the waiting requests are
lost (R166). -/
def powerLost (s : State) : State :=
  match s.store.queue with
  | r :: _ => setQueue [] (nextDraw (tear r s))
  | [] => s

/-! ### The loads of a cold start -/

/-- The Channel Table made to agree with the management identifiers (R22). -/
def agree (tb : Tables) : Tables :=
  { tb with channels := mapAll tb.channels (fun e => if clashesManagement tb.ports e then { e with live := false } else e) }

/-- The working copies as loaded (R167, R22). -/
def loadedTables (s : State) : Tables := agree (storedTables s)

/-- The fallback flags after a load (R167). -/
def loadedFlags (s : State) : Vector Bool 7 := mapAll s.store.images (fun i => !i.passes)

/-- A credential slot as loaded: one whose stored copy fails is WITHDRAWN (R87). -/
def loadedSlot (k : StoredSlot) : Slot := if k.passes then k.slot else { k.slot with state := .withdrawn }

/-- The failure count as loaded: one that fails its check is taken as 3 (R97). -/
def loadedFailures (n : StoredNumber) : Nat := if n.countPasses then n.value else 3

/-- The number of the newest entry of a list, 0 for none (R151). -/
def newestNumber (l : List Entry) : Nat := (l.getLast?.map (·.number)).getD 0

/-- Whether a table, a slot or the failure count fails its check (R167). -/
def loadFails (s : State) : Bool :=
  s.store.images.toList.any (fun i => !i.passes) || s.store.slots.toList.any (fun k => !k.passes) ||
    !s.store.failures.countPasses

/-- Whether a stored entry of the record fails its check (R151, R167). -/
def entryFails (s : State) : Bool := s.store.entries.any (fun x => !x.passes)

/-- The input lines after a start: the first sample, TOOLDET taken without debounce, the flags clear (R16). -/
def firstSample (l : Levels) : LineState :=
  { ignon := l.ignon, stlock := l.stlock, tooldet := l.tooldet, raw := l.tooldet, debounce := 0,
    tooldetChanged := false, ignonChanged := false }

def Inspector.clear : Inspector :=
  { windows := Vector.replicate 2 none, buffers := Vector.replicate 2 [], overlays := Vector.replicate 16 none }

/-- The buckets at their ceilings (R140). -/
def fullMeter (p : PortSettings) : Meter := { creditE := ceilingOf p .E, creditC := ceilingOf p .C }

/-- The Grant Unit after a cold start (R87, R97, R107). -/
def coldGrants (s : State) : GrantUnit :=
  let n := loadedFailures s.store.failures
  { slots := mapAll s.store.slots loadedSlot, challenge := none, lastChallenge := none, digest := none, grants := [],
    failures := n, lockout := if n = 3 then some 600000 else none, lamp := .dark }

/-- The Access Record after a cold start (R151): every stored entry that passes its check word is kept. -/
def coldRecord (s : State) : AccessRecord :=
  { kept := storedKept s, unrecorded := 0, partTime := 0, second := 1000,
    mark := if s.store.mark.markPasses then s.store.mark.value else newestNumber (storedKept s) }

/-- The state after the loads, from the store as power was lost with it (R151, R157, R167). -/
def loadAll (lines : Levels) (s : State) : State :=
  let tb := loadedTables s
  { pending := s.pending,
    part := { s.part with awake := true, quiet := 5000 },
    ports := { w := .start tb.ports.rateW, e := .start tb.ports.rateE, c := .start tb.ports.rateC },
    lines := firstSample lines,
    tables := tb,
    mirror := Vector.replicate 32 .quiet,
    signals := Vector.replicate 4 .stale,
    exchanges := [],
    grants := coldGrants s,
    inspector := .clear,
    meter := fullMeter tb.ports,
    record := coldRecord s,
    agent := { attention := { Attention.clear with storeFail := entryFails s, fallback := loadFails s },
               sideW := .absent, sideC := .absent, restart := .idle },
    store := { s.store with fallback := loadedFlags s } }

/-- A cold start (R16). -/
def coldStart (lines : Levels) (s : State) : State := loadAll lines (powerLost s)

def execColdStart (lines : Levels) (s : State) : Host.Outcome State Fault Refusal := .next (coldStart lines s)

/-! ### The hot start -/

/-- A port after a hot start (R16): its counters are kept. -/
def PortState.restart (x : PortState) (r : Rate) : PortState := { PortState.start r with counters := x.counters }

/-- A channel's working map after a hot start: one that carries an overlay takes the stored content whole (R131). -/
def resolvedMap (m : RegionMap) (overlay : Option RegionMap) : RegionMap := overlay.getD m

/-- The working copies after a hot start (R131, R167). -/
def hotTables (s : State) : Tables :=
  { s.tables with
    maps := tabulate 16 (fun c => resolvedMap (s.tables.maps.get c) (s.inspector.overlays.get c)) }

/-- The Grant Unit after a hot start (R97, R107): the slots, the failure count, the lockout and the latest challenge's
value are kept. -/
def hotGrants (g : GrantUnit) : GrantUnit :=
  { g with challenge := none, digest := none, grants := [], lamp := .dark }

/-- The state after a hot start (R16, R35, R71, R86, R107, R131, R140, R151, R153, R157, R163, R167). -/
def hotStart (lines : Levels) (s : State) : State :=
  { pending := s.pending,
    part := { s.part with awake := true, quiet := 5000 },
    ports := { w := s.ports.w.restart s.tables.ports.rateW, e := s.ports.e.restart s.tables.ports.rateE,
               c := s.ports.c.restart s.tables.ports.rateC },
    lines := firstSample lines,
    tables := hotTables s,
    mirror := Vector.replicate 32 .quiet,
    signals := Vector.replicate 4 .stale,
    exchanges := [],
    grants := hotGrants s.grants,
    inspector := .clear,
    meter := fullMeter s.tables.ports,
    record := s.record,
    agent := { s.agent with sideW := .absent, sideC := .absent, restart := .idle },
    store := s.store }

/-- Whether the hot start of a Restart has come: its reply has been sent, discarded or flushed, and the store is
idle (R163 step 4). -/
def hotStartDue (s : State) : Bool := s.agent.restart == .due && s.store.queue.isEmpty

/-- The hot start of a Restart (R16, R163). The other cause, a wake, is WAKE's own (log 18). -/
def execHotStart (lines : Levels) (s : State) : Host.Outcome State Fault Refusal :=
  .next (if hotStartDue s then hotStart lines s else s)

/-- An ASLEEP part wakes by a hot start, whatever the cause (R15). -/
def execWake (_cause : WakeCause) (lines : Levels) (s : State) : Host.Outcome State Fault Refusal :=
  .next (if s.part.awake then s else hotStart lines s)

/-! ### Part time (R149) -/

/-- Part time rises by one each 1000 ms, asleep or awake, and stops at 0xFFFFFFFF (R149). -/
def execPartTimeTick (s : State) : Host.Outcome State Fault Refusal :=
  .next (setRecord { s.record with partTime := min 0xFFFFFFFF (s.record.partTime + 1), second := 1000 } s)

end Sys2Proof.Machine
end

