-- ==== Sys2Proof/Machine/TimeBase.lean ====
section
/-! DEFINITION. The 1 ms time base on an idle part. The command table has no row for a bare tick: a step on an empty
queue is one (DESIGN CHOICE, log 5). Every running timer counts down by 1 ms and stands at 0 until the row of its
expiry is given; no event fires by itself, and the sampled lines stay as they are. -/

namespace Sys2Proof.Machine

open Sys2Proof

def MirrorRun.tick : MirrorRun → MirrorRun
  | .quiet => .quiet
  | .timing n => .timing (n - 1)
  | .holding n f => .holding (n - 1) f

def ReplyTimer.tick : ReplyTimer → ReplyTimer
  | .running n => .running (n - 1)
  | t => t

def Seg.tick (g : Seg) : Seg := { g with timer := countDown g.timer }

def Exchange.tick : Exchange → Exchange
  | .channel x => .channel { x with seg := x.seg.tick, timer := x.timer.tick, gapTimer := countDown x.gapTimer }
  | .management x => .management { x with seg := x.seg.tick, gapTimer := countDown x.gapTimer }

def Side.tick : Side → Side
  | .sending id seg msg t => .sending id seg.tick msg (countDown t)
  | x => x

def Lamp.tick : Lamp → Lamp
  | .toggling lit n => .toggling lit (n - 1)
  | l => l

def Grant.tick (g : Grant) : Grant := { g with seconds := countDown g.seconds }

def GrantUnit.tick (g : GrantUnit) : GrantUnit :=
  { g with challenge := g.challenge.map (fun c => { c with validity := c.validity - 1 }),
           grants := g.grants.map Grant.tick, lockout := countDown g.lockout, lamp := g.lamp.tick }

def Window.tick (w : Window) : Window :=
  { w with grace := countDown w.grace, idle := countDown w.idle, hold := countDown w.hold }

def PortState.tick (x : PortState) : PortState := { x with recovery := countDown x.recovery }

def SignalState.tick (g : SignalState) : SignalState := { g with timer := countDown g.timer }

/-- The TOOLDET count at a tick whose sample is the latest level (R12); the count of 200 is reached at the row
TOOLDET_DEBOUNCE_COMPLETE. -/
def LineState.tick (l : LineState) : LineState :=
  { l with debounce := if l.raw = l.tooldet then 0 else min 199 (l.debounce + 1) }

/-- The second of part time, which runs asleep and awake (R149). -/
def tickSecond (s : State) : State := setRecord { s.record with second := s.record.second - 1 } s

/-- One tick while AWAKE. -/
def tickAwake (s : State) : State :=
  { s with
    part := { s.part with quiet := s.part.quiet - 1 },
    ports := { w := s.ports.w.tick, e := s.ports.e.tick, c := s.ports.c.tick },
    lines := s.lines.tick,
    mirror := mapAll s.mirror MirrorRun.tick,
    signals := mapAll s.signals SignalState.tick,
    exchanges := s.exchanges.map Exchange.tick,
    grants := s.grants.tick,
    inspector := { s.inspector with windows := mapAll s.inspector.windows (fun w => w.map Window.tick) },
    agent := { s.agent with sideW := s.agent.sideW.tick, sideC := s.agent.sideC.tick } }

/-- One tick: while ASLEEP every timer but the part-time second keeps its value (R14). -/
def tick (s : State) : State := tickSecond (whenAwake s tickAwake)

end Sys2Proof.Machine
end

