-- ==== Sys2Proof/Machine/Dispatch.lean ====
section
/-! DEFINITION. The dispatch of a command to its meaning, one arm per constructor. -/

namespace Sys2Proof.Machine

open Sys2Proof

def exec (i : Instr) (s : State) : Host.Outcome State Fault Refusal :=
  match i with
  | .coldStart lines => Sys2Proof.Machine.execColdStart lines s
  | .hotStart lines => Sys2Proof.Machine.execHotStart lines s
  | .frameReceived p f => Sys2Proof.Machine.execFrameReceived p f s
  | .routerTakesFrame p => Sys2Proof.Machine.execRouterTakesFrame p s
  | .mirrorIntervalExpiry pos => Sys2Proof.Machine.execMirrorIntervalExpiry pos s
  | .headFrameRelease p => Sys2Proof.Machine.execHeadFrameRelease p s
  | .meterRefill => Sys2Proof.Machine.execMeterRefill s
  | .frameSent p => Sys2Proof.Machine.execFrameSent p s
  | .transmissionLost p => Sys2Proof.Machine.execTransmissionLost p s
  | .transmissionFailed p => Sys2Proof.Machine.execTransmissionFailed p s
  | .portRecovery p => Sys2Proof.Machine.execPortRecovery p s
  | .bitRateChangeEffect p => Sys2Proof.Machine.execBitRateChangeEffect p s
  | .ignonChange level => Sys2Proof.Machine.execIgnonChange level s
  | .stlockChange level => Sys2Proof.Machine.execStlockChange level s
  | .tooldetRawChange level => Sys2Proof.Machine.execTooldetRawChange level s
  | .tooldetDebounceComplete => Sys2Proof.Machine.execTooldetDebounceComplete s
  | .quietTimerExpiry => Sys2Proof.Machine.execQuietTimerExpiry s
  | .enterAsleep => Sys2Proof.Machine.execEnterAsleep s
  | .wake cause lines => Sys2Proof.Machine.execWake cause lines s
  | .replyTimerExpiry c => Sys2Proof.Machine.execReplyTimerExpiry c s
  | .segmentTimerExpiry r => Sys2Proof.Machine.execSegmentTimerExpiry r s
  | .gapFollowOffer r => Sys2Proof.Machine.execGapFollowOffer r s
  | .sideAnswerBegins m => Sys2Proof.Machine.execSideAnswerBegins m s
  | .managementReplyBegins m => Sys2Proof.Machine.execManagementReplyBegins m s
  | .identityRead m => Sys2Proof.Machine.execIdentityRead m s
  | .statusRead m => Sys2Proof.Machine.execStatusRead m s
  | .attentionRead m => Sys2Proof.Machine.execAttentionRead m s
  | .countersRead m => Sys2Proof.Machine.execCountersRead m s
  | .trafficList m => Sys2Proof.Machine.execTrafficList m s
  | .grantList m => Sys2Proof.Machine.execGrantList m s
  | .tableRead m => Sys2Proof.Machine.execTableRead m s
  | .recordRead m => Sys2Proof.Machine.execRecordRead m s
  | .accessRequest m => Sys2Proof.Machine.execAccessRequest m s
  | .accessProof m => Sys2Proof.Machine.execAccessProof m s
  | .grantExtend m => Sys2Proof.Machine.execGrantExtend m s
  | .grantRevoke m => Sys2Proof.Machine.execGrantRevoke m s
  | .credentialWrite m => Sys2Proof.Machine.execCredentialWrite m s
  | .credentialWithdraw m => Sys2Proof.Machine.execCredentialWithdraw m s
  | .tableWriteWorking m => Sys2Proof.Machine.execTableWriteWorking m s
  | .tableWriteStored m => Sys2Proof.Machine.execTableWriteStored m s
  | .tableReload m => Sys2Proof.Machine.execTableReload m s
  | .lockPolicyWrite m => Sys2Proof.Machine.execLockPolicyWrite m s
  | .recordAcknowledge m => Sys2Proof.Machine.execRecordAcknowledge m s
  | .restart m => Sys2Proof.Machine.execRestart m s
  | .restartReplyOffered => Sys2Proof.Machine.execRestartReplyOffered s
  | .appendComplete pass => Sys2Proof.Machine.execAppendComplete pass s
  | .failureCountWriteComplete pass => Sys2Proof.Machine.execFailureCountWriteComplete pass s
  | .tableEntryWriteComplete pass => Sys2Proof.Machine.execTableEntryWriteComplete pass s
  | .credentialWriteComplete pass => Sys2Proof.Machine.execCredentialWriteComplete pass s
  | .credentialWithdrawComplete pass => Sys2Proof.Machine.execCredentialWithdrawComplete pass s
  | .lockPolicyWriteComplete pass => Sys2Proof.Machine.execLockPolicyWriteComplete pass s
  | .trimComplete pass => Sys2Proof.Machine.execTrimComplete pass s
  | .challengeValidityExpiry => Sys2Proof.Machine.execChallengeValidityExpiry s
  | .digestComplete => Sys2Proof.Machine.execDigestComplete s
  | .lockoutExpiry => Sys2Proof.Machine.execLockoutExpiry s
  | .grantSecondsTimerExpiry g => Sys2Proof.Machine.execGrantSecondsTimerExpiry g s
  | .acclmpToggle => Sys2Proof.Machine.execAcclmpToggle s
  | .graceTimerExpiry w => Sys2Proof.Machine.execGraceTimerExpiry w s
  | .holdTimerExpiry w => Sys2Proof.Machine.execHoldTimerExpiry w s
  | .idleTimerExpiry w => Sys2Proof.Machine.execIdleTimerExpiry w s
  | .stalenessTimerExpiry n => Sys2Proof.Machine.execStalenessTimerExpiry n s
  | .partTimeTick => Sys2Proof.Machine.execPartTimeTick s

end Sys2Proof.Machine
end

