-- ==== Sys2Proof/Machine/Step.lean ====
section
/-! DEFINITION. One step: the command at the front of the queue, or a tick of the time base when none waits. -/

namespace Sys2Proof.Machine

open Sys2Proof

/-- The state without its front command. -/
def State.popped (s : State) : State := { s with pending := s.pending.tail }

/-- One step of the gateway. -/
def step (s : State) : Host.Outcome State Fault Refusal :=
  match s.pending with
  | [] => .next (tick s)
  | c :: _ => exec c s.popped

/-- The state with the command a word spells put at the front of its queue; unchanged, as no word spells one. -/
def State.withFetchWord (s : State) (nbits w : Nat) : State :=
  match decodeTableWord nbits w with
  | some c => { s with pending := c :: s.pending }
  | none => s

end Sys2Proof.Machine
end

