-- ==== Sys2Proof/Safety.lean ====
section
/-! DEFINITION. What counts as a sound state of the gateway, in the terms the statements use: the laws the manual's
rules give, the situations a command meets, and the states the starts leave. -/

namespace Sys2Proof.Safety

open Sys2Proof Sys2Proof.Machine

/-! ### The laws -/

/-- The credit of each metered port is within its ceiling, the depth times 100 centibits (R133). -/
abbrev creditLaw (s : State) : Prop :=
  s.meter.creditE ≤ s.tables.ports.depthE * 100 ∧ s.meter.creditC ≤ s.tables.ports.depthC * 100

/-- No two grants share a number (R93, R98). -/
abbrev grantNumbersDistinct (s : State) : Prop := (s.grants.grants.map (·.number)).Nodup

/-- The entries of a stored record that pass their check words, in the order they were stored (R151). -/
abbrev passing (l : List StoredEntry) : List Entry :=
  (l.filter (fun y => decide (y.check = checkWord [entryBytes y.entry]))).map (·.entry)

/-- Kept entries, settling entries and reservations never exceed 128 (R141); the kept entries are those of the store that
pass their check words (R151). -/
abbrev roomLaw (s : State) : Prop :=
  occupied s ≤ 128 ∧ grantNumbersDistinct s ∧ s.record.kept = passing s.store.entries

/-- Each counter is a 16-bit count (R10). -/
abbrev countersInRange (c : Counters) : Prop :=
  c.received ≤ 65535 ∧ c.overrun ≤ 65535 ∧ c.unroutable ≤ 65535 ∧ c.late ≤ 65535 ∧ c.transmitted ≤ 65535 ∧
    c.discarded ≤ 65535 ∧ c.withdrawals ≤ 65535

/-- A port's FIFO and queue hold at most 32 frames (R2, R4), only the head of its queue may be released (R135), its
counters are in range (R10), an ACTIVE port has a fault score below 128 (R7, R8), and a recovery timer runs, over an
empty queue, exactly while it is WITHDRAWN (R8, R9). -/
abbrev portLaw (x : PortState) : Prop :=
  x.rx.length ≤ 32 ∧ x.out.length ≤ 32 ∧ (∀ f ∈ x.out.tail, f.released = false) ∧ countersInRange x.counters ∧
    (x.status = .active → x.fault < 128) ∧ (x.status = .withdrawn → x.out = []) ∧
    (x.status = .withdrawn ↔ x.recovery.isSome = true)

abbrev portsLaw (s : State) : Prop := portLaw s.ports.w ∧ portLaw s.ports.e ∧ portLaw s.ports.c

/-- The failure counts waiting to be written. -/
abbrev queuedCounts (s : State) : List Nat :=
  s.store.queue.filterMap (fun r => match r with
    | .failureCount n => some n
    | _ => none)

/-- The failure count is 0 to 3 and a lockout runs exactly when it is 3 (R97). With it stands what the law rests on: a
digest runs only without a lockout (R93), and the stored and waiting counts are 0 to 3. -/
abbrev lockoutLaw (s : State) : Prop :=
  s.grants.failures ≤ 3 ∧ (s.grants.lockout.isSome = true ↔ s.grants.failures = 3) ∧
    (s.grants.digest.isSome = true → s.grants.lockout = none) ∧ s.store.failures.value ≤ 3 ∧
    (∀ n ∈ queuedCounts s, n ≤ 3)

/-- A grant whose proof is in progress (R91, R93). -/
abbrev inProof (g : Grant) : Prop := g.state = .checking ∨ g.state = .recording

/-- At most one proof is in progress, and while one is there is neither a challenge nor a lockout (R91, R93, R94); a
digest whose result is not to be discarded runs for a CHECKING grant (R93, R99). On this rests the law of R98 that no
grant becomes ACTIVE while a lockout runs. -/
abbrev proofLaw (s : State) : Prop :=
  grantNumbersDistinct s ∧
    (∀ g ∈ s.grants.grants, ∀ h ∈ s.grants.grants, inProof g → inProof h → g.number = h.number) ∧
    (∀ g ∈ s.grants.grants, inProof g → s.grants.challenge = none ∧ s.grants.lockout = none) ∧
    (∀ d ∈ s.grants.digest, d.discarded = false → ∃ g ∈ s.grants.grants, g.number = d.grant ∧ g.state = .checking)

/-- A grant's numbers are within the ranges of R98. -/
abbrev grantInRange (g : Grant) : Prop :=
  g.number < 8 ∧ 60 ≤ g.granted ∧ g.granted ≤ 14400 ∧ g.remaining ≤ 14400 ∧ g.extensions ≤ 3

/-- An outstanding challenge leaves room for its grant (R91) and holds a clamped duration (R90). -/
abbrev challengeInRange (s : State) : Prop :=
  ∀ c ∈ s.grants.challenge, s.grants.grants.length < 8 ∧ 60 ≤ c.duration ∧ c.duration ≤ 14400

/-- The Grant Table holds at most 8 grants, with distinct numbers and fields within their ranges (R98). -/
abbrev grantTableLaw (s : State) : Prop :=
  s.grants.grants.length ≤ 8 ∧ grantNumbersDistinct s ∧ (∀ g ∈ s.grants.grants, grantInRange g) ∧ challengeInRange s

/-- The channels with a pending exchange. -/
abbrev pendingChannels (s : State) : List (Fin 16) :=
  s.exchanges.filterMap (fun e => match e with
    | .channel x => some x.channel
    | .management _ => none)

/-- The management channels with a pending exchange. -/
abbrev pendingMgmt (s : State) : List Mgmt :=
  s.exchanges.filterMap (fun e => match e with
    | .management x => some x.chan
    | .channel _ => none)

/-- The numbers of the pending exchanges. -/
abbrev pendingIds (s : State) : List Nat :=
  s.exchanges.map (fun e => match e with
    | .channel x => x.id
    | .management x => x.id)

/-- At most one exchange per channel and one per management channel (R55), so at most 18 records. The model's own
numbers are distinct and below the next one due (log 2). -/
abbrev exchangeLaw (s : State) : Prop :=
  (pendingChannels s).Nodup ∧ (pendingMgmt s).Nodup ∧ (pendingIds s).Nodup ∧ ∀ n ∈ pendingIds s, n < s.part.stamp

/-- Two open windows are on different channels, and each holds at most two reservations (R112). -/
abbrev windowLaw (s : State) : Prop :=
  (∀ a ∈ s.window 0, ∀ b ∈ s.window 1, a.channel ≠ b.channel) ∧
    (∀ a ∈ s.window 0, a.reservations ≤ 2) ∧ (∀ b ∈ s.window 1, b.reservations ≤ 2)

/-- What a window holds: nothing of a download while OPEN_PENDING, when the Open's exchange is linked to it; from ACTIVE on
a next address and a remaining length with A ≤ next and next + remaining = A + L (the law of R112). -/
abbrev windowHolds (s : State) (w : Fin 2) (v : Window) : Prop :=
  (v.state = .openPending ↔ v.run = none) ∧
    (v.state = .openPending → ∃ x, linkedExchange s w = some x ∧ x.role = some .opening) ∧
    ∀ r ∈ v.run, ∃ a l, v.range = some (a, l) ∧ a ≤ r.next ∧ r.next + r.remaining = a + l

/-- What an exchange linked to a window keeps to, by its role and state (R113, R114, R119, R123): an Open not yet judged
has its window OPEN_PENDING, and once judged its range; a step of the download finds the window past OPEN_PENDING; the
block in hand of a Block that still waits for its answer fits the remaining length, unless it is a repeat. -/
abbrev linkHolds (v : Window) (x : ChannelExchange) : Prop :=
  v.channel = x.channel ∧
    (x.role ≠ some .block → x.state = .inbound ∨ x.state = .awaiting ∨ x.state = .replying) ∧
    (x.role = some .opening → x.state = .inbound → v.state = .openPending) ∧
    (x.role = some .opening → x.state ≠ .inbound → v.range.isSome = true) ∧
    (x.role ≠ some .opening → v.state ≠ .openPending) ∧
    (x.role = some .block → x.state ≠ .inbound) ∧
    (x.role = some .block → x.state ≠ .staging → (x.state = .replying → x.form = .stillWorking) →
      ∀ b ∈ v.inHand, ∀ r ∈ v.run, b.again = false → b.count ≤ r.remaining)

/-- The law of R112 over the download of every open window, with what it rests on. -/
abbrev downloadLaw (s : State) : Prop :=
  (∀ v ∈ s.window 0, windowHolds s 0 v) ∧ (∀ v ∈ s.window 1, windowHolds s 1 v) ∧
    ∀ c, ∀ x ∈ channelExchange s c, ∀ w ∈ x.window, ∃ v, s.window w = some v ∧ linkHolds v x

/-- No two live channels share a request identifier, or a response identifier on one port, and no request identifier is
another's response identifier (R19). -/
abbrev channelsApart (l : Vector ChannelEntry 16) : Prop :=
  ∀ i j, i ≠ j → (l.get i).live = true → (l.get j).live = true →
    (l.get i).ids.request ≠ (l.get j).ids.request ∧ (l.get i).ids.request ≠ (l.get j).ids.response ∧
      ((l.get i).port = (l.get j).port → (l.get i).ids.response ≠ (l.get j).ids.response)

/-- An identifier is neither of a pair's two. -/
abbrev outside (p : IdPair) (i : Ident) : Prop := i ≠ p.request ∧ i ≠ p.response

/-- No identifier of a live channel is a management identifier of its ports: of W for every channel, of C for a channel of
port C (R19). -/
abbrev clearOfManagement (t : Tables) : Prop :=
  ∀ i, (t.channels.get i).live = true →
    outside t.ports.wPair (t.channels.get i).ids.request ∧ outside t.ports.wPair (t.channels.get i).ids.response ∧
      ((t.channels.get i).port = .C →
        outside t.ports.cPair (t.channels.get i).ids.request ∧ outside t.ports.cPair (t.channels.get i).ids.response)

/-- Law of R19, of the working copy. With it stands what it rests on: the stored channels are apart too, so that a load
keeps it, and a table write that has begun has passed its comparison with the stored copy (R160). -/
abbrev identifiersLaw (s : State) : Prop :=
  channelsApart s.tables.channels ∧ clearOfManagement s.tables ∧ channelsApart (storedTables s).channels ∧
    ∀ e k id rest, s.store.queue = .tableEntry e k id :: rest → clashes (storedTables s) e = false

/-- An address is in one of the ranges. -/
abbrev barred (l : List (Nat × Nat)) (a : Nat) : Prop := ∃ r ∈ l, r.1 ≤ a ∧ a < r.2

/-- Law of R111: while the stored map table passes its check, what the stored map of a channel bars stays barred by the
working map or by its overlay. An overlay is the stored map of its channel, and its channel has a window. -/
abbrev barLaw (s : State) : Prop :=
  (storedImage s .regionMap).entries.length = 16 ∧
    ((storedImage s .regionMap).check = checkWord (storedImage s .regionMap).entries → ∀ c,
      (∀ a, barred (writeBars ((storedTables s).maps.get c)) a → barred (channelWriteBars s c) a) ∧
        (∀ a, barred (eraseBars ((storedTables s).maps.get c)) a → barred (channelEraseBars s c) a)) ∧
    ∀ c, ∀ m ∈ s.inspector.overlays.get c,
      (storedImage s .regionMap).check = checkWord (storedImage s .regionMap).entries ∧
        (storedTables s).maps.get c = m ∧ windowOn s c ≠ none

/-- Whether a download window is open. -/
abbrev windowOpen (s : State) : Prop := s.window 0 ≠ none ∨ s.window 1 ≠ none

/-- Whether a grant is ACTIVE or HELD. -/
abbrev granting (g : Grant) : Prop := g.state = .active ∨ g.state = .held

/-- The access lamp follows the table of R106: toggling while a window is open, steady while none is and a grant is ACTIVE
or HELD, dark otherwise. -/
abbrev lampLaw (s : State) : Prop :=
  (windowOpen s → ∃ lit left, s.grants.lamp = .toggling lit left) ∧
    (¬windowOpen s → (∃ g ∈ s.grants.grants, granting g) → s.grants.lamp = .steady) ∧
    (¬windowOpen s → (∀ g ∈ s.grants.grants, ¬granting g) → s.grants.lamp = .dark)

/-! ### Which commands act on an ASLEEP part (R14, R15) -/

/-- The starts, the wake and the second of part time act in either state; every other command needs the part AWAKE. -/
def actsAsleep : Instr → Bool
  | .coldStart _ => true
  | .hotStart _ => true
  | .wake _ _ => true
  | .partTimeTick => true
  | _ => false

/-! ### Ports and queues -/

/-- Whether a port accepts a frame offered to its queue (R4). -/
abbrev hasRoom (s : State) (p : Port) : Prop := (s.port p).status = .active ∧ (s.port p).out.length < 32

/-- The frames of a port's queue, without what the model adds to them. -/
abbrev queued (s : State) (p : Port) : List Frame := (s.port p).out.map (·.frame)

/-- A frame of an identifier and data bytes. -/
abbrev frameOf (i : Ident) (data : List Byte) : Frame := { id := i, data := data }

/-- A state with the oldest frame of a port's FIFO gone (R23). -/
abbrev taken (s : State) (p : Port) (rest : List Frame) : State := s.setPort p { s.port p with rx := rest }

/-- A frame as it joins an outward queue: not released, with its origin and what the model adds to it (log 14). -/
abbrev offered (f : Frame) (o : Origin) (owner : Nat) (mark : Mark) : OutFrame :=
  { frame := f, origin := o, released := false, owner := owner, mark := mark }

/-- A gateway reply of reason `r` to a request of code `code` on channel `c`, as it joins port W's queue (R42). -/
abbrev replyFrame (s : State) (c : Fin 16) (code : Byte) (r : Nat) : OutFrame :=
  offered { id := (s.channel c).ids.response, data := [byte 0, byte 0xFF, code, byte r] } (.reply c) 0 .plain

/-- The data of follow `i` of a message: its index and the message's 7 bytes from byte 7i on, fewer in the last (R37,
R39). -/
abbrev follow (msg : List Byte) (i : Nat) : List Byte := byte (128 + i) :: (msg.drop (7 * i)).take 7

/-- What is left of an allowance when `n` follows of it have been sent (R47). -/
def spentBy (n : Nat) : Allowance → Allowance
  | .num a => .num (a - n)
  | .rest => .rest

/-- The record of a sender that takes a proceed of control byte `ctl` and gap byte `gap` (R53): the allowance and the gap
as they read, an allowance of 0 as REST. That no frame still waiting presets the timer from then on is log 14. -/
abbrev resumed (g : Seg) (ctl gap : Byte) : Seg :=
  { g with phase := .followsDue, allow := (if ctl.toNat = 192 then .rest else .num (ctl.toNat - 192)), gap := gap.toNat,
           timer := none, turn := 0 }

/-- How many follows a sender that has just got the turn offers at once (R53): one under a gap, otherwise as many as the
allowance gives, up to the last. -/
def followsNow (g : Seg) : Nat :=
  if g.gap ≠ 0 then 1
  else match g.allow with
    | .num a => min a (g.count + 1 - g.next)
    | .rest => g.count + 1 - g.next

/-- What the sending of follow `i` brings about (R48, R53; log 14): of the last one the end of the message, of the one that
spends the allowance the segment timer, of another under a gap the gap. -/
def followMark (g : Seg) (stamp i : Nat) : Mark :=
  if i = g.count then .last
  else if g.allow = .num (i + 1 - g.next) then .turn stamp
  else if g.gap = 0 then .plain else .spaced

/-- The record once `n` follows have been offered (R47, R53): after the last one only the length has moved with the follows
before it, the follow that spends the allowance gives the turn away with the timer stopped. -/
def afterFollows (g : Seg) (msg : List Byte) (stamp n : Nat) : Seg :=
  let len := g.len + ((msg.drop (7 * g.next)).take (7 * n)).length
  if g.next + n = g.count + 1 then { g with next := g.count, allow := spentBy (n - 1) g.allow, len := len }
  else if g.allow = .num n then
    { g with phase := .paceDue, next := g.next + n, allow := .num 0, len := len, timer := none, turn := stamp }
  else { g with next := g.next + n, allow := spentBy n g.allow, len := len }

/-- The frames of a port's queue with what the model adds to them, but for their release (log 14). -/
abbrev marked (s : State) (p : Port) : List (Frame × Origin × Nat × Mark) :=
  (s.port p).out.map (fun o => (o.frame, o.origin, o.owner, o.mark))

/-- A port accepts `n` frames more (R4). -/
abbrev roomFor (s : State) (p : Port) (n : Nat) : Prop := (s.port p).status = .active ∧ (s.port p).out.length + n ≤ 32

/-- The next `n` follows of a message have joined port `p`'s queue, in index order (R53). -/
abbrev followsOffered (s t : State) (p : Port) (id : Ident) (o : Origin) (owner : Nat) (msg : List Byte) (g : Seg)
    (n : Nat) : Prop :=
  marked t p = marked s p ++ (List.range n).map (fun j =>
    (frameOf id (follow msg (g.next + j)), o, owner, followMark g s.part.stamp (g.next + j)))

/-- A state in which one frame more waits on port W. -/
abbrev withReply (s : State) (f : OutFrame) : State := s.setPort .W { s.port .W with out := (s.port .W).out ++ [f] }

/-- The oldest frame on port W is a tool-side frame of channel `c` (R24); no other live channel carries its
identifier, as the law of R19 gives. -/
structure ToolSide (s : State) (c : Fin 16) (f : Frame) (rest : List Frame) : Prop where
  awake   : s.part.awake = true
  fifo    : s.ports.w.rx = f :: rest
  notMgmt : f.id ≠ s.tables.ports.wPair.request
  live    : (s.channel c).live = true
  request : (s.channel c).ids.request = f.id
  single  : ∀ d, (s.channel d).live = true → (s.channel d).ids.request = f.id → d = c

/-- The oldest frame on channel `c`'s target port is a controller-side frame of that channel (R25); no other live
channel of the port carries its identifier, as the law of R19 gives. -/
structure ControllerSide (s : State) (c : Fin 16) (f : Frame) (rest : List Frame) : Prop where
  awake    : s.part.awake = true
  fifo     : (s.port (netPort (s.channel c).port)).rx = f :: rest
  notMgmt  : ¬((s.channel c).port = .C ∧ s.tables.ports.cEnabled = true ∧ f.id = s.tables.ports.cPair.request)
  live     : (s.channel c).live = true
  response : (s.channel c).ids.response = f.id
  single   : ∀ d, (s.channel d).live = true → (s.channel d).port = (s.channel c).port →
    (s.channel d).ids.response = f.id → d = c

/-- The oldest frame on port E or C is vehicle traffic (R25). -/
structure VehicleSide (s : State) (n : Net) (f : Frame) (rest : List Frame) : Prop where
  awake   : s.part.awake = true
  fifo    : (s.port (netPort n)).rx = f :: rest
  notMgmt : ¬(n = .C ∧ s.tables.ports.cEnabled = true ∧ f.id = s.tables.ports.cPair.request)
  noChan  : ∀ d, (s.channel d).live = true → (s.channel d).port = n → (s.channel d).ids.response ≠ f.id

/-! ### Management requests -/

/-- A complete request of a code waits to be served on a management channel (R56, R154). -/
structure RequestWaits (s : State) (m : Mgmt) (code : Nat) (x : MgmtExchange) : Prop where
  awake    : s.part.awake = true
  pending  : mgmtExchange s m = some x
  serving  : x.state = .serving
  unserved : x.work = .unserved
  codeIs   : x.code = byte code
  first    : x.buffer.head? = some (byte code)

/-- The condition of an attention number is pending (R157); R169 numbers the conditions. -/
def attentionRaised (s : State) : Nat → Bool
  | 1 => s.agent.attention.storeFail
  | 2 => s.agent.attention.fallback
  | 3 => s.agent.attention.lockoutBegan
  | 4 => s.agent.attention.withdrawnW
  | 5 => s.agent.attention.withdrawnE
  | 6 => s.agent.attention.withdrawnC
  | 7 => decide (112 ≤ occupied s)
  | 8 => s.agent.attention.downloadEnded
  | _ => false

/-- The number an Attention Read returns: the pending condition of highest priority, 0 for none (R157). -/
abbrev firstRaised (s : State) (n : Nat) : Prop :=
  (n = 0 ∨ attentionRaised s n = true) ∧ ∀ j, (j < n ∨ n = 0) → attentionRaised s j = false

/-- How many conditions are pending. -/
def attentionCount (s : State) : Nat := ((List.range 9).filter (attentionRaised s)).length

/-- How many stay pending once condition `n` has been returned: RECORD_LOW (7) is a level and stays (R157). -/
abbrev leftPending (s : State) (n : Nat) : Nat := attentionCount s - (if n = 0 ∨ n = 7 then 0 else 1)

/-- The attention conditions after condition `n` has been returned: if latched, it is cleared (R157). -/
abbrev attentionTaken (s t : State) (n : Nat) : Prop :=
  ∀ j, attentionRaised t j = (attentionRaised s j && (decide (j ≠ n) || decide (j = 7)))

/-- The request waits for its store operation, which has joined the store request queue (R160, R165). -/
abbrev storeOffered (s : State) (x : MgmtExchange) (r : StoreRequest) : State :=
  setMgmtExchange { x with work := .awaitStore } { s with store := { s.store with queue := s.store.queue ++ [r] } }

/-- The entry an append makes at this moment (R142, R143, R149). -/
abbrev entryNow (s : State) (d : Detail) (g : Option Nat) (k : Option (Fin 8)) (c : Option (Fin 16 × Byte)) : Entry :=
  { number := (s.record.mark + 1) % 4294967296, time := s.record.partTime, detail := d, grant := g, slot := k,
    channel := c, unrecorded := s.record.unrecorded }

/-- What offering an entry leaves, of an event that holds no reservation (R143, R144): with room and a place in the queue
the entry waits to be stored and has taken its number, and otherwise the event is counted unrecorded (R146). -/
abbrev noted (s : State) (d : Detail) (g : Option Nat) (k : Option (Fin 8)) (c : Option (Fin 16 × Byte)) (t : State) :
    Prop :=
  (occupied s < 128 ∧ s.store.queue.length < 16 → t = { s with
    store := { s.store with queue := s.store.queue ++ [.append (entryNow s d g k c)] }
    record := { s.record with mark := (s.record.mark + 1) % 4294967296, unrecorded := 0 } }) ∧
  (¬(occupied s < 128 ∧ s.store.queue.length < 16) → t = { s with
    record := { s.record with unrecorded := min 65535 (s.record.unrecorded + 1) } })

/-- The grants with those of one number changed. -/
abbrev grantsWith (s : State) (n : Nat) (f : Grant → Grant) : List Grant :=
  s.grants.grants.map (fun g => if g.number = n then f g else g)

/-- The operation that becomes the oldest begins as it was offered: it is no table write, which is compared again, and
no trim, which is clamped again (R150, R160). -/
def beginsAsOffered : List StoreRequest → Bool
  | .tableEntry _ _ _ :: _ => false
  | .trim _ _ :: _ => false
  | _ => true

/-- What the store makes of a state when the operation in progress has left its queue and the next one, if any, begins
(R150, R160, R165): a table write that clashes with the stored copy as it now stands ends BAD_ENTRY, unwritten, and the
one behind it begins; a trim is clamped to the kept count; any other operation begins as it was offered. -/
inductive Begun : State → State → Prop
  | asOffered (s : State) : beginsAsOffered s.store.queue = true → Begun s s
  | write (s : State) (e : TableEntry) (k : Option (Nat × Fin 8)) (id : Nat) (rest : List StoreRequest) :
      s.store.queue = .tableEntry e k id :: rest → clashes (storedTables s) e = false → Begun s s
  | clash (s t : State) (e : TableEntry) (k : Option (Nat × Fin 8)) (id : Nat) (rest : List StoreRequest) :
      s.store.queue = .tableEntry e k id :: rest → clashes (storedTables s) e = true →
      Begun (answer id [byte 0xFF, byte 0x18, byte 9] { s with store := { s.store with queue := rest } }) t → Begun s t
  | trim (s : State) (n id : Nat) (rest : List StoreRequest) : s.store.queue = .trim n id :: rest →
      Begun s { s with store := { s.store with queue := .trim (min n s.record.kept.length) id :: rest } }

/-- A completion answers the next state that the store makes of `u` (R166). -/
abbrev completesWith (c : Instr) (s u : State) : Prop := ∃ t, exec c s = .next t ∧ Begun u t

/-! ### Fields as bytes -/

/-- A named value: its place in the list that defines it, from 0 (R168). -/
abbrev place {α : Type} [BEq α] (l : List α) (a : α) : Byte := byte (l.idxOf a)

/-- An optional field of one byte, all ones when absent (R168). -/
abbrev orOnes {α : Type} (o : Option α) (f : α → Byte) : Byte := (o.map f).getD (byte 0xFF)

/-- A timer field: the remaining ms in 2 bytes, all ones while stopped (R170). -/
abbrev timerField (o : Option Nat) : List Byte := (o.map (beBytes 2)).getD [byte 0xFF, byte 0xFF]

/-! ### Requests and their lengths -/

/-- The code of every request but the Table Write, and the length of its message with the code counted (R154, R169). -/
def requestLengths : List (Nat × Nat) :=
  [(0x01, 1), (0x02, 1), (0x03, 1), (0x04, 2), (0x05, 1), (0x06, 1), (0x07, 4), (0x08, 2), (0x10, 7), (0x11, 9),
    (0x12, 4), (0x13, 2), (0x14, 18), (0x15, 2), (0x19, 2), (0x1A, 2), (0x1C, 3), (0x1F, 1)]

/-- A message has a request's code and that request's length; a Table Write's is 4 bytes and the image of its table. -/
abbrev requestFits (msg : List Byte) : Prop :=
  (∃ code n rest, (code, n) ∈ requestLengths ∧ msg = byte code :: rest ∧ msg.length = n) ∨
    ∃ k rest, msg = byte 0x18 :: byte (tableNumber k) :: rest ∧ msg.length = 4 + imageLength k

/-- A message has a request's code and not that request's length. -/
abbrev requestMisfits (msg : List Byte) : Prop :=
  (∃ code n rest, (code, n) ∈ requestLengths ∧ msg = byte code :: rest ∧ msg.length ≠ n) ∨
    (∃ k rest, msg = byte 0x18 :: byte (tableNumber k) :: rest ∧ msg.length ≠ 4 + imageLength k) ∨ msg = [byte 0x18]

/-- A message's first byte is no request's code. -/
abbrev requestUnknown (msg : List Byte) : Prop :=
  ∃ code rest, msg = code :: rest ∧ code ≠ byte 0x18 ∧ ∀ p ∈ requestLengths, code ≠ byte p.1

/-- What a complete request of code `code` waits for (R154, R163): its own row, or a refusal that is ready. BUSY of a
restarting Agent comes after the other two (log 22). -/
abbrev requestJudged (s : State) (msg : List Byte) (work : Work) : Prop :=
  (requestUnknown msg → work = .ready [byte 0xFF, msg.headD 0, byte 0x01]) ∧
    (requestMisfits msg → work = .ready [byte 0xFF, msg.headD 0, byte 0x0D]) ∧
    (requestFits msg → s.agent.restart ≠ .idle → work = .ready [byte 0xFF, msg.headD 0, byte 0x04]) ∧
    (requestFits msg → s.agent.restart = .idle → work = .unserved)

/-- The oldest frame of a management channel's port is a frame of that channel (R24, R25, R152). -/
structure MgmtSide (s : State) (m : Mgmt) (f : Frame) (rest : List Frame) : Prop where
  awake   : s.part.awake = true
  fifo    : (s.port (mgmtPort m)).rx = f :: rest
  request : f.id = (mgmtPair s m).request
  enabled : m = .C → s.tables.ports.cEnabled = true

/-! ### Downloads -/

/-- An ACTIVE grant that covers an Open on a channel (R78): REPROGRAM, and not yet bound to a window (log 20). -/
abbrev coversOpen (g : Grant) (c : Fin 16) : Prop :=
  g.state = .active ∧ g.channels.getLsbD c.val = true ∧ g.classes &&& bitReprogram ≠ 0 ∧ g.binding = .none

/-- The judgement of a complete block of counter `k` and `n` data bytes that passes (R119): a new block, or a repeat. -/
abbrev blockPasses (r : WindowRun) (k n : Nat) (b : HandBlock) : Prop :=
  (k = r.expected ∧ 1 ≤ n ∧ n ≤ r.bmax ∧ n ≤ r.remaining ∧
    b = { start := r.next, count := n, counter := k, again := false }) ∨
  (k ≠ r.expected ∧ 1 ≤ n ∧ ∃ d, r.last = some d ∧ k = d.counter ∧ n = d.count ∧
    b = { start := d.start, count := n, counter := k, again := true })

/-- The data of the first frame of a message of the gateway's own: a unit, or a lead with its count (R39). -/
abbrev firstData (msg : List Byte) : List Byte :=
  if msg.length ≤ 7 then byte 0 :: msg else byte (64 + (msg.length - 1) / 7) :: msg.take 7

/-- What a window keeps when its linked exchange has closed and the window goes on (R118, R127). -/
abbrev unlinkedWindow (v : Window) : Window := { v with inHand := none, buffer := none, hold := none, idle := some 30000 }

/-- A pace frame's data: control byte, pace code and gap, well formed (R37, R38). -/
abbrev paceFrame (f : Frame) (ctl code gap : Byte) : Prop :=
  (∃ more, f.data = ctl :: code :: gap :: more) ∧ 192 ≤ ctl.toNat ∧ code.toNat ≤ 2 ∧ gap.toNat ≤ 127

/-- The oldest frame on port W completes the Block message `code, k, bytes` of window `w` of channel `c`, which is ACTIVE
or SUSPENDED (R118): as a unit on a channel without an exchange, or as the last follow of a message being gathered. -/
structure BlockCompletes (s : State) (c : Fin 16) (f : Frame) (rest : List Frame) (w : Fin 2) (v : Window)
    (r : WindowRun) (code k : Byte) (bytes : List Byte) : Prop where
  tool    : ToolSide s c f rest
  law     : exchangeLaw s
  replies : hasRoom s .W
  target  : hasRoom s (netPort (s.channel c).port)
  window  : windowOn s c = some (w, v)
  state   : v.state = .active ∨ v.state = .suspended
  run     : v.run = some r
  arrives :
    (f.data = byte 0 :: code :: k :: bytes ∧ channelExchange s c = none ∧ linkedExchange s w = none ∧
      classOf s code = some { cls := .reprogram, role := some .block }) ∨
    (∃ x b tail, channelExchange s c = some x ∧ linkedExchange s w = some x ∧ x.window = some w ∧ x.state = .staging ∧
      x.role = some .block ∧ x.code = code ∧ x.seg.phase = .followsDue ∧ x.seg.next = x.seg.count ∧
      x.seg.count ≤ 63 ∧ v.buffer = some b ∧ f.data = byte (128 + x.seg.count) :: tail ∧ 1 ≤ tail.length ∧
      tail.length ≤ 7 ∧ s.inspector.buffers.get b ++ tail = code :: k :: bytes)

/-! ### The entries of the tables within their ranges -/

/-- Port Settings (R133, R138). -/
abbrev portSettingsValid (e : PortSettings) : Prop :=
  1 ≤ e.shareE ∧ e.shareE ≤ 80 ∧ 160 ≤ e.depthE ∧ e.depthE ≤ 10000 ∧ 1 ≤ e.shareC ∧ e.shareC ≤ 80 ∧
    160 ≤ e.depthC ∧ e.depthC ≤ 10000

/-- A Channel Table entry (R18). -/
abbrev channelValid (e : ChannelEntry) : Prop :=
  25 ≤ e.replyTimeout ∧ e.replyTimeout ≤ 2500 ∧ 1 ≤ e.extTimeout ∧ e.extTimeout ≤ 60 ∧ 1 ≤ e.maxAllowance ∧
    e.maxAllowance ≤ 63 ∧ e.minGap ≤ 127 ∧ ¬(e.live = true ∧ e.ids.request = e.ids.response)

/-- A Service Class Map entry (R73). -/
abbrev codeValid (e : CodeEntry) : Prop := e.cls = .reprogram ↔ e.role.isSome = true

/-- A Class Policy entry (R75). -/
abbrev policyValid (i : Fin 5) (e : PolicyEntry) : Prop := i = 4 → e.grantNeeded = true

/-- A Signal Table entry (R81). -/
abbrev signalValid (e : SignalEntry) : Prop :=
  e.offset ≤ 7 ∧ ¬(e.wide = true ∧ e.offset = 7) ∧ 100 ≤ e.stale ∧ e.stale ≤ 2000 ∧
    e.first ≤ (if e.wide then 65535 else 255) ∧ e.second ≤ (if e.wide then 65535 else 255) ∧
    ¬(e.test = .within ∧ e.second < e.first)

/-- A Mirror List position (R28). -/
abbrev mirrorValid (e : MirrorEntry) : Prop := e.interval ≤ 1000

/-- A region (R108): its numbers fit their fields, and a live one obeys the rule. -/
abbrev regionValid (r : Region) : Prop :=
  r.start < 2 ^ 32 ∧ r.length < 2 ^ 32 ∧
    (r.live = true → r.start % 256 = 0 ∧ r.length % 256 = 0 ∧ 256 ≤ r.length ∧ r.start + r.length ≤ 2 ^ 32)

/-- A Region Protection Map (R108): its numbers fit their fields, and a present descriptor obeys the rule. -/
abbrev mapValid (m : RegionMap) : Prop :=
  m.base < 2 ^ 32 ∧ m.exponent < 256 ∧ m.level ≤ 8 ∧
    (m.present = true → m.base % 4096 = 0 ∧ 12 ≤ m.exponent ∧ m.exponent ≤ 28 ∧ m.base + 2 ^ m.exponent ≤ 2 ^ 32) ∧
    ∀ i, regionValid (m.regions.get i)

/-- An entry of a table within the ranges of its table's rule. -/
def entryValid : TableEntry → Prop
  | .portSettings e => portSettingsValid e
  | .channel _ e => channelValid e
  | .code _ e => codeValid e
  | .policy i e => policyValid i e
  | .signal _ e => signalValid e
  | .mirror _ e => mirrorValid e
  | .map _ e => mapValid e

/-- Every working entry is within its rule's ranges, and so is every map laid over a working map and every entry waiting
to be stored (R159). -/
abbrev tablesLaw (s : State) : Prop :=
  portSettingsValid s.tables.ports ∧ (∀ i, channelValid (s.tables.channels.get i)) ∧
    (∀ i, codeValid (s.tables.codes.get i)) ∧ (∀ i, policyValid i (s.tables.policies.get i)) ∧
    (∀ i, signalValid (s.tables.signals.get i)) ∧ (∀ i, mirrorValid (s.tables.mirrors.get i)) ∧
    (∀ i, mapValid (s.tables.maps.get i)) ∧ (∀ c, ∀ m ∈ s.inspector.overlays.get c, mapValid m) ∧
    (∀ r ∈ s.store.queue, match r with
      | .tableEntry e _ _ => entryValid e
      | _ => True)

/-! ### What the starts leave -/

/-- A port as a start leaves it, but for its counters (R16). -/
abbrev startedPort (x : PortState) (r : Rate) (c : Counters) : Prop :=
  x = { status := .active, rate := r, fault := 0, rx := [], out := [], counters := c, recovery := none }

/-- What a cold start and a hot start leave alike (R16, R35, R71, R86, R107, R131, R140, R153, R163). -/
structure Started (lines : Levels) (t : State) : Prop where
  part       : t.part.awake = true ∧ t.part.quiet = 5000
  lineStates : t.lines = { ignon := lines.ignon, stlock := lines.stlock, tooldet := lines.tooldet,
                           raw := lines.tooldet, debounce := 0, tooldetChanged := false, ignonChanged := false }
  mirrors    : ∀ i, t.mirror.get i = .quiet
  signals    : ∀ i, t.signals.get i = { raw := none, available := true, fresh := false, timer := none }
  exchanges  : t.exchanges = []
  grants     : t.grants.challenge = none ∧ t.grants.digest = none ∧ t.grants.grants = [] ∧ t.grants.lamp = .dark
  windows    : ∀ w, t.window w = none
  overlays   : ∀ c, t.inspector.overlays.get c = none
  credit     : t.meter.creditE = t.tables.ports.depthE * 100 ∧ t.meter.creditC = t.tables.ports.depthC * 100
  agent      : t.agent.sideW = .absent ∧ t.agent.sideC = .absent ∧ t.agent.restart = .idle

/-- What a hot start keeps (R16, R97, R107, R131, R151, R157, R167). -/
structure HotStarted (lines : Levels) (s t : State) : Prop where
  started   : Started lines t
  pending   : t.pending = s.pending
  ports     : ∀ p, startedPort (t.port p) (settingsRate s.tables.ports p) (s.port p).counters
  tables    : t.tables.ports = s.tables.ports ∧ t.tables.channels = s.tables.channels ∧
    t.tables.codes = s.tables.codes ∧ t.tables.policies = s.tables.policies ∧ t.tables.signals = s.tables.signals ∧
    t.tables.mirrors = s.tables.mirrors
  maps      : ∀ c, t.tables.maps.get c = (s.inspector.overlays.get c).getD (s.tables.maps.get c)
  kept      : t.grants.slots = s.grants.slots ∧ t.grants.failures = s.grants.failures ∧
    t.grants.lockout = s.grants.lockout ∧ t.grants.lastChallenge = s.grants.lastChallenge
  record    : t.record = s.record
  attention : t.agent.attention = s.agent.attention
  store     : t.store = s.store

end Sys2Proof.Safety
end

