-- ==== Sys2Proof/Certificates/Slice0/Obligations.lean ====
section
/-! DEFINITION. The statements for the provers. Each formalises what rules of the manual say a command does; a
docstring names the clauses. Where a statement rests on a choice of the model's, its docstring names the log entry. -/

open Sys2Proof Sys2Proof.Machine Sys2Proof.Safety

/-! ### The machine as a whole -/

/-- A step takes the command at the front of the queue and runs it on the state with the queue's rest. The queue is the
model's own (logs 3 and 5); the manual's steps are whole and indivisible (95_what_each_step_holds). -/
def Obligations.StepRunsFrontCommand : Prop :=
  ∀ (c : Instr) (rest : List Instr) (s : State),
    s.pending = c :: rest → step s = exec c { s with pending := rest }

/-- Every command answers a next state, and leaves the commands that wait behind it in their places: no command faults,
none is refused, and none is lost or added. That a command which finds nothing to act on changes nothing is the model's
reading (logs 3 and 11). -/
def Obligations.CommandsAnswerAndKeepTheQueue : Prop :=
  ∀ (c : Instr) (s : State), ∃ t, exec c s = .next t ∧ t.pending = s.pending

/-- While the part is ASLEEP it takes and sends no frame, samples no line and keeps every table, collection and timer:
every command but a start, the wake and the second of part time changes nothing (R14). -/
def Obligations.AsleepPartKeepsEverything : Prop :=
  ∀ (c : Instr) (s : State), s.part.awake = false → actsAsleep c = false → exec c s = .next s

/-- The laws hold of the machine right after reset, whose store is the model's choice of a new part (log 1). -/
def Obligations.LawsAtReset : Prop :=
  creditLaw .reset ∧ roomLaw .reset ∧ portsLaw .reset ∧ lockoutLaw .reset ∧ grantTableLaw .reset ∧
    exchangeLaw .reset ∧ windowLaw .reset ∧ tablesLaw .reset ∧ proofLaw .reset ∧ downloadLaw .reset ∧
    identifiersLaw .reset ∧ barLaw .reset ∧ lampLaw .reset

/-- Law of R133: the credit of each metered port stays between 0 and its ceiling. -/
def Obligations.EveryStepKeepsTheCreditLaw : Prop :=
  ∀ s t : State, creditLaw s → step s = .next t → creditLaw t

/-- Law of R141: kept, settling and reservations together never exceed 128, and the kept entries are the stored entries
that pass their check words (R151). What becomes of a stored entry that fails is log 15. -/
def Obligations.EveryStepKeepsTheRecordRoomLaw : Prop :=
  ∀ s t : State, roomLaw s → step s = .next t → roomLaw t

/-- FIFOs and queues of at most 32 frames, saturating counters, the head alone released, and withdrawal from a fault
score of 128 on (R2, R4, R7, R8, R9, R10, R135). -/
def Obligations.EveryStepKeepsThePortLaw : Prop :=
  ∀ s t : State, portsLaw s → step s = .next t → portsLaw t

/-- Law of R97: the failure count is 0 to 3, and a lockout runs exactly when it is 3. The second law of R98: no grant
becomes ACTIVE while a lockout runs, which rests on there being one proof at a time and none during a lockout. -/
def Obligations.EveryStepKeepsTheLockoutLaw : Prop :=
  (∀ s t : State, lockoutLaw s → step s = .next t → lockoutLaw t) ∧
  (∀ s t : State, proofLaw s → step s = .next t → proofLaw t ∧
    (s.grants.lockout ≠ none → ∀ g ∈ t.grants.grants, g.state = .active →
      ∃ h ∈ s.grants.grants, h.number = g.number ∧ h.state = .active))

/-- Law of R98: the Grant Table never holds more than 8 grants; their numbers are distinct and their fields in range. Law
of R96: a grant is ACTIVE or HELD only if it was so before the step, or the step is the passing completion of its own
GRANT_OPENED append, which leaves the entry kept. Law of R104: a grant is BOUND at most once: it becomes BOUND to a window
from PENDING on that window, leaves BOUND for ENDED alone, and stays ENDED. -/
def Obligations.EveryStepKeepsTheGrantTableLaw : Prop :=
  ∀ s t : State, grantTableLaw s → step s = .next t → grantTableLaw t ∧
    (∀ g ∈ t.grants.grants, granting g →
      (∃ h ∈ s.grants.grants, h.number = g.number ∧ granting h) ∨
      ∃ e rest a b d, s.pending.head? = some (.appendComplete true) ∧ s.store.queue = .append e :: rest ∧
        e.detail = .grantOpened a b d ∧ e.grant = some g.number ∧ e ∈ t.record.kept) ∧
    (∀ g ∈ t.grants.grants, ∀ w, g.binding = .bound w →
      ∃ h ∈ s.grants.grants, h.number = g.number ∧ (h.binding = .pending w ∨ h.binding = .bound w)) ∧
    (∀ g ∈ t.grants.grants, ∀ h ∈ s.grants.grants, h.number = g.number →
      (∀ w, h.binding = .bound w → g.binding = .bound w ∨ g.binding = .ended) ∧
        (h.binding = .ended → g.binding = .ended))

/-- R55: the Pending Exchange List holds at most one exchange per channel and one per management channel. The numbers
of the exchanges are the model's own (log 2). -/
def Obligations.EveryStepKeepsTheExchangeListLaw : Prop :=
  ∀ s t : State, exchangeLaw s → step s = .next t → exchangeLaw t

/-- Law of R112: at most two windows are open at once, on different channels; each holds at most 2 reservations. The other
law of R112: in every open window that holds a next address, A ≤ next and next + remaining = A + L; it rests on what a
window and its linked exchange keep to (R113 to R123). -/
def Obligations.EveryStepKeepsTheWindowLaw : Prop :=
  (∀ s t : State, windowLaw s → step s = .next t → windowLaw t) ∧
  (∀ s t : State, exchangeLaw s → windowLaw s → downloadLaw s → step s = .next t → downloadLaw t)

/-- Every working table entry stays within the ranges of its table's rule (R18, R28, R73, R75, R81, R108, R133, R138),
with the maps laid over working maps (R111) and the entries waiting to be stored (R160). Law of R19: no two live channels
share a request identifier, or a response identifier on one port, and no live channel's identifier is a management
identifier of its ports. -/
def Obligations.EveryStepKeepsTheTablesInRange : Prop :=
  (∀ s t : State, tablesLaw s → step s = .next t → tablesLaw t) ∧
  (∀ s t : State, tablesLaw s → identifiersLaw s → step s = .next t → identifiersLaw t)

/-- Every table entry within its rule's ranges is read back from its image, with every field at every value, and the
image has the table's length (R168, R171). The Signal Table's width byte is a choice (log 10), and the port byte
of a signal and of a mirror position is read from the rules (log 41); that a region's mark reads 1 where it is set is a
choice (log 58). -/
def Obligations.TableEntryImagesReadBack : Prop :=
  ∀ e : TableEntry, entryValid e →
    (encodeEntry e).length = imageLength (tableOf e) ∧
    readEntry (tableOf e) (entryNumber (tableOf e) (entryPlace e)) (encodeEntry e) = some e

/-! ### The starts -/

/-- COLD_START: the state of each block after a cold start (R16, R35, R71, R86, R90, R97, R107, R131, R140, R146, R149,
R153, R157, R163). What is loaded is what passes its check word: the kept entries, the mark (the number of the newest kept
entry, or 0, where it fails), the failure count (3 where it fails) and the slots (R87, R97, R151, R164, R167). The
attention set is clear but for what loading raises: STORE_FAIL for an entry that fails its check, FALLBACK for a table, a
slot or a failure count that does. What a slot's, the count's, the mark's and an entry's image hold is log 26. -/
def Obligations.ColdStartLeavesTheColdStartState : Prop :=
  ∀ (lines : Levels) (s : State), ∃ t, exec (.coldStart lines) s = .next t ∧ Started lines t ∧
    t.pending = s.pending ∧
    (∀ p, startedPort (t.port p) (settingsRate t.tables.ports p) Counters.zero) ∧
    t.grants.lastChallenge = none ∧ t.record.unrecorded = 0 ∧ t.record.partTime = 0 ∧ t.store.queue = [] ∧
    t.grants.lockout = (if t.grants.failures = 3 then some 600000 else none) ∧
    (t.agent.attention.lockoutBegan = false ∧ t.agent.attention.withdrawnW = false ∧
      t.agent.attention.withdrawnE = false ∧ t.agent.attention.withdrawnC = false ∧
      t.agent.attention.downloadEnded = false) ∧
    (s.store.queue = [] → t.record.kept = passing s.store.entries ∧
      (∀ n, n = s.store.failures → t.grants.failures = (if n.check = checkWord [beBytes 1 n.value] then n.value else 3)) ∧
      (∀ n, n = s.store.mark → t.record.mark =
        (if n.check = checkWord [beBytes 4 n.value] then n.value
          else (t.record.kept.getLast?.map (·.number)).getD 0)) ∧
      (∀ i k, k = s.store.slots.get i → t.grants.slots.get i =
        (if k.check = checkWord [slotStateByte k.slot.state :: beBytes 16 k.slot.key.toNat] then k.slot
          else { k.slot with state := .withdrawn })) ∧
      (t.agent.attention.storeFail = true ↔ ∃ y ∈ s.store.entries, y.check ≠ checkWord [entryBytes y.entry]) ∧
      (t.agent.attention.fallback = true ↔
        (∃ k, (storedImage s k).check ≠ checkWord (storedImage s k).entries) ∨
        (∃ i k, k = s.store.slots.get i ∧
          k.check ≠ checkWord [slotStateByte k.slot.state :: beBytes 16 k.slot.key.toNat]) ∨
        s.store.failures.check ≠ checkWord [beBytes 1 s.store.failures.value]))

/-- COLD_START with no operation in progress loads each working table: an image that passes its check word gives its
entries and clears the fallback flag, one that fails gives fallback content, sets the flag and raises FALLBACK
(R167). The Channel Table is then made to agree with the Port Settings as loaded (R22): an entry whose request or response
identifier is one of the W pair, or on port C one of the C pair (R19), is not live, its other fields kept, and every
other entry is as it was read. The stored images stay as they were. -/
def Obligations.ColdStartLoadsTheStoredTables : Prop :=
  ∀ (lines : Levels) (s : State) (k : TableId), s.store.queue = [] →
    ∃ t, exec (.coldStart lines) s = .next t ∧
      ((storedImage s k).check = checkWord (storedImage s k).entries →
        t.store.fallback.get (tableFin k) = false ∧
        (k ≠ .channelTable → ∀ i e, i < tableSize k →
          readEntry k (entryNumber k i) ((storedImage s k).entries.getD i []) = some e → t.tables.entry k i = e) ∧
        (k = .channelTable → ∀ (i : Fin 16) e, readEntry k (entryNumber k i) ((storedImage s k).entries.getD i []) =
          some (.channel i e) → ∀ own : Prop,
          (own ↔ (∃ j, (j = e.ids.request ∨ j = e.ids.response) ∧ (¬outside t.tables.ports.wPair j ∨
            e.port = .C ∧ ¬outside t.tables.ports.cPair j))) →
          (own → t.channel i = { e with live := false }) ∧ (¬own → t.channel i = e))) ∧
      ((storedImage s k).check ≠ checkWord (storedImage s k).entries →
        t.store.fallback.get (tableFin k) = true ∧ t.agent.attention.fallback = true ∧
        ∀ i, i < tableSize k → t.tables.entry k i = Tables.fallback.entry k i) ∧
      t.store.images = s.store.images

/-- COLD_START in the middle of a store operation: a table-entry write leaves its table at fallback content, a
credential slot is loaded WITHDRAWN, a failure count is taken as 3, and the requests that waited are lost (R166). An
append leaves an entry that fails its check, which is not kept and raises STORE_FAIL (R151); a trim removes all of its
entries or none (R150). What the cut-short image holds is free (log 17). -/
def Obligations.ColdStartCutsShortTheOperation : Prop :=
  ∀ (lines : Levels) (s : State) (r : StoreRequest) (rest : List StoreRequest), s.store.queue = r :: rest →
    ∃ t, exec (.coldStart lines) s = .next t ∧ t.store.queue = [] ∧
      (∀ e c q, r = .tableEntry e c q → t.store.fallback.get (tableFin (tableOf e)) = true ∧
        t.agent.attention.fallback = true ∧
        ∀ i, i < tableSize (tableOf e) → t.tables.entry (tableOf e) i = Tables.fallback.entry (tableOf e) i) ∧
      (∀ i key c q, r = .credentialWrite i key c q → (t.grants.slots.get i).state = .withdrawn) ∧
      (∀ i c q, r = .credentialWithdraw i c q → (t.grants.slots.get i).state = .withdrawn) ∧
      (∀ n, r = .failureCount n → t.grants.failures = 3 ∧ t.grants.lockout = some 600000) ∧
      (∀ p c q, r = .lockPolicy p c q → t.tables.ports = PortSettings.fallback) ∧
      (∀ e, r = .append e → t.record.kept = passing s.store.entries ∧ t.agent.attention.storeFail = true) ∧
      (∀ n q, r = .trim n q → t.record.kept = passing s.store.entries ∨
        t.record.kept = (passing s.store.entries).drop n)

/-- HOT_START of a Restart whose reply has been sent, discarded or flushed, with the store idle, and WAKE of an ASLEEP
part whatever the cause, leave the hot-start state of each block (R15, R16, R35, R71, R86, R97, R107, R131, R140, R151, R157, R163, R167).
HOT_START at any other moment changes nothing (log 18), and so does a cause that comes second, which finds the part AWAKE
(R15). -/
def Obligations.HotStartAndWakeLeaveTheHotStartState : Prop :=
  ∀ (lines : Levels) (cause : WakeCause) (s : State),
    (s.agent.restart = .due → s.store.queue = [] →
      ∃ t, exec (.hotStart lines) s = .next t ∧ HotStarted lines s t) ∧
    (s.agent.restart ≠ .due ∨ s.store.queue ≠ [] → exec (.hotStart lines) s = .next s) ∧
    (s.part.awake = false → ∃ t, exec (.wake cause lines) s = .next t ∧ HotStarted lines s t) ∧
    (s.part.awake = true → exec (.wake cause lines) s = .next s)

/-! ### Bus Ports -/

/-- FRAME_RECEIVED (R1, R2, R10, R14): a frame taken by an ACTIVE port counts as received and presets the quiet timer;
a remote frame is dropped and counted unroutable, any other joins a FIFO with room, with at most 8 data bytes, or is
counted as an overrun. A WITHDRAWN port takes none, and a frame at one changes nothing, the quiet timer included (logs 8
and 11). -/
def Obligations.ReceivedFrameIsKeptOrCounted : Prop :=
  ∀ (p : Port) (f : BusFrame) (s : State), s.part.awake = true → ∀ x q, x = s.port p →
    q = { s with part := { s.part with quiet := 5000 } } →
    (x.status = .withdrawn → exec (.frameReceived p f) s = .next s) ∧
    (x.status = .active →
      (f.remote = true → exec (.frameReceived p f) s = .next (q.setPort p { x with
        counters := { x.counters with received := min 65535 (x.counters.received + 1),
                                      unroutable := min 65535 (x.counters.unroutable + 1) } })) ∧
      (f.remote = false → x.rx.length < 32 → exec (.frameReceived p f) s = .next (q.setPort p { x with
        rx := x.rx ++ [frameOf f.id (f.data.take 8)],
        counters := { x.counters with received := min 65535 (x.counters.received + 1) } })) ∧
      (f.remote = false → 32 ≤ x.rx.length → exec (.frameReceived p f) s = .next (q.setPort p { x with
        counters := { x.counters with received := min 65535 (x.counters.received + 1),
                                      overrun := min 65535 (x.counters.overrun + 1) } })))

/-- The three outcomes of a transmission attempt (R7, R14, R48, R53, R56, R61, R121, R135, R152, R153). FRAME_SENT: the
eligible head leaves the queue, the fault score falls by one, the frame is counted, and the new head is tested for its
release, as HEAD_FRAME_RELEASE tests it. A mirror frame, a gateway reply, a refusal outside any exchange, and a frame that
only passes part of a message on have no further effect. A frame that gives the turn away presets its message's segment
timer to 1000 ms, for a channel's exchange, a management exchange and a side answer alike, unless a later frame of the
message has given the turn away; a follow sent under a gap starts the gap. The last frame of a request starts its
exchange's reply timer; the last frame of a re-sent block releases the staging buffer and the exchange is AWAITING with
its reply timer running; the last frame of a management reply closes its exchange, and of a side answer makes it absent.
A frame whose exchange or side answer is gone has no effect beyond the port (log 14). A Restart's own reply is seen in
the statement on RESTART. TRANSMISSION_LOST leaves the frame, the score and the counters. TRANSMISSION_FAILED with a score
that stays below 128 raises the score by 8. A frame sent or lost presets the quiet timer; that a failed one does not is
log 8. -/
def Obligations.TransmissionAttemptEndsInOneOfThreeWays : Prop :=
  ∀ (p : Port) (f : OutFrame) (rest : List OutFrame) (s : State), s.part.awake = true →
    (s.port p).status = .active → (s.port p).out = f :: rest → (p = .W ∨ f.released = true) →
    exec (.transmissionLost p) s = .next { s with part := { s.part with quiet := 5000 } } ∧
    ((s.port p).fault + 8 < 128 →
      exec (.transmissionFailed p) s = .next (s.setPort p { s.port p with fault := (s.port p).fault + 8 })) ∧
    (∀ x u q, x = s.port p →
      u = ({ s with part := { s.part with quiet := 5000 } } : State).setPort p { x with
        out := rest, fault := x.fault - 1,
        counters := { x.counters with transmitted := min 65535 (x.counters.transmitted + 1) } } →
      (p = .W → q = u) → (∀ n, p = netPort n → exec (.headFrameRelease n) u = .next q) →
      (f.origin = .mirror ∨ (∃ c, f.origin = .reply c) ∨ (∃ m, f.origin = .management m .loose) →
        exec (.frameSent p) s = .next q) ∧
      (∀ c, f.origin = .exchange c ∨ f.origin = .pace c →
        (ownedExchange s f.owner = none ∨ f.mark = .plain → exec (.frameSent p) s = .next q) ∧
        (∀ e, ownedExchange s f.owner = some e →
          (∀ n, f.mark = .turn n → e.seg.phase ≠ .none →
            (e.seg.turn = n → exec (.frameSent p) s = .next
              (setChannelExchange { e with seg := { e.seg with timer := some 1000 } } q)) ∧
            (e.seg.turn ≠ n → exec (.frameSent p) s = .next q)) ∧
          (f.mark = .spaced → e.seg.phase = .followsDue → exec (.frameSent p) s = .next
            (setChannelExchange { e with gapTimer := some e.seg.gap } q)) ∧
          (f.mark = .lastRequest → e.state = .awaiting → e.timer = .pendingSend → exec (.frameSent p) s = .next
            (setChannelExchange { e with timer := .running (s.channel e.channel).replyTimeout } q)) ∧
          (∀ w v, f.mark = .last → e.state = .outbound → e.window = some w → s.window w = some v →
            exec (.frameSent p) s = .next (setChannelExchange
              { e with state := .awaiting, seg := e.seg.reset, gapTimer := none, extended := false,
                       timer := .running (s.channel e.channel).replyTimeout }
              (setWindow w (some { v with buffer := none }) q))))) ∧
      (∀ m, f.origin = .management m .exchange → s.agent.restart ≠ .answered f.owner →
        (mgmtOwned s f.owner = none ∨ f.mark = .plain → exec (.frameSent p) s = .next q) ∧
        (∀ e, mgmtOwned s f.owner = some e →
          (∀ n, f.mark = .turn n → e.seg.phase ≠ .none →
            (e.seg.turn = n → exec (.frameSent p) s = .next
              (setMgmtExchange { e with seg := { e.seg with timer := some 1000 } } q)) ∧
            (e.seg.turn ≠ n → exec (.frameSent p) s = .next q)) ∧
          (f.mark = .spaced → e.seg.phase = .followsDue → exec (.frameSent p) s = .next
            (setMgmtExchange { e with gapTimer := some e.seg.gap } q)) ∧
          (f.mark = .last → e.state = .answering → exec (.frameSent p) s = .next
            { q with exchanges := s.exchanges.eraseP (isMgmt e.id) }))) ∧
      (∀ m, f.origin = .management m .side →
        ((∀ seg msg gap, sideOf s m ≠ .sending f.owner seg msg gap) ∨ f.mark = .plain →
          exec (.frameSent p) s = .next q) ∧
        (∀ seg msg gap, sideOf s m = .sending f.owner seg msg gap →
          (∀ n, f.mark = .turn n → seg.phase ≠ .none →
            (seg.turn = n → exec (.frameSent p) s = .next
              (setSide m (.sending f.owner { seg with timer := some 1000 } msg gap) q)) ∧
            (seg.turn ≠ n → exec (.frameSent p) s = .next q)) ∧
          (f.mark = .spaced → seg.phase = .followsDue → exec (.frameSent p) s = .next
            (setSide m (.sending f.owner seg msg (some seg.gap)) q)) ∧
          (f.mark = .last → exec (.frameSent p) s = .next (setSide m .absent q)))))

/-- TRANSMISSION_FAILED bringing the score to 128 withdraws the port (R7, R8): the queue is flushed and counted, the
withdrawals counter rises, the recovery timer is 100 ms, the attention condition of the port is raised, and the FIFO
keeps its frames. After a withdrawal of E or C no exchange of a channel of that port is pending (R67), and no window of one
is open (R129). An exchange, a management exchange or a side answer one of whose frames the flush removed is gone, and so
is the window such an exchange was linked to (R8, R122, R123, R129). -/
def Obligations.FailedAttemptWithdrawsThePort : Prop :=
  ∀ (p : Port) (f : OutFrame) (rest : List OutFrame) (s : State), s.part.awake = true → exchangeLaw s →
    (s.port p).status = .active → (s.port p).out = f :: rest → (p = .W ∨ f.released = true) →
    128 ≤ (s.port p).fault + 8 →
    ∃ t, exec (.transmissionFailed p) s = .next t ∧ (t.port p).status = .withdrawn ∧ (t.port p).out = [] ∧
      (t.port p).rx = (s.port p).rx ∧ (t.port p).recovery = some 100 ∧ (t.port p).rate = (s.port p).rate ∧
      (t.port p).counters.withdrawals = min 65535 ((s.port p).counters.withdrawals + 1) ∧
      (t.port p).counters.received = (s.port p).counters.received ∧
      (t.port p).counters.transmitted = (s.port p).counters.transmitted ∧
      (t.port p).counters.discarded = min 65535 ((s.port p).counters.discarded + (rest.length + 1)) ∧
      (p = .W → t.agent.attention.withdrawnW = true) ∧ (p = .E → t.agent.attention.withdrawnE = true) ∧
      (p = .C → t.agent.attention.withdrawnC = true) ∧
      (∀ y, Exchange.channel y ∈ t.exchanges → netPort (s.channel y.channel).port ≠ p) ∧
      (∀ w v, t.window w = some v → netPort (s.channel v.channel).port ≠ p) ∧
      (∀ o ∈ (s.port p).out,
        (∀ c, o.origin = .exchange c ∨ o.origin = .pace c →
          (∀ y, Exchange.channel y ∈ t.exchanges → y.id ≠ o.owner) ∧
          ∀ y w, ownedExchange s o.owner = some y → y.window = some w → t.window w = none) ∧
        (∀ m, o.origin = .management m .exchange → ∀ y, Exchange.management y ∈ t.exchanges → y.id ≠ o.owner) ∧
        (∀ m id seg msg gap, o.origin = .management m .side → sideOf s m = .sending id seg msg gap → id = o.owner →
          sideOf t m = .absent)) ∧
      t.tables.channels = s.tables.channels ∧ t.lines = s.lines ∧ t.signals = s.signals ∧ t.mirror = s.mirror

/-- PORT_RECOVERY of a WITHDRAWN port (R9, R139): ACTIVE, fault score 0, queue empty, and on E and C the credit at its
ceiling; port W has no credit. It acts whatever the recovery timer still holds (log 4). BIT_RATE_CHANGE_EFFECT (R3): the
port runs at the rate of the working Port Settings and keeps the rest; that the row acts at any moment is log 12. -/
def Obligations.RecoveredPortIsActiveAndRateTakesEffect : Prop :=
  ∀ (p : Port) (s : State), s.part.awake = true → ∀ x, x = s.port p →
    ((s.port p).status = .withdrawn → ∀ q, q = s.setPort p { x with
        status := .active, fault := 0, out := [], recovery := none } →
      (p = .W → exec (.portRecovery p) s = .next q) ∧
      (p = .E → exec (.portRecovery p) s = .next
        { q with meter := { s.meter with creditE := s.tables.ports.depthE * 100 } }) ∧
      (p = .C → exec (.portRecovery p) s = .next
        { q with meter := { s.meter with creditC := s.tables.ports.depthC * 100 } })) ∧
    exec (.bitRateChangeEffect p) s = .next (s.setPort p { x with rate := match p with
      | .W => s.tables.ports.rateW
      | .E => s.tables.ports.rateE
      | .C => s.tables.ports.rateC })

/-- IGNON_CHANGE, STLOCK_CHANGE, TOOLDET_RAW_CHANGE and TOOLDET_DEBOUNCE_COMPLETE (R11, R12, R29). A sample is taken; a
change of IGNON sets its flag and is the change of condition IGN, seen here with no window open; STLOCK has no flag. A
TOOLDET sample equal to the debounced state clears the count, a differing one raises it; at 200 the debounced state takes
the level, the count is 0 and the flag is set; when it becomes asserted every mirror position is QUIET. One
TOOLDET_RAW_CHANGE is one tick's sample (log 27), and the row of the debounce's completion acts whatever the count
(log 4). -/
def Obligations.LinesAreSampledAndDebounced : Prop :=
  ∀ (level : Bool) (s : State), s.part.awake = true →
    exec (.stlockChange level) s = .next { s with lines := { s.lines with stlock := level } } ∧
    (s.lines.ignon = level → exec (.ignonChange level) s = .next s) ∧
    (s.lines.ignon ≠ level → (∀ w, s.window w = none) → exec (.ignonChange level) s =
      .next { s with lines := { s.lines with ignon := level, ignonChanged := true } }) ∧
    (level = s.lines.tooldet → exec (.tooldetRawChange level) s =
      .next { s with lines := { s.lines with raw := level, debounce := 0 } }) ∧
    (level ≠ s.lines.tooldet → s.lines.debounce + 1 < 200 → exec (.tooldetRawChange level) s =
      .next { s with lines := { s.lines with raw := level, debounce := s.lines.debounce + 1 } }) ∧
    (s.lines.tooldet = false → ∀ q, q = { s with
        lines := { s.lines with raw := true, tooldet := true, debounce := 0, tooldetChanged := true },
        mirror := Vector.replicate 32 .quiet } →
      (200 ≤ s.lines.debounce + 1 → exec (.tooldetRawChange true) s = .next q) ∧
      (s.lines.raw = true → exec .tooldetDebounceComplete s = .next q)) ∧
    (s.lines.raw = s.lines.tooldet → exec .tooldetDebounceComplete s = .next s)

/-- Presence loss (R12, R29, R103): when the debounced TOOLDET becomes deasserted the challenge is discarded, a CHECKING
grant is gone and a digest result is to be discarded, no ACTIVE or HELD grant is left, a RECORDING one has a close
cause, the holds are cleared, and no failure is counted. The window a grant was bound to has ended (R99, R128). With no
window open each ACTIVE or HELD grant enters GRANT_CLOSED, cause PRESENCE, into its reservation, in table order; a bound
one enters its window's DOWNLOAD_ENDED, outcome ABORTED, cause PRESENCE, before it. One TOOLDET_RAW_CHANGE is one tick's
sample (log 27), and the row of the debounce's completion acts whatever the count (log 4). -/
def Obligations.PresenceLossEndsEveryGrant : Prop :=
  ∀ s : State, s.part.awake = true → s.lines.tooldet = true → grantNumbersDistinct s →
    ∀ c, (c = .tooldetRawChange false ∧ 200 ≤ s.lines.debounce + 1 ∨
        c = .tooldetDebounceComplete ∧ s.lines.raw = false) →
    ∃ t, exec c s = .next t ∧ t.lines.tooldet = false ∧ t.lines.debounce = 0 ∧ t.lines.tooldetChanged = true ∧
      t.grants.challenge = none ∧
      (∀ g ∈ t.grants.grants, g.state = .recording ∧ g.cause.isSome = true ∧
        ∃ h ∈ s.grants.grants, h.number = g.number ∧ h.state = .recording) ∧
      ((∃ g ∈ s.grants.grants, g.state = .checking) → ∀ d, t.grants.digest = some d → d.discarded = true) ∧
      t.grants.failures = s.grants.failures ∧ t.grants.lockout = s.grants.lockout ∧ t.grants.slots = s.grants.slots ∧
      (∀ i, t.mirror.get i = .quiet) ∧ t.lines.ignon = s.lines.ignon ∧ t.lines.stlock = s.lines.stlock ∧
      t.signals = s.signals ∧ t.record.kept = s.record.kept ∧
      (∀ g ∈ s.grants.grants, granting g → ∀ w, g.binding = .pending w ∨ g.binding = .bound w → t.window w = none) ∧
      (¬windowOpen s → (∀ g ∈ s.grants.grants, granting g → g.reservation = true) →
        s.store.queue.length + s.grants.grants.length ≤ 16 → ∃ l : List Entry,
          t.store.queue = s.store.queue ++ l.map .append ∧
          l.map (fun e => (e.detail, e.grant, e.slot)) =
            (s.grants.grants.filter (fun g => decide (granting g))).map
              (fun g => (Detail.grantClosed .presence, some g.number, some g.slot))) ∧
      (∀ g w v r a l, s.grants.grants = [g] → granting g → g.binding = .bound w → g.reservation = true →
        s.window w = some v → v.run = some r → v.range = some (a, l) → 1 ≤ v.reservations → linkedExchange s w = none →
        s.store.queue.length + 2 ≤ 16 → ∃ d e,
          t.store.queue = s.store.queue ++ [StoreRequest.append d, .append e] ∧
          t.agent.attention.downloadEnded = true ∧
          d.detail = .downloadEnded a l r.remaining .aborted .presence ∧
          d.channel = some (v.channel, (s.channel v.channel).label) ∧
          e.detail = .grantClosed .presence ∧ e.grant = some g.number)

/-- QUIET_TIMER_EXPIRY and ENTER_ASLEEP (R14): the part becomes ASLEEP when the quiet timer has run out and IGNON and
TOOLDET are deasserted, no grant and no exchange is held, every FIFO and queue is empty and the store is idle;
otherwise it stays AWAKE. Nothing else changes. The row of the expiry acts whatever the timer holds (log 4). -/
def Obligations.PartFallsAsleepOnlyWhenQuiet : Prop :=
  ∀ s : State, s.part.awake = true → ∀ quietPart : Prop,
    (quietPart ↔ s.lines.ignon = false ∧ s.lines.tooldet = false ∧ s.grants.grants = [] ∧ s.exchanges = [] ∧
      (∀ p, (s.port p).rx = [] ∧ (s.port p).out = []) ∧ s.store.queue = []) →
    (quietPart → exec .quietTimerExpiry s = .next { s with part := { s.part with quiet := 0, awake := false } }) ∧
    (¬quietPart → exec .quietTimerExpiry s = .next { s with part := { s.part with quiet := 0 } }) ∧
    (quietPart → s.part.quiet = 0 → exec .enterAsleep s = .next { s with part := { s.part with awake := false } }) ∧
    (¬(quietPart ∧ s.part.quiet = 0) → exec .enterAsleep s = .next s)

/-! ### The Load Meter -/

/-- HEAD_FRAME_RELEASE charges the cost of R132: of a standard frame of n bytes 47 + 8n + floor((34 + 8n - 1) / 4) bit
times, of an extended one 67 + 8n + floor((54 + 8n - 1) / 4), so 55 and 80 with 10 for each byte; in centibits a
hundred times that, worked out from the frame in the queue. Clamping keeps a pace frame's length. A head that is
already released, that the credit does not cover, or of a WITHDRAWN port, is left, as is an empty queue (R135). -/
def Obligations.HeadReleaseChargesTheFrameCost : Prop :=
  (∀ (v : BitVec 11) (d : List Byte),
    frameCost { id := .std v, data := d } = 47 + 8 * d.length + (34 + 8 * d.length - 1) / 4 ∧
    frameCost { id := .std v, data := d } = 55 + 10 * d.length) ∧
  (∀ (v : BitVec 29) (d : List Byte),
    frameCost { id := .ext v, data := d } = 67 + 8 * d.length + (54 + 8 * d.length - 1) / 4 ∧
    frameCost { id := .ext v, data := d } = 80 + 10 * d.length) ∧
  (∀ a g x y d, (clampPace a g d x y).length = d.length) ∧
  ∀ (n : Net) (s : State), s.part.awake = true →
    (∀ f rest, (s.port (netPort n)).out = f :: rest → (s.port (netPort n)).status = .active → f.released = false →
      frameCost f.frame * 100 ≤ s.credit n →
      exec (.headFrameRelease n) s = .next ((s.setCredit n (s.credit n - frameCost f.frame * 100)).setPort (netPort n)
        { s.port (netPort n) with out := { f with released := true } :: rest })) ∧
    ((∀ f rest, (s.port (netPort n)).out = f :: rest → f.released = true ∨ (s.port (netPort n)).status = .withdrawn ∨
      s.credit n < frameCost f.frame * 100) → exec (.headFrameRelease n) s = .next s)

/-- METER_REFILL (R134, R135): at a tick each bucket gains the port's rate in kbit/s times its share, up to the ceiling,
whatever the port's state; a waiting head that the refilled credit covers is released and charged at once. Nothing
else changes. The tick of the refill is the row itself (log 5). -/
def Obligations.MeterRefillGainsTheShareOfTheRate : Prop :=
  ∀ s : State, s.part.awake = true → ∃ t, exec .meterRefill s = .next t ∧
    (∀ n r share depth, r = rateKbit (s.port (netPort n)).rate → share = shareOf s.tables.ports n →
      depth = (if n = .E then s.tables.ports.depthE else s.tables.ports.depthC) →
      ∀ credit, credit = min (depth * 100) (s.credit n + r * share) →
      (∀ f rest, (s.port (netPort n)).out = f :: rest → (s.port (netPort n)).status = .active → f.released = false →
        frameCost f.frame * 100 ≤ credit →
        t.credit n = credit - frameCost f.frame * 100 ∧
        t.port (netPort n) = { s.port (netPort n) with out := { f with released := true } :: rest }) ∧
      ((∀ f rest, (s.port (netPort n)).out = f :: rest → f.released = true ∨
          (s.port (netPort n)).status = .withdrawn ∨ credit < frameCost f.frame * 100) →
        t.credit n = credit ∧ t.port (netPort n) = s.port (netPort n))) ∧
    t.ports.w = s.ports.w ∧ t = { s with meter := t.meter, ports := t.ports }

/-! ### Frame Router, Condition Monitor and Mirror List -/

/-- ROUTER_TAKES_FRAME (R23, R24, R51): the oldest frame is removed. A port W frame that carries no live channel's request
identifier and is not the management request is dropped and counted unroutable; a controller's frame of a channel
without an exchange is dropped and counted late, whatever it holds. On an empty FIFO nothing happens. -/
def Obligations.DroppedFramesAreCounted : Prop :=
  ∀ s : State, s.part.awake = true →
    (∀ p, (s.port p).rx = [] → exec (.routerTakesFrame p) s = .next s) ∧
    (∀ f rest, s.ports.w.rx = f :: rest → f.id ≠ s.tables.ports.wPair.request →
      (∀ d, (s.channel d).live = true → (s.channel d).ids.request ≠ f.id) →
      exec (.routerTakesFrame .W) s = .next (s.setPort .W { s.ports.w with
        rx := rest
        counters := { s.ports.w.counters with unroutable := min 65535 (s.ports.w.counters.unroutable + 1) } })) ∧
    (∀ c f rest p, ControllerSide s c f rest → channelExchange s c = none → p = netPort (s.channel c).port →
      exec (.routerTakesFrame p) s = .next (s.setPort p { s.port p with
        rx := rest
        counters := { (s.port p).counters with late := min 65535 ((s.port p).counters.late + 1) } }))

/-- ROUTER_TAKES_FRAME on vehicle traffic (R27, R82): a live signal of the frame's port, format and identifier takes its
value, in either byte order, becomes FRESH, AVAILABLE unless the value is the not-available one, and its staleness timer
is preset; a signal of another identifier or port, or whose value the frame does not carry whole, keeps its state. The
mirror and the windows are out of play here: TOOLDET is deasserted and no window is open. The port is ACTIVE; of a frame
that a WITHDRAWN port's FIFO still holds the signals take nothing (R82; log 42). -/
def Obligations.VehicleFrameGivesSignalsTheirValues : Prop :=
  ∀ (n : Net) (f : Frame) (rest : List Frame) (s : State), VehicleSide s n f rest → s.lines.tooldet = false →
    (∀ w, s.window w = none) →
    ∃ t, exec (.routerTakesFrame (netPort n)) s = .next t ∧
      t = { taken s (netPort n) rest with signals := t.signals } ∧
      ((s.port (netPort n)).status = .withdrawn → t.signals = s.signals) ∧
      ((s.port (netPort n)).status = .active → ∀ i e, e = s.tables.signals.get i →
        ((e.live = false ∨ e.port ≠ n ∨ e.id ≠ f.id ∨ f.data.length < e.offset + (if e.wide then 2 else 1)) →
          t.signals.get i = s.signals.get i) ∧
        (∀ a, e.live = true → e.port = n → e.id = f.id → e.wide = false → f.data[e.offset]? = some a →
          t.signals.get i = { raw := some a.toNat, available := decide (a.toNat ≠ 255), fresh := true,
                              timer := some e.stale }) ∧
        (∀ a b v, e.live = true → e.port = n → e.id = f.id → e.wide = true → f.data[e.offset]? = some a →
          f.data[e.offset + 1]? = some b →
          v = (if e.little then b.toNat * 256 + a.toNat else a.toNat * 256 + b.toNat) →
          t.signals.get i = { raw := some v, available := decide (v ≠ 65535), fresh := true, timer := some e.stale }))

/-- ROUTER_TAKES_FRAME on vehicle traffic no signal watches (R28 to R31): with TOOLDET deasserted, or with no matching
position, or with a deciding BLOCK position, the frame is dropped; a deciding PASS position of interval 0, or one that is
QUIET, offers it to port W unchanged, and the latter becomes TIMING; a TIMING or HOLDING one holds it and its timer runs
on. The deciding position is the first that matches: in use, of the frame's port and format, and with every identifier bit
equal to its value's where its mask is 1. Port W has room. -/
def Obligations.MirrorListDecidesOnVehicleFrames : Prop :=
  (∀ (e : MirrorEntry) (n : Net) (f : Frame), mirrorMatches e n f = true ↔ e.inUse = true ∧ e.port = n ∧
    ((∃ v k a : BitVec 11, e.ids = .std v k ∧ f.id = .std a ∧
        ∀ j, k.getLsbD j = true → a.getLsbD j = v.getLsbD j) ∨
      ∃ v k a : BitVec 29, e.ids = .ext v k ∧ f.id = .ext a ∧
        ∀ j, k.getLsbD j = true → a.getLsbD j = v.getLsbD j)) ∧
  ∀ (n : Net) (f : Frame) (rest : List Frame) (s : State), VehicleSide s n f rest → hasRoom s .W →
    (∀ i, (s.tables.signals.get i).live = true → (s.tables.signals.get i).port = n →
      (s.tables.signals.get i).id ≠ f.id) →
    ∀ q out, q = taken s (netPort n) rest →
    out = q.setPort .W { q.port .W with out := (q.port .W).out ++ [offered f .mirror 0 .plain] } →
    (s.lines.tooldet = false → exec (.routerTakesFrame (netPort n)) s = .next q) ∧
    ((∀ j, mirrorMatches (s.tables.mirrors.get j) n f = false) → exec (.routerTakesFrame (netPort n)) s = .next q) ∧
    (∀ i e, e = s.tables.mirrors.get i → s.lines.tooldet = true → mirrorMatches e n f = true →
      (∀ j, j < i → mirrorMatches (s.tables.mirrors.get j) n f = false) →
      (e.pass = false → exec (.routerTakesFrame (netPort n)) s = .next q) ∧
      (e.pass = true → e.interval = 0 → exec (.routerTakesFrame (netPort n)) s = .next out) ∧
      (e.pass = true → e.interval ≠ 0 → s.mirror.get i = .quiet →
        exec (.routerTakesFrame (netPort n)) s = .next { out with mirror := put s.mirror i (.timing e.interval) }) ∧
      (∀ left, e.pass = true → e.interval ≠ 0 → (s.mirror.get i = .timing left ∨ ∃ g, s.mirror.get i = .holding left g) →
        exec (.routerTakesFrame (netPort n)) s = .next { q with mirror := put s.mirror i (.holding left f) }))

/-- MIRROR_INTERVAL_EXPIRY (R32, R33): a HOLDING position offers its held frame to port W with origin mirror, its hold
becomes empty and its timer is preset to the interval; a TIMING one becomes QUIET. A full or WITHDRAWN port W discards
and counts the frame, and the position acts as though it had been sent. The row acts whatever the timer holds (log 4). -/
def Obligations.MirrorTimerSendsTheHeldFrame : Prop :=
  ∀ (i : Fin 32) (s : State), s.part.awake = true →
    (∀ left, s.mirror.get i = .timing left →
      exec (.mirrorIntervalExpiry i) s = .next { s with mirror := put s.mirror i .quiet }) ∧
    (∀ left f, s.mirror.get i = .holding left f → ∀ q,
      q = { s with mirror := put s.mirror i (.timing (s.tables.mirrors.get i).interval) } →
      (hasRoom s .W → exec (.mirrorIntervalExpiry i) s = .next (withReply q (offered f .mirror 0 .plain))) ∧
      (¬hasRoom s .W → exec (.mirrorIntervalExpiry i) s = .next (q.setPort .W { s.ports.w with
        counters := { s.ports.w.counters with discarded := min 65535 (s.ports.w.counters.discarded + 1) } })))

/-! ### Exchanges -/

/-- A message of n bytes as the gateway sends it has the one form of R39: 1 to 7 bytes are a unit; 8 to 448 a lead whose
count k is the smallest with 7k + 7 ≥ n, follows of 7 bytes, and a last follow of 1 to 7; the pieces in order are the
message, and each frame is read back as what it is (R37, R38). -/
def Obligations.MessageHasOneSegmentedForm : Prop :=
  ∀ msg : List Byte, 1 ≤ msg.length → msg.length ≤ 448 →
    (msg.length ≤ 7 → (unitData msg).length = msg.length + 1 ∧ ∀ k, readSsx k (unitData msg) = .unit msg) ∧
    (8 ≤ msg.length → ∃ k, k = followCount msg.length ∧ 1 ≤ k ∧ k ≤ 63 ∧ msg.length ≤ 7 * k + 7 ∧
      (∀ j, msg.length ≤ 7 * j + 7 → k ≤ j) ∧
      (leadData msg).length = 8 ∧ (∀ c, readSsx c (leadData msg) = .lead k (msg.take 7)) ∧
      (∀ i, 1 ≤ i → i < k → (followBytes msg i).length = 7) ∧
      (followBytes msg k).length = msg.length - 7 * k ∧
      (∀ i, 1 ≤ i → i ≤ k → readSsx k (followData msg i) = .follow i (followBytes msg i)) ∧
      msg.take 7 ++ (List.range k).flatMap (fun i => followBytes msg (i + 1)) = msg)

/-- What the Admission Unit passes: never a FORBIDDEN code; every required condition of the class is true; and the class
is open on the channel, or needs no grant, or an ACTIVE grant holds the channel and the class (R77 to R79). An Open is
passed only under an ACTIVE grant with REPROGRAM not yet bound to a window, on a channel without a window, with free
room for two entries (R78, R113); a step of a download only with an open window on its channel (R77). "Never yet bound"
is read as binding NONE (log 20). -/
def Obligations.AdmittedRequestsAreCoveredAndConditionsHold : Prop :=
  ∀ (s : State) (c : Fin 16) (code : Byte) (first : Ssx), tablesLaw s →
    (∀ cls role, admission s c code first = .pass cls role →
      cls ≠ .forbidden ∧ classOf s code = some { cls := cls, role := role } ∧
      (policyOf s cls).required &&& ~~~(conditions s) = 0 ∧
      (classOpen (s.channel c) cls = true ∨ (policyOf s cls).grantNeeded = false ∨
        ∃ g ∈ s.grants.grants, g.state = .active ∧ g.channels.getLsbD c.val = true ∧
          g.classes &&& classBit cls ≠ 0)) ∧
    (∀ n k w, admission s c code first = .opening n k w →
      classOf s code = some { cls := .reprogram, role := some .opening } ∧
      (policyOf s .reprogram).required &&& ~~~(conditions s) = 0 ∧ s.window w = none ∧ windowOn s c = none ∧
      occupied s + 2 ≤ 128 ∧
      ∃ g ∈ s.grants.grants, g.number = n ∧ g.slot = k ∧ g.state = .active ∧ g.channels.getLsbD c.val = true ∧
        g.classes &&& bitReprogram ≠ 0 ∧ g.binding = .none) ∧
    (∀ role w, admission s c code first = .linked role w → ∃ v, windowOn s c = some (w, v))

/-- ROUTER_TAKES_FRAME on a request's unit or lead that is not admitted opens no exchange and answers on port W (R42, R57,
R59, R60, R77 to R80, R113, R124): EXCHANGE_OPEN on a channel with a pending exchange, which is left as it was; otherwise
PORT_DOWN while the target port is WITHDRAWN, FORBIDDEN for a code outside 0x01..0x7E or of class FORBIDDEN, NO_WINDOW for
a Block, a Close or an Erase without a window, OUT_OF_WINDOW for an Erase that is no lead of count 1, NOT_GRANTED where no
grant covers what needs one, CONDITION where a required condition is false, and for an Open that is covered WINDOW_BUSY,
OUT_OF_WINDOW if it is no lead of count 1, and RECORD_FULL, in that order. Port W has room. "Never yet bound" is log
20. -/
def Obligations.RefusedRequestIsAnsweredByItsReason : Prop :=
  ∀ (c : Fin 16) (f : Frame) (rest : List Frame) (code : Byte) (more : List Byte) (k : Nat) (s : State),
    ToolSide s c f rest → hasRoom s .W →
    (f.data = byte 0 :: code :: more ∨ f.data = byte (64 + k) :: code :: more ∧ 1 ≤ k ∧ k ≤ 63 ∧ more.length = 6) →
    ∀ refused : Nat → State, (∀ r, refused r = withReply (taken s .W rest) (replyFrame s c code r)) →
    (∀ x, channelExchange s c = some x → exec (.routerTakesFrame .W) s = .next (refused 0xE4)) ∧
    (channelExchange s c = none → (s.port (netPort (s.channel c).port)).status = .withdrawn →
      exec (.routerTakesFrame .W) s = .next (refused 0xEE)) ∧
    (channelExchange s c = none → (s.port (netPort (s.channel c).port)).status = .active →
      ((code = 0 ∨ 0x7F ≤ code.toNat ∨ ∃ r, classOf s code = some { cls := .forbidden, role := r }) →
        exec (.routerTakesFrame .W) s = .next (refused 0xE3)) ∧
      ((∃ r, (r = .block ∨ r = .closing ∨ r = .erase) ∧ classOf s code = some { cls := .reprogram, role := some r }) →
        windowOn s c = none → exec (.routerTakesFrame .W) s = .next (refused 0xEB)) ∧
      (classOf s code = some { cls := .reprogram, role := some .erase } → windowOn s c ≠ none →
        f.data.head? ≠ some (byte 65) → exec (.routerTakesFrame .W) s = .next (refused 0xE8)) ∧
      (∀ e, classOf s code = some e → e.cls ≠ .forbidden → e.role = none ∨ e.role = some .other → ∀ granted : Prop,
        (granted ↔ ∃ g ∈ s.grants.grants, g.state = .active ∧ g.channels.getLsbD c.val = true ∧
          g.classes &&& classBit e.cls ≠ 0) →
        (classOpen (s.channel c) e.cls = false → (policyOf s e.cls).grantNeeded = true → ¬granted →
          exec (.routerTakesFrame .W) s = .next (refused 0xE1)) ∧
        (classOpen (s.channel c) e.cls = true ∨ (policyOf s e.cls).grantNeeded = false ∨ granted →
          (policyOf s e.cls).required &&& ~~~(conditions s) ≠ 0 →
          exec (.routerTakesFrame .W) s = .next (refused 0xE2))) ∧
      (classOf s code = some { cls := .reprogram, role := some .opening } →
        ((∀ g ∈ s.grants.grants, ¬coversOpen g c) → exec (.routerTakesFrame .W) s = .next (refused 0xE1)) ∧
        ((∃ g ∈ s.grants.grants, coversOpen g c) →
          ((policyOf s .reprogram).required &&& ~~~(conditions s) ≠ 0 →
            exec (.routerTakesFrame .W) s = .next (refused 0xE2)) ∧
          ((policyOf s .reprogram).required &&& ~~~(conditions s) = 0 →
            (windowOn s c ≠ none ∨ (∀ w, s.window w ≠ none) → exec (.routerTakesFrame .W) s = .next (refused 0xEC)) ∧
            (windowOn s c = none → (∃ w, s.window w = none) →
              (f.data.head? ≠ some (byte 65) → exec (.routerTakesFrame .W) s = .next (refused 0xE8)) ∧
              (f.data.head? = some (byte 65) → 126 < occupied s →
                exec (.routerTakesFrame .W) s = .next (refused 0xEF)))))))

/-- ROUTER_TAKES_FRAME on the first frame of a request whose class is open on its channel and whose conditions hold (R44,
R57, R58, R61): a unit goes unchanged to the target port's queue, and an exchange joins the end of the list, AWAITING,
its reply timer PENDING_SEND with basis REPLY; a lead goes the same way, and its exchange is INBOUND, its record waiting
for a pace frame. Nothing else changes. An Open's lead under a covering grant, the earliest of the Grant Table, takes the
lowest free window, OPEN_PENDING with two reservations, to which its exchange is linked; the grant's binding is PENDING
and the lamp toggles (R78, R104, R106, R113; "never yet bound" is log 20). The first values of a segmentation record are
log 13, the number of a turn is the model's own (logs 2 and 14). -/
def Obligations.AdmittedUnitIsPassedToTheController : Prop :=
  (∀ (c : Fin 16) (f : Frame) (rest : List Frame) (code : Byte) (more : List Byte) (e : CodeEntry) (s : State),
    exchangeLaw s → ToolSide s c f rest → channelExchange s c = none →
    hasRoom s (netPort (s.channel c).port) → classOf s code = some e → e.role = none →
    e.cls ≠ .reprogram → e.cls ≠ .forbidden → classOpen (s.channel c) e.cls = true →
    (policyOf s e.cls).required &&& ~~~(conditions s) = 0 →
    (f.data = byte 0 :: code :: more → ∃ t, exec (.routerTakesFrame .W) s = .next t ∧
      t.exchanges = s.exchanges ++ [Exchange.channel {
        id := s.part.stamp, channel := c, code := code, cls := e.cls, role := none, state := .awaiting,
        seg := .fresh, timer := .pendingSend, extended := false, reloads := 0, window := none, form := .other,
        gathered := [], gapTimer := none }] ∧
      queued t (netPort (s.channel c).port) = queued s (netPort (s.channel c).port) ++ [f] ∧
      t.ports.w = { s.ports.w with rx := rest } ∧
      t = { s with part := t.part, ports := t.ports, meter := t.meter, exchanges := t.exchanges }) ∧
    (∀ k, f.data = byte (64 + k) :: code :: more → 1 ≤ k → k ≤ 63 → more.length = 6 →
      ∃ t turn, exec (.routerTakesFrame .W) s = .next t ∧
      t.exchanges = s.exchanges ++ [Exchange.channel {
        id := s.part.stamp, channel := c, code := code, cls := e.cls, role := none, state := .inbound,
        seg := { Seg.fresh with phase := .paceDue, count := k, next := 1, len := 7, turn := turn },
        timer := .stopped, extended := false, reloads := 0, window := none, form := .other, gathered := [],
        gapTimer := none }] ∧
      queued t (netPort (s.channel c).port) = queued s (netPort (s.channel c).port) ++ [f] ∧
      t.ports.w = { s.ports.w with rx := rest } ∧
      t = { s with part := t.part, ports := t.ports, meter := t.meter, exchanges := t.exchanges })) ∧
  (∀ (c : Fin 16) (f : Frame) (rest : List Frame) (code : Byte) (more : List Byte) (w : Fin 2) (g : Grant)
      (before after : List Grant) (s : State),
    exchangeLaw s → grantNumbersDistinct s → ToolSide s c f rest → channelExchange s c = none →
    hasRoom s (netPort (s.channel c).port) → classOf s code = some { cls := .reprogram, role := some .opening } →
    f.data = byte 65 :: code :: more → more.length = 6 → s.grants.grants = before ++ g :: after → coversOpen g c →
    (∀ h ∈ before, ¬coversOpen h c) → (policyOf s .reprogram).required &&& ~~~(conditions s) = 0 →
    windowOn s c = none → s.window w = none → (w = 1 → s.window 0 ≠ none) → occupied s + 2 ≤ 128 →
    ∃ t x, exec (.routerTakesFrame .W) s = .next t ∧
      t.exchanges = s.exchanges ++ [Exchange.channel x] ∧ x.channel = c ∧ x.code = code ∧ x.state = .inbound ∧
      x.role = some .opening ∧ x.window = some w ∧
      x.seg.phase = .paceDue ∧ x.seg.count = 1 ∧ x.seg.next = 1 ∧ x.gathered = code :: more ∧
      queued t (netPort (s.channel c).port) = queued s (netPort (s.channel c).port) ++ [f] ∧
      t.window w = some {
        channel := c, grant := g.number, slot := g.slot, state := .openPending, range := none, run := none,
        inHand := none, grace := none, idle := none, hold := none, buffer := none, reservations := 2 } ∧
      (∀ u, u ≠ w → t.window u = s.window u) ∧ occupied t = occupied s + 2 ∧
      t.grants.grants = grantsWith s g.number (fun y => { y with binding := .pending w }) ∧
      (∃ lit left, t.grants.lamp = .toggling lit left) ∧ t.store = s.store ∧ t.record = s.record)

/-- ROUTER_TAKES_FRAME on the frames of a reply and on the follows of a request, of an exchange without a window link. A
reply's unit in AWAITING: a still-working reply is passed on and presets the extended timeout, one reload more being
used; the 65th is not passed, and closes the exchange NO_REPLY (R63). Any other reply is passed unchanged and closes the
exchange ANSWERED (R62). A reply's lead is passed too and makes the exchange REPLYING, its record waiting for the tool's
pace frame, its reply timer stopped (R44, R62); the 65th still-working one is withheld. A follow with the index expected
is passed in REPLYING: while the allowance lasts the segment timer is preset to 1 s, the follow that spends it gives the
turn away, and the last one closes the exchange, or extends the wait after a still-working message (R47, R62, R63). The
tool's pace frame goes to the controller as it came: a proceed sets allowance and gap unclamped, a wait stops the segment
timer until it is sent, a refuse closes the exchange (R45). A follow of a request in INBOUND goes to the controller in the
same way, and its last one starts the wait for the reply (R47, R61). The port a frame goes to has room. The number of a
turn is the model's own (logs 2 and 14). -/
def Obligations.ReplyUnitIsPassedAndClosesTheExchange : Prop :=
  (∀ (c : Fin 16) (f : Frame) (rest : List Frame) (msg : List Byte) (x : ChannelExchange) (s : State),
    exchangeLaw s → ControllerSide s c f rest → hasRoom s .W → channelExchange s c = some x → x.state = .awaiting →
    x.window = none → x.code.toNat ≤ 0x7E → ∀ p q stillWorking,
    p = netPort (s.channel c).port → q = taken s p rest →
    (stillWorking ↔ ∃ more, msg = byte 0xFF :: x.code :: byte 0x2F :: more) →
    (f.data = byte 0 :: msg → msg ≠ [] → msg.length ≤ 7 →
      (¬stillWorking → exec (.routerTakesFrame p) s = .next (withReply { q with
        exchanges := s.exchanges.eraseP (isChannel x.id) }
        (offered f (.exchange c) x.id .plain))) ∧
      (stillWorking → x.reloads < 64 → exec (.routerTakesFrame p) s = .next (setChannelExchange
        { x with seg := x.seg.reset, timer := .running ((s.channel c).extTimeout * 1000), extended := true,
                 reloads := x.reloads + 1 }
        (withReply q (offered f (.exchange c) x.id .plain)))) ∧
      (stillWorking → 64 ≤ x.reloads → exec (.routerTakesFrame p) s = .next (withReply { q with
        exchanges := s.exchanges.eraseP (isChannel x.id) } (replyFrame s c x.code 0xE5)))) ∧
    (∀ k, f.data = byte (64 + k) :: msg → 1 ≤ k → k ≤ 63 → msg.length = 7 →
      (¬stillWorking ∨ x.reloads < 64 → ∃ form, (form = .stillWorking ↔ stillWorking) ∧
        exec (.routerTakesFrame p) s = .next (nextStamp (setChannelExchange
          { x with state := .replying, form := form, timer := .stopped,
                   seg := { x.seg with phase := .paceDue, count := k, next := 1, len := 7, timer := none,
                                       turn := s.part.stamp } }
          (withReply q (offered f (.exchange c) x.id (.turn s.part.stamp)))))) ∧
      (stillWorking → 64 ≤ x.reloads → exec (.routerTakesFrame p) s = .next (withReply { q with
        exchanges := s.exchanges.eraseP (isChannel x.id) } (replyFrame s c x.code 0xE5))))) ∧
  (∀ (c : Fin 16) (f : Frame) (rest : List Frame) (i : Nat) (bytes : List Byte) (x : ChannelExchange) (s : State),
    exchangeLaw s → ControllerSide s c f rest → hasRoom s .W → channelExchange s c = some x → x.state = .replying →
    x.seg.phase = .followsDue → x.seg.next = i → i ≤ 63 → f.data = byte (128 + i) :: bytes → 1 ≤ bytes.length →
    bytes.length ≤ 7 → (i < x.seg.count → bytes.length = 7) → ∀ p q, p = netPort (s.channel c).port →
    q = taken s p rest →
    (∀ a, i ≠ x.seg.count →
      (x.seg.allow = .rest ∧ a = .rest ∨ ∃ n, x.seg.allow = .num (n + 2) ∧ a = .num (n + 1)) →
      exec (.routerTakesFrame p) s = .next (nextStamp (setChannelExchange
        { x with seg := { x.seg with next := i + 1, allow := a, len := x.seg.len + bytes.length, timer := some 1000 } }
        (withReply q (offered f (.exchange c) x.id .plain))))) ∧
    (i ≠ x.seg.count → x.seg.allow = .num 1 → exec (.routerTakesFrame p) s = .next (nextStamp (setChannelExchange
      { x with seg := { x.seg with phase := .paceDue, next := i + 1, allow := .num 0, len := x.seg.len + bytes.length,
                                   timer := none, turn := s.part.stamp } }
      (withReply q (offered f (.exchange c) x.id (.turn s.part.stamp)))))) ∧
    (i = x.seg.count → x.form = .stillWorking → exec (.routerTakesFrame p) s = .next (setChannelExchange
      { x with state := .awaiting, seg := x.seg.reset, timer := .running ((s.channel c).extTimeout * 1000),
               extended := true, reloads := x.reloads + 1 }
      (withReply q (offered f (.exchange c) x.id .plain)))) ∧
    (i = x.seg.count → x.form ≠ .stillWorking → x.window = none → exec (.routerTakesFrame p) s = .next (withReply
      { q with exchanges := s.exchanges.eraseP (isChannel x.id) } (offered f (.exchange c) x.id .plain)))) ∧
  (∀ (c : Fin 16) (f : Frame) (rest : List Frame) (ctl code gap : Byte) (more : List Byte) (x : ChannelExchange)
      (s : State),
    exchangeLaw s → ToolSide s c f rest → hasRoom s (netPort (s.channel c).port) → channelExchange s c = some x →
    x.state = .replying → x.seg.phase = .paceDue → f.data = ctl :: code :: gap :: more → 192 ≤ ctl.toNat →
    code.toNat ≤ 2 → gap.toNat ≤ 127 → ∀ p, p = netPort (s.channel c).port →
    ∃ t, exec (.routerTakesFrame .W) s = .next t ∧ queued t p = queued s p ++ [f] ∧
      (code = 0 → channelExchange t c = some { x with seg := { x.seg with
        phase := .followsDue, allow := (if ctl.toNat = 192 then .rest else .num (ctl.toNat - 192)), gap := gap.toNat,
        timer := none, turn := s.part.stamp } }) ∧
      (code = 1 → channelExchange t c = some { x with seg := { x.seg with timer := none, turn := s.part.stamp } }) ∧
      (code = 2 → x.window = none → t.exchanges = s.exchanges.eraseP (isChannel x.id)) ∧
      (code ≠ 2 ∨ x.window = none →
        t = { s with part := t.part, ports := t.ports, meter := t.meter, exchanges := t.exchanges })) ∧
  (∀ (c : Fin 16) (f : Frame) (rest : List Frame) (i : Nat) (bytes : List Byte) (x : ChannelExchange) (s : State),
    exchangeLaw s → ToolSide s c f rest → hasRoom s (netPort (s.channel c).port) → channelExchange s c = some x →
    x.state = .inbound → x.role = none → x.seg.phase = .followsDue → x.seg.next = i → i ≤ 63 →
    f.data = byte (128 + i) :: bytes → 1 ≤ bytes.length → bytes.length ≤ 7 → (i < x.seg.count → bytes.length = 7) →
    ∀ p, p = netPort (s.channel c).port →
    ∃ t, exec (.routerTakesFrame .W) s = .next t ∧ queued t p = queued s p ++ [f] ∧
      t = { s with part := t.part, ports := t.ports, meter := t.meter, exchanges := t.exchanges } ∧
      (∀ a, i ≠ x.seg.count →
        (x.seg.allow = .rest ∧ a = .rest ∨ ∃ n, x.seg.allow = .num (n + 2) ∧ a = .num (n + 1)) →
        channelExchange t c = some { x with
          gathered := []
          seg := { x.seg with next := i + 1, allow := a, len := x.seg.len + bytes.length, timer := some 1000 } }) ∧
      (i ≠ x.seg.count → x.seg.allow = .num 1 → channelExchange t c = some { x with
        gathered := []
        seg := { x.seg with phase := .paceDue, next := i + 1, allow := .num 0, len := x.seg.len + bytes.length,
                            timer := none, turn := s.part.stamp } }) ∧
      (i = x.seg.count → channelExchange t c = some { x with
        state := .awaiting, seg := x.seg.reset, timer := .pendingSend, extended := false, gathered := [] }))

/-- ROUTER_TAKES_FRAME on a controller's pace frames. For a request (R45, R46): of a proceed, the frame passed to the tool
has the allowance and the gap clamped to the channel's ceiling, every other byte kept, and the record takes the values
passed on, an allowance of 0 as REST; the segment timer waits for the frame to be sent. A wait is passed on as received and
leaves the turn, the timer waiting for it to be sent; a refuse is passed on and closes the exchange, with no reply of the
gateway's. For a block that is re-sent (R53, R121): a proceed is taken with no clamping, and the follows of the staged
message are offered in index order, one under a gap, otherwise as many as the allowance gives up to the last, the one that
spends it giving the turn away with the timer stopped (R48); a wait presets the timer; a refuse closes the exchange,
BROKEN (0xE6) answering the tool, and ends the window FAILED, cause REFUSED, with its entry, while the bound grant, which
keeps other classes here, loses REPROGRAM. A pace frame when no pace is due breaks the message, and the window goes on;
that it does so while a block of one unit waits is log 56. What the frames' sending brings about is log 14. -/
def Obligations.ProceedIsClampedToThePaceCeiling : Prop :=
  (∀ (c : Fin 16) (f : Frame) (rest : List Frame) (ctl gap : Byte) (more : List Byte) (x : ChannelExchange) (s : State),
    exchangeLaw s → ControllerSide s c f rest → hasRoom s .W → f.data = ctl :: byte 0 :: gap :: more →
    192 ≤ ctl.toNat → gap.toNat ≤ 127 → channelExchange s c = some x → x.state = .inbound →
    x.seg.phase = .paceDue →
    ∀ p m a g, p = netPort (s.channel c).port → m = (s.channel c).maxAllowance →
    a = (if m = 63 then ctl.toNat - 192 else if ctl.toNat = 192 ∨ m < ctl.toNat - 192 then m else ctl.toNat - 192) →
    g = max gap.toNat (s.channel c).minGap →
    exec (.routerTakesFrame p) s = .next (nextStamp (setChannelExchange
      { x with seg := { x.seg with phase := .followsDue, allow := (if a = 0 then .rest else .num a), gap := g,
                                   timer := none, turn := s.part.stamp } }
      (withReply (taken s p rest) (offered
        { f with data := byte (192 + a) :: byte 0 :: byte g :: more } (.pace c) x.id (.turn s.part.stamp)))))) ∧
  (∀ (c : Fin 16) (f : Frame) (rest : List Frame) (ctl code gap : Byte) (x : ChannelExchange) (p : Port) (q s : State),
    exchangeLaw s → ControllerSide s c f rest → hasRoom s .W → paceFrame f ctl code gap →
    channelExchange s c = some x → x.state = .inbound → x.seg.phase = .paceDue → p = netPort (s.channel c).port →
    q = taken s p rest →
    (code = 1 → exec (.routerTakesFrame p) s = .next (nextStamp (setChannelExchange
      { x with seg := { x.seg with timer := none, turn := s.part.stamp } }
      (withReply q (offered f (.pace c) x.id (.turn s.part.stamp)))))) ∧
    (code = 2 → x.window = none → exec (.routerTakesFrame p) s = .next (withReply
      { q with exchanges := s.exchanges.eraseP (isChannel x.id) } (offered f (.pace c) x.id .plain)))) ∧
  (∀ (c : Fin 16) (f : Frame) (rest : List Frame) (ctl code gap : Byte) (x : ChannelExchange) (w : Fin 2) (v : Window)
      (b : Fin 2) (p : Port) (q s : State),
    exchangeLaw s → ControllerSide s c f rest → paceFrame f ctl code gap → channelExchange s c = some x →
    x.state = .outbound → x.window = some w → s.window w = some v → v.buffer = some b →
    p = netPort (s.channel c).port → q = taken s p rest → ∀ msg, msg = s.inspector.buffers.get b →
    (x.seg.phase = .paceDue →
      (∀ g n, code = 0 → 1 ≤ x.seg.next → x.seg.next ≤ x.seg.count → x.seg.count ≤ 63 → g = resumed x.seg ctl gap →
        n = followsNow g → roomFor s p n → ∃ t, exec (.routerTakesFrame p) s = .next t ∧
          followsOffered s t p (s.channel c).ids.request (.exchange c) x.id msg g n ∧ (t.port p).rx = rest ∧
          channelExchange t c = some { x with gapTimer := none, seg := afterFollows g msg s.part.stamp n } ∧
          t = { q with part := t.part, ports := t.ports, meter := t.meter, exchanges := t.exchanges }) ∧
      (code = 1 → exec (.routerTakesFrame p) s = .next
        (setChannelExchange { x with seg := { x.seg with timer := some 1000 } } q)) ∧
      (∀ r a l y, code = 2 → hasRoom s .W → linkedExchange s w = some x → v.channel = c → v.run = some r →
        v.range = some (a, l) → 1 ≤ v.reservations → s.store.queue.length < 16 → grantNumbersDistinct s →
        y ∈ s.grants.grants → y.number = v.grant → y.binding = .bound w → y.state = .active →
        y.classes &&& ~~~bitReprogram ≠ 0 →
        ∃ t, exec (.routerTakesFrame p) s = .next t ∧ channelExchange t c = none ∧
          t.exchanges.length + 1 = s.exchanges.length ∧ t.window w = none ∧
          queued t .W = queued s .W ++ [(replyFrame s c x.code 0xE6).frame] ∧ t.agent.attention.downloadEnded = true ∧
          t.store.queue = s.store.queue ++ [StoreRequest.append (entryNow s (.downloadEnded a l r.remaining .failed
            .refused) (some v.grant) (some v.slot) (some (c, (s.channel c).label)))] ∧
          t.grants.grants = grantsWith s v.grant
            (fun y => { y with binding := .ended, classes := y.classes &&& ~~~bitReprogram }))) ∧
    (x.seg.phase ≠ .paceDue → hasRoom s .W → v.state = .active ∨ v.state = .suspended →
      ∃ t, exec (.routerTakesFrame p) s = .next t ∧ t.exchanges = s.exchanges.eraseP (isChannel x.id) ∧
        t.window w = some (unlinkedWindow v) ∧ queued t .W = queued s .W ++ [(replyFrame s c x.code 0xE6).frame] ∧
        t.store = s.store ∧ t.record = s.record))

/-- REPLY_TIMER_EXPIRY in AWAITING (R64, R65): the exchange leaves the list and NO_REPLY (0xE5) is offered to port W,
whichever limit the timer was preset from. The exchange has no window link, and port W has room. A timer that does not
run changes nothing, and a running one need not stand at 0 (log 4). -/
def Obligations.ReplyTimerClosesTheExchange : Prop :=
  ∀ (c : Fin 16) (s : State), s.part.awake = true →
    (∀ x left, exchangeLaw s → channelExchange s c = some x → x.state = .awaiting → x.timer = .running left →
      x.window = none → hasRoom s .W →
      exec (.replyTimerExpiry c) s = .next (withReply { s with exchanges := s.exchanges.eraseP (isChannel x.id) }
        (replyFrame s c x.code 0xE5))) ∧
    ((∀ x, channelExchange s c = some x → x.timer = .stopped ∨ x.timer = .pendingSend) →
      exec (.replyTimerExpiry c) s = .next s)

/-- SEGMENT_TIMER_EXPIRY (R48, R50, R53, R152, R153): a channel's exchange closes and BROKEN (0xE6) is offered to port W;
a management request being gathered closes and MALFORMED (0x0D) is offered under the pair's response identifier; a
management reply being sent closes with nothing further; a side answer becomes absent. The exchange has no window
link, and the ports have room. A stopped timer changes nothing, and a running one need not stand at 0 (log 4). -/
def Obligations.SegmentTimerBreaksTheMessage : Prop :=
  ∀ s : State, s.part.awake = true → exchangeLaw s →
    (∀ c x left, channelExchange s c = some x → x.seg.timer = some left → x.window = none → hasRoom s .W →
      exec (.segmentTimerExpiry (.channel c)) s =
        .next (withReply { s with exchanges := s.exchanges.eraseP (isChannel x.id) } (replyFrame s c x.code 0xE6))) ∧
    (∀ c x, channelExchange s c = some x → x.seg.timer = none →
      exec (.segmentTimerExpiry (.channel c)) s = .next s) ∧
    (∀ m x left, mgmtExchange s m = some x → x.seg.timer = some left → x.state = .receiving →
      hasRoom s (mgmtPort m) → ∃ t, exec (.segmentTimerExpiry (.management m)) s = .next t ∧
        t.exchanges = s.exchanges.eraseP (isMgmt x.id) ∧
        queued t (mgmtPort m) = queued s (mgmtPort m) ++
          [frameOf x.response [byte 0, byte 0xFF, x.code, byte 0x0D]] ∧
        t = { s with ports := t.ports, meter := t.meter, exchanges := t.exchanges, agent := t.agent }) ∧
    (∀ m x left, mgmtExchange s m = some x → x.seg.timer = some left → x.state = .answering →
      ∃ t, exec (.segmentTimerExpiry (.management m)) s = .next t ∧
        t = { s with exchanges := s.exchanges.eraseP (isMgmt x.id), agent := t.agent }) ∧
    (∀ id seg msg gap left, s.agent.sideW = .sending id seg msg gap → seg.timer = some left →
      exec (.segmentTimerExpiry (.side .W)) s = .next { s with agent := { s.agent with sideW := .absent } }) ∧
    (∀ id seg msg gap left, s.agent.sideC = .sending id seg msg gap → seg.timer = some left →
      exec (.segmentTimerExpiry (.side .C)) s = .next { s with agent := { s.agent with sideC := .absent } })

/-- GAP_FOLLOW_OFFER (R39, R47, R48, R53): once the gap has passed, the next follow alone is offered, with its index and its
bytes of the message, and the record moves on; for a management reply, a side answer and a staged block alike. The last
follow ends the offers; one that spends a numbered allowance gives the turn away, and the phase is PACE_DUE with the
timer stopped. The queue has room. The row acts on any gap timer that runs, whatever it still holds (log 4); the
identifier of a side answer is log 32, what a follow's sending brings about log 14. -/
def Obligations.GapOffersTheNextFollow : Prop :=
  ∀ s : State, s.part.awake = true → exchangeLaw s →
    (∀ m x reply left p, p = mgmtPort m → mgmtExchange s m = some x → x.state = .answering → x.work = .ready reply →
      x.seg.phase = .followsDue → x.seg.allow ≠ .num 0 → x.seg.next ≤ x.seg.count → x.gapTimer = some left →
      hasRoom s p → ∃ t, exec (.gapFollowOffer (.management m)) s = .next t ∧
        followsOffered s t p x.response (.management m .exchange) x.id reply x.seg 1 ∧
        mgmtExchange t m = some { x with gapTimer := none, seg := afterFollows x.seg reply s.part.stamp 1 } ∧
        t = { s with part := t.part, ports := t.ports, meter := t.meter, exchanges := t.exchanges }) ∧
    (∀ m id seg msg left p, p = mgmtPort m → sideOf s m = .sending id seg msg (some left) → seg.phase = .followsDue →
      seg.allow ≠ .num 0 → seg.next ≤ seg.count → hasRoom s p → ∃ t, exec (.gapFollowOffer (.side m)) s = .next t ∧
        followsOffered s t p (mgmtPair s m).response (.management m .side) id msg seg 1 ∧
        sideOf t m = .sending id (afterFollows seg msg s.part.stamp 1) msg none ∧
        (∀ k, k ≠ m → sideOf t k = sideOf s k) ∧
        t = { s with part := t.part, ports := t.ports, meter := t.meter, agent := t.agent }) ∧
    (∀ c x w v b left p msg, channelExchange s c = some x → x.state = .outbound → x.window = some w →
      s.window w = some v → v.buffer = some b → x.seg.phase = .followsDue → x.seg.allow ≠ .num 0 →
      x.seg.next ≤ x.seg.count → x.gapTimer = some left → p = netPort (s.channel c).port → hasRoom s p →
      msg = s.inspector.buffers.get b →
      ∃ t, exec (.gapFollowOffer (.channel c)) s = .next t ∧
        followsOffered s t p (s.channel c).ids.request (.exchange c) x.id msg x.seg 1 ∧
        channelExchange t c = some { x with gapTimer := none, seg := afterFollows x.seg msg s.part.stamp 1 } ∧
        t = { s with part := t.part, ports := t.ports, meter := t.meter, exchanges := t.exchanges })

/-! ### Download -/

/-- The comparison behind LESS_THAN_STORED (R109, R110): it finds a map no looser than the stored one exactly when every
address the stored map bars for writing, and every address it bars for erasing, the new map bars in the same way. On it
rests the law of R111, which every step keeps: while the stored maps pass their check, what the stored map of a channel
bars stays barred by its working map or the overlay laid over it. -/
def Obligations.LooserMapIsAnUnbarredAddress : Prop :=
  (∀ stored new : RegionMap, noLooser stored new = true ↔
    (∀ a, (∃ r ∈ writeBars stored, r.1 ≤ a ∧ a < r.2) → ∃ r ∈ writeBars new, r.1 ≤ a ∧ a < r.2) ∧
    (∀ a, (∃ r ∈ eraseBars stored, r.1 ≤ a ∧ a < r.2) → ∃ r ∈ eraseBars new, r.1 ≤ a ∧ a < r.2)) ∧
  (∀ s t : State, tablesLaw s → barLaw s → step s = .next t → barLaw t)

/-- ROUTER_TAKES_FRAME on the frames of a Download Block (R118 to R121, R126), and IGNON_CHANGE where it ends a suspension
(R125). The unit of a block on an ACTIVE window with the expected counter and a length within Bmax and the remaining
length becomes the block in hand at the next address. If its range meets no write-barred range it is sent to the
controller, and the exchange is OUTBOUND_TO_ECU; if it meets one, no frame goes to the controller, REGION_BARRED (0xE7)
answers the tool, and the window has ended. The same holds of every message that completes, as a unit or with its last
follow, and passes as a new block or as a repeat; on a SUSPENDED window it is held, STAGED_HOLD, and nothing is offered. A
block that does not pass is refused OUT_OF_WINDOW (0xE8), with its entry, or SEQUENCE (0xE9), and its window goes on. A
lead takes the lowest free buffer and is answered proceed, or wait while the window is SUSPENDED; a follow is gathered. A
tool's follow or pace frame in STAGED_HOLD breaks the exchange (0xE6); a controller's frame in STAGING or STAGED_HOLD is
late. When the watched conditions are true again the window is ACTIVE, a held block is checked and sent or ends the
window, and a waiting lead is answered proceed. -/
def Obligations.BlockLeavesOnlyThroughItsCheck : Prop :=
  (∀ (c : Fin 16) (f : Frame) (rest : List Frame) (code k : Byte) (bytes : List Byte) (w : Fin 2) (v : Window)
    (r : WindowRun) (p : Port) (s : State), exchangeLaw s → ToolSide s c f rest → hasRoom s .W →
    p = netPort (s.channel c).port → hasRoom s p → f.data = byte 0 :: code :: k :: bytes → 1 ≤ bytes.length →
    bytes.length ≤ 5 → channelExchange s c = none → classOf s code = some { cls := .reprogram, role := some .block } →
    windowOn s c = some (w, v) → linkedExchange s w = none → v.state = .active → v.run = some r →
    k.toNat = r.expected → bytes.length ≤ r.bmax → bytes.length ≤ r.remaining →
    ((∀ b ∈ channelWriteBars s c, ¬(r.next < b.2 ∧ b.1 < r.next + bytes.length)) →
      ∃ t e b, exec (.routerTakesFrame .W) s = .next t ∧ t.exchanges = s.exchanges ++ [Exchange.channel e] ∧
        e.channel = c ∧ e.code = code ∧ e.state = .outbound ∧ e.role = some .block ∧ e.window = some w ∧
        queued t p = queued s p ++ [f] ∧
        t.window w = some { v with
          idle := none, buffer := some b,
          inHand := some { start := r.next, count := bytes.length, counter := k.toNat, again := false } } ∧
        t.inspector.buffers.get b = code :: k :: bytes ∧ t.grants = s.grants ∧ t.store = s.store ∧
        t.record = s.record) ∧
    ((∃ b ∈ channelWriteBars s c, r.next < b.2 ∧ b.1 < r.next + bytes.length) →
      ∃ t, exec (.routerTakesFrame .W) s = .next t ∧ t.exchanges.length = s.exchanges.length ∧
        queued t p = queued s p ∧ t.window w = none ∧ t.agent.attention.downloadEnded = true ∧
        queued t .W = queued s .W ++
          [frameOf (s.channel c).ids.response [byte 0, byte 0xFF, code, byte 0xE7]])) ∧
  (∀ (c : Fin 16) (f : Frame) (rest : List Frame) (w : Fin 2) (v : Window) (r : WindowRun) (code k : Byte)
      (bytes : List Byte) (p : Port) (s : State),
    BlockCompletes s c f rest w v r code k bytes → p = netPort (s.channel c).port →
    (∀ b, blockPasses r k.toNat bytes.length b →
      (v.state = .suspended → ∃ t x u i, exec (.routerTakesFrame .W) s = .next t ∧ channelExchange t c = some x ∧
        x.code = code ∧ x.state = .stagedHold ∧ x.role = some .block ∧ x.window = some w ∧ t.window w = some u ∧
        u.state = .suspended ∧ u.run = some r ∧ u.inHand = some b ∧ u.hold = some 2000 ∧ u.buffer = some i ∧
        t.inspector.buffers.get i = code :: k :: bytes ∧ queued t p = queued s p ∧ queued t .W = queued s .W ∧
        t.store = s.store ∧ t.record = s.record) ∧
      (v.state = .active → (∀ z ∈ channelWriteBars s c, ¬(b.start < z.2 ∧ z.1 < b.start + b.count)) →
        ∃ t x u, exec (.routerTakesFrame .W) s = .next t ∧ channelExchange t c = some x ∧ x.code = code ∧
          x.state = .outbound ∧ x.role = some .block ∧ x.window = some w ∧ t.window w = some u ∧ u.state = .active ∧
          u.run = some r ∧ u.inHand = some b ∧ queued t p = queued s p ++
            [frameOf (s.channel c).ids.request (firstData (code :: k :: bytes))] ∧
          queued t .W = queued s .W ∧ t.store = s.store ∧ t.record = s.record) ∧
      (v.state = .active → (∃ z ∈ channelWriteBars s c, b.start < z.2 ∧ z.1 < b.start + b.count) →
        ∃ t, exec (.routerTakesFrame .W) s = .next t ∧ channelExchange t c = none ∧ t.window w = none ∧
          t.agent.attention.downloadEnded = true ∧ queued t p = queued s p ∧
          queued t .W = queued s .W ++ [(replyFrame s c code 0xE7).frame] ∧
          (∀ a l, v.range = some (a, l) → 1 ≤ v.reservations → occupied s < 128 → s.store.queue.length + 2 ≤ 16 →
            ∃ d e l', t.store.queue = s.store.queue ++ StoreRequest.append d :: .append e :: l' ∧
              d.detail = .transferRefused b.start b.count .regionBarred ∧
              e.detail = .downloadEnded a l r.remaining .aborted .regionBarred))) ∧
    ((bytes = [] ∨ k.toNat = r.expected ∧ (r.bmax < bytes.length ∨ r.remaining < bytes.length)) → ∃ t q,
      exec (.routerTakesFrame .W) s = .next t ∧ noted s (.transferRefused r.next bytes.length .outOfWindow)
        (some v.grant) (some v.slot) (some (c, (s.channel c).label)) q ∧ t.store = q.store ∧ t.record = q.record ∧
      channelExchange t c = none ∧ t.window w = some (unlinkedWindow v) ∧ queued t p = queued s p ∧
      queued t .W = queued s .W ++ [(replyFrame s c code 0xE8).frame]) ∧
    (bytes ≠ [] → k.toNat ≠ r.expected →
      (∀ d, r.last = some d → ¬(k.toNat = d.counter ∧ bytes.length = d.count)) → ∃ t,
      exec (.routerTakesFrame .W) s = .next t ∧ t.store = s.store ∧ t.record = s.record ∧ channelExchange t c = none ∧
      t.window w = some (unlinkedWindow v) ∧ queued t p = queued s p ∧
      queued t .W = queued s .W ++ [(replyFrame s c code 0xE9).frame])) ∧
  (∀ (c : Fin 16) (f : Frame) (rest : List Frame) (code : Byte) (more : List Byte) (k : Nat) (w : Fin 2) (v : Window)
      (s : State),
    exchangeLaw s → ToolSide s c f rest → hasRoom s .W → (s.port (netPort (s.channel c).port)).status = .active →
    f.data = byte (64 + k) :: code :: more → 1 ≤ k → k ≤ 63 → more.length = 6 → channelExchange s c = none →
    classOf s code = some { cls := .reprogram, role := some .block } → windowOn s c = some (w, v) →
    v.state = .active ∨ v.state = .suspended →
    ∃ t x b, exec (.routerTakesFrame .W) s = .next t ∧
      t.exchanges = s.exchanges ++ [Exchange.channel x] ∧ x.channel = c ∧
      x.code = code ∧ x.state = .staging ∧ x.role = some .block ∧ x.window = some w ∧ x.seg.count = k ∧
      x.seg.next = 1 ∧ x.seg.len = 7 ∧ t.inspector.buffers.get b = code :: more ∧
      (b = 1 ↔ ∃ u y, s.window u = some y ∧ y.buffer = some 0) ∧
      (v.state = .active → x.seg.phase = .followsDue ∧ x.seg.allow = .rest ∧ x.seg.gap = 0 ∧
        t.window w = some { v with idle := none, buffer := some b } ∧ queued t .W = queued s .W ++
          [frameOf (s.channel c).ids.response [byte 192, byte 0, byte 0]]) ∧
      (v.state = .suspended → x.seg.phase = .paceDue ∧
        t.window w = some { v with idle := none, buffer := some b, hold := some 2000 } ∧
        queued t .W = queued s .W ++
          [frameOf (s.channel c).ids.response [byte 192, byte 1, byte 0]])) ∧
  (∀ (c : Fin 16) (f : Frame) (rest : List Frame) (i : Nat) (bytes : List Byte) (x : ChannelExchange) (w : Fin 2)
      (v : Window) (b : Fin 2) (s : State),
    exchangeLaw s → ToolSide s c f rest → channelExchange s c = some x → x.state = .staging → x.window = some w →
    s.window w = some v → v.buffer = some b → x.seg.phase = .followsDue → x.seg.allow = .rest → x.seg.next = i →
    i < x.seg.count → x.seg.count ≤ 63 → f.data = byte (128 + i) :: bytes → bytes.length = 7 →
    exec (.routerTakesFrame .W) s = .next (setChannelExchange
      { x with seg := { x.seg with next := i + 1, len := x.seg.len + 7, timer := some 1000 } }
      { taken s .W rest with inspector := { s.inspector with
          buffers := put s.inspector.buffers b (s.inspector.buffers.get b ++ bytes) } })) ∧
  (∀ (c : Fin 16) (f : Frame) (rest : List Frame) (x : ChannelExchange) (s : State),
    channelExchange s c = some x →
    (∀ ctl more w v, exchangeLaw s → ToolSide s c f rest → hasRoom s .W → f.data = ctl :: more → 128 ≤ ctl.toNat →
      x.state = .stagedHold → x.role = some .block → x.window = some w → s.window w = some v →
      v.state = .active ∨ v.state = .suspended →
      ∃ t, exec (.routerTakesFrame .W) s = .next t ∧ t.exchanges = s.exchanges.eraseP (isChannel x.id) ∧
        t.window w = some (unlinkedWindow v) ∧ queued t .W = queued s .W ++ [(replyFrame s c x.code 0xE6).frame] ∧
        t.store = s.store ∧ t.record = s.record) ∧
    (∀ p, ControllerSide s c f rest → x.state = .staging ∨ x.state = .stagedHold → p = netPort (s.channel c).port →
      exec (.routerTakesFrame p) s = .next (s.setPort p { s.port p with
        rx := rest
        counters := { (s.port p).counters with late := min 65535 ((s.port p).counters.late + 1) } }))) ∧
  (∀ (w : Fin 2) (v : Window) (x : ChannelExchange) (i : Fin 2) (b : HandBlock) (p : Port) (s : State),
    s.part.awake = true → exchangeLaw s → s.lines.ignon = false → s.window w = some v →
    (∀ u, u ≠ w → s.window u = none) → v.state = .suspended → linkedExchange s w = some x → x.channel = v.channel →
    (s.tables.policies.get 4).required &&& ~~~(conditions s ||| 16) = 0 → hasRoom s .W →
    p = netPort (s.channel v.channel).port → hasRoom s p →
    (x.state = .stagedHold → v.inHand = some b → v.buffer = some i →
      (∀ z ∈ channelWriteBars s v.channel, ¬(b.start < z.2 ∧ z.1 < b.start + b.count)) →
      ∃ t y, exec (.ignonChange true) s = .next t ∧
        t.window w = some { v with state := .active, grace := none, hold := none } ∧
        channelExchange t v.channel = some y ∧ y.id = x.id ∧ y.state = .outbound ∧ y.window = some w ∧
        queued t p = queued s p ++ [frameOf (s.channel v.channel).ids.request (firstData (s.inspector.buffers.get i))] ∧
        t.store = s.store ∧ t.record = s.record) ∧
    (x.state = .stagedHold → v.inHand = some b → v.run ≠ none →
      (∃ z ∈ channelWriteBars s v.channel, b.start < z.2 ∧ z.1 < b.start + b.count) →
      ∃ t, exec (.ignonChange true) s = .next t ∧ t.window w = none ∧ channelExchange t v.channel = none ∧
        t.agent.attention.downloadEnded = true ∧ queued t p = queued s p ∧
        queued t .W = queued s .W ++ [(replyFrame s v.channel x.code 0xE7).frame]) ∧
    (x.state = .staging → x.seg.phase = .paceDue →
      ∃ t y, exec (.ignonChange true) s = .next t ∧
        t.window w = some { v with state := .active, grace := none, hold := none } ∧
        channelExchange t v.channel = some y ∧ y.id = x.id ∧ y.state = .staging ∧ y.seg.phase = .followsDue ∧
        y.seg.allow = .rest ∧ y.seg.gap = 0 ∧ queued t .W = queued s .W ++
          [frameOf (s.channel v.channel).ids.response [byte 192, byte 0, byte 0]])) ∧
  (∀ (c : Fin 16) (f : Frame) (rest : List Frame) (code : Byte) (more : List Byte) (w : Fin 2) (v : Window)
      (r : WindowRun) (p : Port) (s : State),
    exchangeLaw s → ToolSide s c f rest → hasRoom s .W → p = netPort (s.channel c).port → hasRoom s p →
    channelExchange s c = none → f.data = byte 0 :: code :: more → windowOn s c = some (w, v) → v.run = some r →
    classOf s code = some { cls := .reprogram, role := some .closing } → v.state = .active ∨ v.state = .suspended →
    (r.remaining ≠ 0 → ∃ t, exec (.routerTakesFrame .W) s = .next t ∧ t.exchanges = s.exchanges ∧
      t.window w = some (unlinkedWindow v) ∧ queued t p = queued s p ∧
      queued t .W = queued s .W ++ [(replyFrame s c code 0xEA).frame] ∧ t.store = s.store) ∧
    (r.remaining = 0 → ∃ t x, exec (.routerTakesFrame .W) s = .next t ∧
      t.exchanges = s.exchanges ++ [Exchange.channel x] ∧ x.channel = c ∧ x.code = code ∧ x.state = .awaiting ∧
      x.role = some .closing ∧ x.window = some w ∧
      x.timer = .pendingSend ∧ t.window w = some { v with state := .closing, grace := none, idle := none, hold := none } ∧
      queued t p = queued s p ++ [f] ∧ t.store = s.store)) ∧
  (∀ (c : Fin 16) (f : Frame) (rest : List Frame) (tail msg : List Byte) (x : ChannelExchange) (w : Fin 2) (v : Window)
      (p : Port) (s : State),
    exchangeLaw s → ToolSide s c f rest → hasRoom s .W → p = netPort (s.channel c).port → hasRoom s p →
    channelExchange s c = some x → linkedExchange s w = some x → x.state = .inbound → x.window = some w →
    s.window w = some v → v.channel = c → x.seg.phase = .followsDue → x.seg.next = 1 → x.seg.count = 1 →
    f.data = byte 129 :: tail → 1 ≤ tail.length → tail.length ≤ 7 → msg = x.gathered ++ tail →
    ∀ refused : State → Nat → Prop, (∀ t n, refused t n ↔ exec (.routerTakesFrame .W) s = .next t ∧
      t.exchanges.length + 1 = s.exchanges.length ∧ channelExchange t c = none ∧ queued t p = queued s p ∧
      queued t .W = queued s .W ++ [(replyFrame s c x.code n).frame]) →
    ∀ passed : State → Prop, (∀ t, passed t ↔ exec (.routerTakesFrame .W) s = .next t ∧
      queued t p = queued s p ++ [f] ∧ queued t .W = queued s .W ∧ t.store = s.store ∧ t.record = s.record ∧
      channelExchange t c = some { x with
        state := .awaiting, seg := x.seg.reset, timer := .pendingSend, extended := false, gathered := [] }) →
    (∀ (code area : Byte) (a l : Nat) (g : Grant) (m : RegionMap), x.role = some .opening → v.state = .openPending →
      g ∈ s.grants.grants → grantNumbersDistinct s → g.number = v.grant → g.binding = .pending w → g.state = .active →
      1 ≤ v.reservations → s.store.queue.length < 16 → a < 2 ^ 32 → l < 2 ^ 32 → m = s.tables.maps.get c →
      ∀ undone : State → Prop, (∀ t, undone t ↔ t.window w = none ∧
        t.grants.grants = grantsWith s g.number (fun y => { y with binding := .none })) →
      (msg.length ≠ 10 → ∃ t, refused t 0xE8 ∧ undone t ∧ t.store = s.store ∧ t.record = s.record) ∧
      (msg = code :: area :: (beBytes 4 a ++ beBytes 4 l) → ∀ inside hits : Prop,
        (inside ↔ m.present = true ∧ 1 ≤ l ∧ a + l ≤ 2 ^ 32 ∧ m.base ≤ a ∧ a + l ≤ m.base + 2 ^ m.exponent) →
        (hits ↔ ∃ z ∈ channelWriteBars s c, a < z.2 ∧ z.1 < a + l) →
        (¬inside → ∃ t, refused t 0xE8 ∧ undone t ∧
          t.store.queue = s.store.queue ++ [StoreRequest.append (entryNow s
          (.transferRefused a l .outOfWindow) (some v.grant) (some v.slot) (some (c, (s.channel c).label)))]) ∧
        (inside → hits → ∃ t, refused t 0xE7 ∧ undone t ∧
          t.store.queue = s.store.queue ++ [StoreRequest.append (entryNow s
          (.transferRefused a l .regionBarred) (some v.grant) (some v.slot) (some (c, (s.channel c).label)))]) ∧
        (inside → ¬hits → ∃ t, passed t ∧ t.window w = some { v with range := some (a, l) } ∧
          t.grants = s.grants))) ∧
    (∀ (code : Byte) (a n lo len : Nat) (r : WindowRun), x.role = some .erase → v.run = some r →
      v.range = some (lo, len) → v.state = .active ∨ v.state = .suspended → a < 2 ^ 32 → n < 2 ^ 32 →
      ∀ kept : State → Prop, (∀ t, kept t ↔ t.window w = some (unlinkedWindow v)) →
      (msg.length ≠ 9 → ∃ t, refused t 0xE8 ∧ kept t ∧ t.store = s.store) ∧
      (msg = code :: (beBytes 4 a ++ beBytes 4 n) →
        (v.state = .suspended → ∃ t, refused t 0xE2 ∧ kept t ∧ t.store = s.store) ∧
        (v.state = .active → r.erase = false → ∃ t, refused t 0xE9 ∧ kept t ∧ t.store = s.store) ∧
        (v.state = .active → r.erase = true → ¬(1 ≤ n ∧ lo ≤ a ∧ a + n ≤ lo + len) → ∃ t q, refused t 0xE8 ∧ kept t ∧
          noted s (.transferRefused a n .outOfWindow) (some v.grant) (some v.slot) (some (c, (s.channel c).label)) q ∧
          t.store = q.store ∧ t.record = q.record) ∧
        (v.state = .active → r.erase = true → 1 ≤ n → lo ≤ a → a + n ≤ lo + len →
          ((∃ z ∈ channelEraseBars s c, a < z.2 ∧ z.1 < a + n) → ∃ t, refused t 0xE7 ∧ t.window w = none ∧
            t.agent.attention.downloadEnded = true) ∧
          ((∀ z ∈ channelEraseBars s c, ¬(a < z.2 ∧ z.1 < a + n)) → ∃ t, passed t ∧ t.window w = some v)))))

/-- ROUTER_TAKES_FRAME on the unit that answers a step of a download. The positive answer to a Download Block (R62, R122): the
reply goes to the tool, the exchange closes, the block in hand is dropped, and a new block has moved the window on: next
and remaining by its length, the counter to the one after it modulo 256, the last completed block, and erase no longer
permitted, so that next plus remaining stays what it was (the law of R112). A repeat has changed none of these. The idle
timer is preset to 30 s (R127). The answer to an Open (R115, R116): a positive one of at least 3 bytes is passed with Bmax
in bytes 1 and 2, and the window is ACTIVE at A with L remaining, or SUSPENDED at its first moment; DOWNLOAD_OPENED goes
into one reservation, and the grant is BOUND. A shorter positive one is withheld, BROKEN (0xE6) answers the tool, and the
window ends FAILED; a negative or other one is passed, and the window ends without an entry, its grant unbound. The
answer to a Close (R117, R123): it is passed, and the window ends COMPLETE, or FAILED with cause CLOSE_REFUSED, with its
entry; REPROGRAM leaves the bound grant, which keeps other classes here. -/
def Obligations.PositiveBlockReplyAdvancesTheWindow : Prop :=
  (∀ (c : Fin 16) (f : Frame) (rest : List Frame) (more : List Byte) (x : ChannelExchange) (w : Fin 2) (v : Window)
    (r : WindowRun) (b : HandBlock) (s : State), exchangeLaw s → ControllerSide s c f rest → hasRoom s .W →
    channelExchange s c = some x → x.state = .awaiting → x.role = some .block → x.window = some w →
    s.window w = some v → v.state = .active → v.run = some r → v.inHand = some b → b.count ≤ r.remaining →
    x.code.toNat ≤ 0x7E → f.data = byte 0 :: (x.code + 0x80) :: more → more.length ≤ 6 →
    ∃ t r', exec (.routerTakesFrame (netPort (s.channel c).port)) s = .next t ∧
      t.exchanges = s.exchanges.eraseP (isChannel x.id) ∧ queued t .W = queued s .W ++ [f] ∧
      t.window w = some { v with run := some r', inHand := none, buffer := none, hold := none, idle := some 30000 } ∧
      r'.next + r'.remaining = r.next + r.remaining ∧
      (b.again = true → r' = r) ∧
      (b.again = false → r' = { r with
        next := r.next + b.count, remaining := r.remaining - b.count, expected := (b.counter + 1) % 256,
        last := some { start := b.start, count := b.count, counter := b.counter }, erase := false }) ∧
      t = { s with ports := t.ports, exchanges := t.exchanges, inspector := t.inspector }) ∧
  (∀ (c : Fin 16) (f : Frame) (rest : List Frame) (msg : List Byte) (x : ChannelExchange) (w : Fin 2) (v : Window)
      (a l : Nat) (g : Grant) (s : State),
    exchangeLaw s → ControllerSide s c f rest → hasRoom s .W → channelExchange s c = some x → x.state = .awaiting →
    x.window = some w → linkedExchange s w = some x → s.window w = some v → v.channel = c → v.range = some (a, l) →
    1 ≤ v.reservations → s.store.queue.length < 16 → x.code.toNat ≤ 0x7E → f.data = byte 0 :: msg → msg ≠ [] →
    msg.length ≤ 7 → (¬∃ more, msg = byte 0xFF :: x.code :: byte 0x2F :: more) → grantNumbersDistinct s →
    g ∈ s.grants.grants → g.number = v.grant → g.state = .active →
    ∀ (p : Port) (closed : State → Prop) (positive : Prop), p = netPort (s.channel c).port →
    (positive ↔ msg.head? = some (x.code + 0x80)) →
    (∀ t, closed t ↔ exec (.routerTakesFrame p) s = .next t ∧ channelExchange t c = none ∧
      t.exchanges.length + 1 = s.exchanges.length) →
    ∀ wrote : State → Detail → Prop, (∀ t d, wrote t d ↔
      t.store.queue = s.store.queue ++ [StoreRequest.append (entryNow s d
      (some v.grant) (some v.slot) (some (c, (s.channel c).label)))]) →
    (x.role = some .opening → v.state = .openPending → v.run = none → g.binding = .pending w →
      (∀ hi lo more bmax, msg = (x.code + 0x80) :: hi :: lo :: more →
        bmax = max 1 (min 446 (hi.toNat * 256 + lo.toNat)) →
        ∃ t u, closed t ∧ queued t .W = queued s .W ++ [{ f with
            data := byte 0 :: (x.code + 0x80) :: byte (bmax / 256) :: byte (bmax % 256) :: more }] ∧
          t.window w = some u ∧ u = { unlinkedWindow v with
            state := u.state, grace := u.grace, reservations := v.reservations - 1,
            run := some { bmax := bmax, next := a, remaining := l, expected := 1, last := none, erase := true } } ∧
          ((s.tables.policies.get 4).required &&& ~~~(conditions s) = 0 → u.state = .active ∧ u.grace = v.grace) ∧
          ((s.tables.policies.get 4).required &&& ~~~(conditions s) ≠ 0 →
            u.state = .suspended ∧ u.grace = some 5000) ∧
          wrote t (.downloadOpened a l) ∧
          t.grants.grants = grantsWith s g.number (fun y => { y with binding := .bound w })) ∧
      (positive → msg.length ≤ 2 → ∃ t, closed t ∧ queued t .W = queued s .W ++ [(replyFrame s c x.code 0xE6).frame] ∧
        t.window w = none ∧ t.agent.attention.downloadEnded = true ∧ wrote t (.downloadEnded a l l .failed .broken) ∧
        t.grants.grants = grantsWith s g.number (fun y => { y with binding := .none })) ∧
      (¬positive → ∃ t, closed t ∧ queued t .W = queued s .W ++ [f] ∧ t.window w = none ∧ t.store = s.store ∧
        t.grants.grants = grantsWith s g.number (fun y => { y with binding := .none }))) ∧
    (∀ r, x.role = some .closing → v.state = .closing → v.run = some r → g.binding = .bound w →
      g.classes &&& ~~~bitReprogram ≠ 0 →
      ∃ t, closed t ∧ queued t .W = queued s .W ++ [f] ∧ t.window w = none ∧
        t.agent.attention.downloadEnded = true ∧
        (positive → wrote t (.downloadEnded a l r.remaining .complete .none)) ∧
        (¬positive → wrote t (.downloadEnded a l r.remaining .failed .closeRefused)) ∧
        t.grants.grants = grantsWith s g.number
          (fun y => { y with binding := .ended, classes := y.classes &&& ~~~bitReprogram })))

/-- GRACE_TIMER_EXPIRY and IDLE_TIMER_EXPIRY (R117, R125, R127): a window that has been ACTIVE and has no linked exchange
ends ABORTED, cause CONDITION or IDLE. A DOWNLOAD_ENDED entry goes into its reservation, the attention condition is
raised, an overlay of its channel becomes the working map, and REPROGRAM leaves the bound grant, which keeps other
classes here and stays. A stopped timer changes nothing, and a running one need not stand at 0 (log 4). -/
def Obligations.GraceAndIdleTimersEndTheWindow : Prop :=
  ∀ (w : Fin 2) (s : State), s.part.awake = true →
    (∀ v, s.window w = some v → v.grace = none → exec (.graceTimerExpiry w) s = .next s) ∧
    (∀ v, s.window w = some v → v.idle = none → exec (.idleTimerExpiry w) s = .next s) ∧
    (∀ v r a l g, s.window w = some v → v.run = some r → v.range = some (a, l) → 1 ≤ v.reservations →
      s.store.queue.length < 16 → linkedExchange s w = none → grantNumbersDistinct s → g ∈ s.grants.grants →
      g.number = v.grant → g.binding = .bound w → g.state = .active → g.classes &&& ~~~bitReprogram ≠ 0 →
      ∀ cmd cause, (cmd = .graceTimerExpiry w ∧ cause = .condition ∧ v.grace.isSome = true ∨
        cmd = .idleTimerExpiry w ∧ cause = .idle ∧ v.idle.isSome = true) →
      ∃ t, exec cmd s = .next t ∧ t.window w = none ∧ (∀ u, u ≠ w → t.window u = s.window u) ∧
        t.store.queue = s.store.queue ++ [StoreRequest.append (entryNow s (.downloadEnded a l r.remaining .aborted cause)
          (some v.grant) (some v.slot) (some (v.channel, (s.channel v.channel).label)))] ∧
        t.record = { s.record with mark := (s.record.mark + 1) % 4294967296, unrecorded := 0 } ∧
        t.agent = { s.agent with attention := { s.agent.attention with downloadEnded := true } } ∧
        t.grants.grants = grantsWith s v.grant
          (fun y => { y with binding := .ended, classes := y.classes &&& ~~~bitReprogram }) ∧
        t.tables.maps.get v.channel =
          (s.inspector.overlays.get v.channel).getD (s.tables.maps.get v.channel) ∧
        t.inspector.overlays.get v.channel = none ∧ t.ports = s.ports ∧ t.meter = s.meter)

/-- HOLD_TIMER_EXPIRY and STALENESS_TIMER_EXPIRY. The hold timer is preset to 2 s again, and the tool gets a still-working
reply for a held block (R126), or a further wait for a lead that waits (R118). A signal whose timer has run out is STALE
and its timer stopped, value and availability kept (R83), and an ACTIVE window that watched its condition, true until
then, is SUSPENDED with 5 s of grace (R84, R125). Port W has room. A running timer need not stand at 0 (log 4). -/
def Obligations.HoldAndStalenessTimersAct : Prop :=
  ∀ s : State, s.part.awake = true →
    (∀ w v x left, s.window w = some v → linkedExchange s w = some x → v.hold = some left → hasRoom s .W →
      (x.state = .stagedHold → exec (.holdTimerExpiry w) s = .next (withReply
        (setWindow w (some { v with hold := some 2000 }) s) (replyFrame s x.channel x.code 0x2F))) ∧
      (x.state = .staging → x.seg.phase = .paceDue → exec (.holdTimerExpiry w) s = .next (withReply
        (setWindow w (some { v with hold := some 2000 }) s)
        (offered { id := (s.channel x.channel).ids.response, data := [byte 192, byte 1, byte 0] }
          (.pace x.channel) x.id .plain)))) ∧
    (∀ i left, (s.signals.get i).timer = some left → ∀ q,
      q = put s.signals i { s.signals.get i with fresh := false, timer := none } →
      ((∀ w, s.window w = none) → exec (.stalenessTimerExpiry i) s = .next { s with signals := q }) ∧
      (∀ w v, s.window w = some v → v.state = .active → condition s i = true →
        (s.tables.policies.get 4).required.getLsbD i.val = true →
        ∃ t, exec (.stalenessTimerExpiry i) s = .next t ∧ t.signals = q ∧
          t.window w = some { v with state := .suspended, grace := some 5000 } ∧
          t = { s with signals := q, inspector := t.inspector })) ∧
    (∀ i, (s.signals.get i).timer = none → exec (.stalenessTimerExpiry i) s = .next s)

/-! ### Management: replies -/

/-- What making a reply ready does, on which the statements about requests rest: the channel's request has its reply,
every other exchange is as it was, and nothing else changes. And how a request comes to wait for its row, by
ROUTER_TAKES_FRAME on the frames of a management channel (R52, R53, R56, R152 to R154, R163): without an exchange a unit
opens one in SERVING with its request complete, a lead one in RECEIVING, answered proceed, and any other frame changes
nothing. A request being gathered takes the follow expected, the last of which completes it; a wrong follow closes it and
is answered MALFORMED. A complete request has UNKNOWN_REQUEST, MALFORMED (a wrong length) or, while the Agent is
restarting, BUSY ready, or waits for its row (the place of BUSY is log 22). On a channel with an exchange a Status Read or
Attention Read, with the side answer absent, waits as a side answer; every other unit and every lead is answered BUSY, and
changes nothing; the identifier it is answered under is log 32. A malformed unit or an empty frame ends what is gathered
or sent on the channel (log 23). -/
def Obligations.ReadyReplyBelongsToItsRequest : Prop :=
  (∀ (s : State) (m : Mgmt) (x : MgmtExchange) (reply : List Byte), exchangeLaw s → mgmtExchange s m = some x →
    mgmtExchange (answer x.id reply s) m = some { x with work := .ready reply } ∧
    (∀ k, k ≠ m → mgmtExchange (answer x.id reply s) k = mgmtExchange s k) ∧
    (∀ c, channelExchange (answer x.id reply s) c = channelExchange s c) ∧
    answer x.id reply s = { s with exchanges := (answer x.id reply s).exchanges }) ∧
  (∀ (m : Mgmt) (f : Frame) (rest : List Frame) (p : Port) (q s : State), exchangeLaw s → MgmtSide s m f rest →
    p = mgmtPort m → q = taken s p rest → mgmtExchange s m = none →
    (∀ msg, f.data = byte 0 :: msg → msg ≠ [] → ∃ t x, exec (.routerTakesFrame p) s = .next t ∧
      t = { q with part := t.part, exchanges := t.exchanges } ∧ t.exchanges = s.exchanges ++ [Exchange.management x] ∧
      x.chan = m ∧ x.code = msg.headD 0 ∧ x.state = .serving ∧ x.response = (mgmtPair s m).response ∧
      x.buffer = msg ∧ requestJudged s msg x.work) ∧
    (∀ k msg, f.data = byte (64 + k) :: msg → 1 ≤ k → k ≤ 63 → msg.length = 7 → hasRoom s p →
      ∃ t x, exec (.routerTakesFrame p) s = .next t ∧
        t = { q with part := t.part, ports := t.ports, meter := t.meter, exchanges := t.exchanges } ∧
        t.exchanges = s.exchanges ++ [Exchange.management x] ∧ x.chan = m ∧ x.code = msg.headD 0 ∧ x.state = .receiving ∧
        x.response = (mgmtPair s m).response ∧ x.buffer = msg ∧ x.work = .unserved ∧ x.seg.phase = .followsDue ∧
        x.seg.count = k ∧ x.seg.next = 1 ∧ x.seg.allow = .rest ∧ x.seg.gap = 0 ∧ x.seg.len = 7 ∧
        queued t p = queued s p ++ [frameOf (mgmtPair s m).response [byte 192, byte 0, byte 0]]) ∧
    (∀ ctl more, f.data = ctl :: more → 128 ≤ ctl.toNat → (∀ id seg msg gap, sideOf s m ≠ .sending id seg msg gap) →
      exec (.routerTakesFrame p) s = .next q)) ∧
  (∀ (m : Mgmt) (f : Frame) (rest : List Frame) (x : MgmtExchange) (p : Port) (q s : State), exchangeLaw s →
    MgmtSide s m f rest → p = mgmtPort m → q = taken s p rest → mgmtExchange s m = some x →
    (∀ msg, f.data = byte 0 :: msg → msg.head? = some (byte 2) ∨ msg.head? = some (byte 3) → sideOf s m = .absent →
      ∃ t, exec (.routerTakesFrame p) s = .next t ∧ sideOf t m = .waiting msg ∧
        (∀ k, k ≠ m → sideOf t k = sideOf s k) ∧
        t = { q with agent := { s.agent with sideW := t.agent.sideW, sideC := t.agent.sideC } }) ∧
    (∀ code more k, f.data = byte 0 :: code :: more ∧
          ((code ≠ byte 2 ∧ code ≠ byte 3) ∨ sideOf s m ≠ .absent) ∨
        f.data = byte (64 + k) :: code :: more ∧ 1 ≤ k ∧ k ≤ 63 ∧ more.length = 6 → hasRoom s p →
      ∃ t, exec (.routerTakesFrame p) s = .next t ∧ t = { q with ports := t.ports, meter := t.meter } ∧
        queued t p = queued s p ++
          [frameOf (mgmtPair s m).response [byte 0, byte 0xFF, code, byte 0x04]]) ∧
    (∀ i bytes, x.state = .receiving → x.work = .unserved → x.buffer.head? = some x.code → i ≤ 63 →
      f.data = byte (128 + i) :: bytes → 1 ≤ bytes.length → bytes.length ≤ 7 → (i < x.seg.count → bytes.length = 7) →
      (x.seg.phase = .followsDue → x.seg.next = i →
        (i ≠ x.seg.count → x.seg.allow = .rest → exec (.routerTakesFrame p) s = .next (setMgmtExchange { x with
          buffer := x.buffer ++ bytes
          seg := { x.seg with next := i + 1, len := x.seg.len + bytes.length, timer := some 1000 } } q)) ∧
        (i = x.seg.count → ∃ work, requestJudged s (x.buffer ++ bytes) work ∧
          exec (.routerTakesFrame p) s = .next (setMgmtExchange { x with
            state := .serving, seg := x.seg.reset, buffer := x.buffer ++ bytes, work := work } q))) ∧
      (x.seg.next ≠ i → hasRoom s p → ∃ t, exec (.routerTakesFrame p) s = .next t ∧
        t = { q with ports := t.ports, meter := t.meter, exchanges := t.exchanges, agent := t.agent } ∧
        t.exchanges = s.exchanges.eraseP (isMgmt x.id) ∧
        queued t p = queued s p ++ [frameOf x.response [byte 0, byte 0xFF, x.code, byte 0x0D]])) ∧
    (f.data = [] ∨ f.data = [byte 0] → ∃ t, exec (.routerTakesFrame p) s = .next t ∧
      (∀ id seg msg gap, sideOf s m = .sending id seg msg gap → sideOf t m = .absent) ∧
      (x.state ≠ .serving → mgmtExchange t m = none) ∧ (x.state = .serving → mgmtExchange t m = some x)))

/-- MANAGEMENT_REPLY_BEGINS (R39, R53, R56, R152, R153; log 7): the reply of a request in SERVING begins unless the channel's
side answer is SENDING: a reply of up to 7 bytes as a unit, a longer one as a lead, under the response identifier of the
pair the request came on, and the exchange is ANSWERING. The queue has room. And the tool's pace frames for it, by
ROUTER_TAKES_FRAME (R37, R47, R48, R53, R152, R153), and for a side answer that is SENDING, to which they go first: a
proceed, taken as it reads, has the next follows offered in index order, one under a gap, otherwise as many as the
allowance gives up to the last, the one that spends it giving the turn away with the timer stopped; a wait presets the
segment timer to 1 s; a refuse, or a pace frame when none is due, closes the exchange, and makes the side answer absent.
That a pace frame ends a message whose one unit still waits is log 54, the identifier of a side answer log 32, what a
follow's sending brings about log 14, a wait taken before the frame that gave the turn is sent log 55. -/
def Obligations.ReadyReplyBeginsAfterTheSideAnswer : Prop :=
  (∀ (m : Mgmt) (x : MgmtExchange) (reply : List Byte) (s : State), s.part.awake = true → exchangeLaw s →
    mgmtExchange s m = some x → x.state = .serving → x.work = .ready reply →
    ((∃ id seg msg gap, sideOf s m = .sending id seg msg gap) → exec (.managementReplyBegins m) s = .next s) ∧
    ((∀ id seg msg gap, sideOf s m ≠ .sending id seg msg gap) → hasRoom s (mgmtPort m) →
      ∃ t, exec (.managementReplyBegins m) s = .next t ∧
        t = { s with part := t.part, ports := t.ports, meter := t.meter, exchanges := t.exchanges } ∧
        (reply.length ≤ 7 →
          queued t (mgmtPort m) = queued s (mgmtPort m) ++ [frameOf x.response (byte 0 :: reply)] ∧
          mgmtExchange t m = some { x with
            state := .answering, gapTimer := none, seg := { x.seg.reset with len := reply.length } }) ∧
        (7 < reply.length →
          queued t (mgmtPort m) = queued s (mgmtPort m) ++
            [frameOf x.response (byte (64 + (reply.length - 1) / 7) :: reply.take 7)] ∧
          mgmtExchange t m = some { x with
            state := .answering, gapTimer := none,
            seg := { x.seg with
              phase := .paceDue, count := (reply.length - 1) / 7, next := 1, len := 7, timer := none,
              turn := s.part.stamp } }))) ∧
  (∀ (m : Mgmt) (f : Frame) (rest : List Frame) (ctl code gap : Byte) (p : Port) (q s : State), exchangeLaw s →
    MgmtSide s m f rest → paceFrame f ctl code gap → p = mgmtPort m → q = taken s p rest →
    (∀ x reply, mgmtExchange s m = some x → x.state = .answering → x.work = .ready reply →
      (∀ id seg msg left, sideOf s m ≠ .sending id seg msg left) →
      (∀ g n, code = 0 → x.seg.phase = .paceDue → 1 ≤ x.seg.next → x.seg.next ≤ x.seg.count → x.seg.count ≤ 63 →
        g = resumed x.seg ctl gap → n = followsNow g → roomFor s p n → ∃ t, exec (.routerTakesFrame p) s = .next t ∧
          followsOffered s t p x.response (.management m .exchange) x.id reply g n ∧ (t.port p).rx = rest ∧
          mgmtExchange t m = some { x with gapTimer := none, seg := afterFollows g reply s.part.stamp n } ∧
          t = { q with part := t.part, ports := t.ports, meter := t.meter, exchanges := t.exchanges }) ∧
      (code = 1 → x.seg.phase = .paceDue → exec (.routerTakesFrame p) s = .next
        (setMgmtExchange { x with seg := { x.seg with timer := some 1000 } } q)) ∧
      (code = 2 ∨ x.seg.phase ≠ .paceDue → exec (.routerTakesFrame p) s = .next
        { q with exchanges := s.exchanges.eraseP (isMgmt x.id) })) ∧
    (∀ id seg msg left, sideOf s m = .sending id seg msg left →
      (∀ g n, code = 0 → seg.phase = .paceDue → 1 ≤ seg.next → seg.next ≤ seg.count → seg.count ≤ 63 →
        g = resumed seg ctl gap → n = followsNow g → roomFor s p n → ∃ t, exec (.routerTakesFrame p) s = .next t ∧
          followsOffered s t p (mgmtPair s m).response (.management m .side) id msg g n ∧ (t.port p).rx = rest ∧
          sideOf t m = .sending id (afterFollows g msg s.part.stamp n) msg none ∧
          (∀ k, k ≠ m → sideOf t k = sideOf s k) ∧
          t = { q with part := t.part, ports := t.ports, meter := t.meter, agent := t.agent }) ∧
      (code = 1 → seg.phase = .paceDue → exec (.routerTakesFrame p) s = .next
        (setSide m (.sending id { seg with timer := some 1000 } msg left) q)) ∧
      (code = 2 ∨ seg.phase ≠ .paceDue → exec (.routerTakesFrame p) s = .next (setSide m .absent q))))

/-- SIDE_ANSWER_BEGINS (R13, R153, R156, R157): a WAITING side answer waits while the channel's exchange is ANSWERING;
otherwise its content is taken and it is SENDING. An Attention Read is a unit with the pending condition of highest
priority and the number still pending, and a latched condition so returned is cleared. A Status Read is 45 bytes, so a
lead with 6 follows to come, and both change flags are cleared. The queue has room. The identifier of a side answer is
log 32, the layout of the Status Read log 25. -/
def Obligations.SideAnswerTakesItsContentAsItBegins : Prop :=
  ∀ (m : Mgmt) (s : State), s.part.awake = true → hasRoom s (mgmtPort m) →
    (∀ request x, sideOf s m = .waiting request → mgmtExchange s m = some x → x.state = .answering →
      exec (.sideAnswerBegins m) s = .next s) ∧
    ((∀ x, mgmtExchange s m = some x → x.state ≠ .answering) →
      (sideOf s m = .waiting [byte 3] → ∃ t n, exec (.sideAnswerBegins m) s = .next t ∧ firstRaised s n ∧
        queued t (mgmtPort m) = queued s (mgmtPort m) ++
          [frameOf (mgmtPair s m).response [byte 0, byte 0x83, byte n, byte (leftPending s n)]] ∧
        attentionTaken s t n ∧ (∃ id seg, sideOf t m = .sending id seg [byte 0x83, byte n, byte (leftPending s n)] none) ∧
        t = { s with part := t.part, ports := t.ports, meter := t.meter, agent := t.agent }) ∧
      (sideOf s m = .waiting [byte 2] → ∃ t, exec (.sideAnswerBegins m) s = .next t ∧
        (statusFields s).length = 44 ∧
        queued t (mgmtPort m) = queued s (mgmtPort m) ++
          [frameOf (mgmtPair s m).response (byte (64 + 6) :: byte 0x82 :: (statusFields s).take 6)] ∧
        t.lines = { s.lines with tooldetChanged := false, ignonChanged := false } ∧
        (∃ id seg, sideOf t m = .sending id seg (byte 0x82 :: statusFields s) none ∧ seg.phase = .paceDue ∧
          seg.count = 6) ∧
        t = { s with part := t.part, ports := t.ports, meter := t.meter, lines := t.lines, agent := t.agent }))

/-- IDENTITY_READ, STATUS_READ and ATTENTION_READ, taken on either channel (R13, R155, R156, R157, R168 to R170). The
seconds of the lockout and the bytes of the lines, the flags and the signals are choices (log 25), and so is one byte for the
capacity of FIFOs and queues (log 57). -/
def Obligations.ReadsOfThePartAreAnswered : Prop :=
  ∀ (m : Mgmt) (x : MgmtExchange) (s : State),
    (RequestWaits s m 0x01 x → exec (.identityRead m) s = .next (answer x.id
      ([byte 0x81, byte 0x61, byte 0x30, Config.revision] ++ beBytes 8 Config.serial.toNat ++
        [byte 3, byte 32, byte 16, byte 4, byte 32, byte 3, byte 8, byte 8, byte 2, byte 2, byte 1, byte 0xC0,
          byte 128, byte 16]) s)) ∧
    (RequestWaits s m 0x02 x → exec (.statusRead m) s = .next (answer x.id
      ([byte 0x82, byte 0, portStatusByte s.ports.w.status, portStatusByte s.ports.e.status,
          portStatusByte s.ports.c.status] ++ beBytes 4 s.record.partTime ++
        [yesNoByte s.lines.ignon, yesNoByte s.lines.stlock, yesNoByte s.lines.tooldet,
          yesNoByte s.lines.tooldetChanged, yesNoByte s.lines.ignonChanged, byte (conditions s).toNat] ++
        s.signals.toList.flatMap (fun g => [yesNoByte (!g.fresh), yesNoByte (!g.available)]) ++
        [byte s.grants.failures] ++ beBytes 2 (lockoutSeconds s) ++
        [byte s.grants.grants.length, byte ((s.window 0).isSome.toNat + (s.window 1).isSome.toNat),
          yesNoByte (decide (s.store.queue ≠ [])), byte s.store.queue.length] ++
        s.store.fallback.toList.map yesNoByte ++ beBytes 2 (liveSet s) ++ [lockByte s.tables.ports.lock] ++
        [byte s.record.kept.length, byte (settling s).length, byte (reservations s)] ++ beBytes 2 s.record.unrecorded)
      { s with lines := { s.lines with tooldetChanged := false, ignonChanged := false } })) ∧
    (RequestWaits s m 0x03 x → ∃ t n, exec (.attentionRead m) s =
        .next (answer x.id [byte 0x83, byte n, byte (leftPending s n)] t) ∧ firstRaised s n ∧ attentionTaken s t n ∧
      t = { s with agent := { s.agent with attention := t.agent.attention } })

/-- COUNTERS_READ, TRAFFIC_LIST, GRANT_LIST and TABLE_READ, taken on either channel, change nothing but the reply made
ready (R10, R70, R105, R130, R155, R158, R168 to R171); a port, table, entry or copy that does not exist is refused
BAD_ENTRY. The items of the lists have the bytes of their layouts, a named value as its place in its list; that they
show no reservation is log 51. A working signal is read with its state, a value that is absent as all ones. The layouts of the
absent challenge and of the signal state are choices (log 25). -/
def Obligations.ListsAndTablesAreRead : Prop :=
  (∀ y : ChannelExchange, (channelItem y).length = 19 ∧
    channelItem y = [byte 0, byte y.channel.val, y.code,
        place [.observe, .clear, .actuate, .configure, .reprogram, .forbidden] y.cls,
        orOnes y.role (place [.opening, .block, .closing, .erase, .other]),
        place [.inbound, .staging, .stagedHold, .outbound, .awaiting, .replying] y.state,
        place [.none, .paceDue, .followsDue] y.seg.phase, byte y.seg.count, byte y.seg.next,
        (channelItem y).getD 9 0, byte y.seg.gap] ++ beBytes 2 y.seg.len ++
      ((channelItem y).drop 13).take 3 ++
      [if y.extended then byte 1 else byte 0, byte y.reloads, orOnes y.window (fun w => byte w.val)] ∧
    (y.seg.allow = .rest → (channelItem y)[9]? = some (byte 0xFF)) ∧
    (∀ n, y.seg.allow = .num n → (channelItem y)[9]? = some (byte n)) ∧
    (y.timer = .stopped → ((channelItem y).drop 13).take 3 = [byte 0, byte 0xFF, byte 0xFF]) ∧
    (y.timer = .pendingSend → ((channelItem y).drop 13).take 3 = [byte 1, byte 0xFF, byte 0xFF]) ∧
    (∀ n, y.timer = .running n → ((channelItem y).drop 13).take 3 = byte 2 :: beBytes 2 n)) ∧
  (∀ y : MgmtExchange, (mgmtItem y).length = 4 ∧ mgmtItem y = [byte 1, place [.W, .C] y.chan, y.code,
    place [.receiving, .serving, .answering] y.state]) ∧
  (∀ (n : Fin 2) (v : Window), (windowItem n v).length = 37 ∧
    (windowItem n v).take 5 = [byte 2, byte n.val, byte v.channel.val, byte v.grant,
      place [.openPending, .active, .suspended, .closing] v.state] ∧
    (∀ a l, v.range = some (a, l) → ((windowItem n v).drop 5).take 8 = beBytes 4 a ++ beBytes 4 l) ∧
    (v.range = none → ((windowItem n v).drop 5).take 8 = List.replicate 8 0) ∧
    (∀ r, v.run = some r → ((windowItem n v).drop 13).take 12 =
        beBytes 2 r.bmax ++ beBytes 5 r.next ++ beBytes 4 r.remaining ++ [byte r.expected] ∧
      (∀ d, r.last = some d → ((windowItem n v).drop 25).take 4 = [byte 1, byte d.counter] ++ beBytes 2 d.count) ∧
      (r.last = none → ((windowItem n v).drop 25).take 4 = List.replicate 4 0) ∧
      (windowItem n v)[29]? = some (if r.erase then byte 1 else byte 0)) ∧
    (v.run = none → ((windowItem n v).drop 13).take 17 = List.replicate 17 0) ∧
    (windowItem n v).drop 30 = timerField v.grace ++ timerField v.idle ++ timerField v.hold ++
      [orOnes v.buffer (fun b => byte b.val)]) ∧
  (∀ g : Grant, (grantItem g).length = 16 ∧ (grantItem g).take 11 =
      [byte g.number, byte g.slot.val] ++ beBytes 2 g.channels.toNat ++ [byte g.classes.toNat] ++
        beBytes 2 g.granted ++ beBytes 2 g.remaining ++
        [byte g.extensions, place [.checking, .recording, .active, .held] g.state] ∧
    (g.binding = .none → (grantItem g)[11]? = some (byte 0)) ∧
    (∀ w : Fin 2, g.binding = .pending w → (grantItem g)[11]? = some (byte (1 * 16 + w.val))) ∧
    (∀ w : Fin 2, g.binding = .bound w → (grantItem g)[11]? = some (byte (2 * 16 + w.val))) ∧
    (g.binding = .ended → (grantItem g)[11]? = some (byte (3 * 16))) ∧
    (∀ a, g.activation = some a → (grantItem g).drop 12 = beBytes 4 a) ∧
    (g.activation = none → (grantItem g).drop 12 = List.replicate 4 0xFF)) ∧
  ∀ (m : Mgmt) (x : MgmtExchange) (s : State),
    (∀ n, n < 256 → RequestWaits s m 0x04 x → x.buffer = [byte 0x04, byte n] →
      (∀ p k, (n = 0 ∧ p = .W ∨ n = 1 ∧ p = .E ∨ n = 2 ∧ p = .C) → k = (s.port p).counters →
        exec (.countersRead m) s = .next (answer x.id ([byte 0x84, byte n] ++ beBytes 2 k.received ++
          beBytes 2 k.overrun ++ beBytes 2 k.unroutable ++ beBytes 2 k.late ++ beBytes 2 k.transmitted ++
          beBytes 2 k.discarded ++ beBytes 2 k.withdrawals) s)) ∧
      (3 ≤ n → exec (.countersRead m) s = .next (answer x.id [byte 0xFF, byte 0x04, byte 0x09] s))) ∧
    (RequestWaits s m 0x05 x → exec (.trafficList m) s = .next (answer x.id
      (byte 0x85 :: byte (s.exchanges.length + (s.window 0).isSome.toNat + (s.window 1).isSome.toNat) ::
        (s.exchanges.flatMap exchangeItem ++ ((s.window 0).map (windowItem 0)).getD [] ++
          ((s.window 1).map (windowItem 1)).getD [])) s)) ∧
    (RequestWaits s m 0x06 x → exec (.grantList m) s = .next (answer x.id
      (byte 0x86 :: byte s.grants.grants.length :: (s.grants.grants.flatMap grantItem ++
        challengeBytes s.grants.challenge ++ s.grants.slots.toList.map (fun k => slotStateByte k.state))) s)) ∧
    (∀ k n copy, n < 256 → copy < 256 → RequestWaits s m 0x07 x →
      x.buffer = [byte 0x07, byte (tableNumber k), byte n, byte copy] →
      (entryIndex k n = none ∨ 2 ≤ copy →
        exec (.tableRead m) s = .next (answer x.id [byte 0xFF, byte 0x07, byte 0x09] s)) ∧
      (∀ i, entryIndex k n = some i → copy = 1 → exec (.tableRead m) s = .next (answer x.id
        ([byte 0x87, byte (tableNumber k), byte n, byte 1,
          yesNoByte (decide ((storedImage s k).check = checkWord (storedImage s k).entries))] ++
          (storedImage s k).entries.getD i []) s)) ∧
      (∀ i, entryIndex k n = some i → copy = 0 → k ≠ .signalTable → k ≠ .regionMap →
        exec (.tableRead m) s = .next (answer x.id
          ([byte 0x87, byte (tableNumber k), byte n, byte 0, byte 0] ++ encodeEntry (s.tables.entry k i)) s)) ∧
      (∀ (i : Fin 4) g, n = i.val → copy = 0 → k = .signalTable → g = s.signals.get i →
        exec (.tableRead m) s = .next (answer x.id ([byte 0x87, byte 4, byte n, byte 0, byte 0] ++
          encodeSignal (s.tables.signals.get i) ++ [if g.raw.isSome then byte 1 else byte 0] ++
          beBytes 2 (g.raw.getD 0xFFFF) ++ [if g.available then byte 0 else byte 1,
            if g.fresh then byte 0 else byte 1] ++ timerField g.timer) s)) ∧
      (∀ i : Fin 16, n = i.val → copy = 0 → k = .regionMap → exec (.tableRead m) s = .next (answer x.id
        ([byte 0x87, byte 6, byte n, byte 0, yesNoByte (s.inspector.overlays.get i).isSome] ++
          encodeMap (s.tables.maps.get i)) s)))

/-- RECORD_READ (R148): the reply carries the kept count, the number returned, and the oldest kept entries: as many as
were asked for, or the kept count, or 14, whichever is least, 30 bytes each (R172). It is answered at once, on either
channel, and nothing is removed: two reads with no trim between them return the same entries. An entry's 30 bytes are those of
its layout, its details those of its kind; a start of 2^32 reads as its low 32 bits (log 52). -/
def Obligations.RecordReadReturnsTheOldestEntries : Prop :=
  (∀ e : Entry, (entryBytes e).length = 30 ∧ (entryBytes e).take 8 = beBytes 4 e.number ++ beBytes 4 e.time ∧
    (entryBytes e)[9]? = some (byte ((if e.grant = none then 0 else 1) + (if e.slot = none then 0 else 2) +
      (if e.channel = none then 0 else 4) + if e.unrecorded = 0 then 0 else 8)) ∧
    (entryBytes e)[10]? = some (byte (e.grant.getD 0)) ∧ (entryBytes e)[11]? = some (byte (e.slot.getD 0).val) ∧
    ((entryBytes e).drop 12).take 2 = [byte (e.channel.getD (0, 0)).1.val, (e.channel.getD (0, 0)).2] ∧
    ((entryBytes e).drop 14).take 2 = beBytes 2 e.unrecorded ∧
    ∀ shows : Nat → List Byte → Prop,
    (∀ n d, shows n d ↔ (entryBytes e)[8]? = some (byte n) ∧
      (entryBytes e).drop 16 = d ++ List.replicate (14 - d.length) 0) →
    (∀ a b c, e.detail = .grantOpened a b c → shows 0 (beBytes 2 a.toNat ++ [byte b.toNat] ++ beBytes 2 c)) ∧
    (∀ c, e.detail = .grantClosed c →
      shows 1 [place [.expired, .revoked, .presence, .consumed, .withdrawnSlot, .restart] c]) ∧
    (e.detail = .proofFailed → shows 2 []) ∧ (e.detail = .lockoutBegan → shows 3 []) ∧
    (∀ a l, e.detail = .downloadOpened a l → shows 4 (beBytes 4 a ++ beBytes 4 l)) ∧
    (∀ a l r o c, e.detail = .downloadEnded a l r o c → shows 5 (beBytes 4 a ++ beBytes 4 l ++ beBytes 4 r ++
      [place [.complete, .failed, .aborted] o, place [.none, .refused, .closeRefused, .noReply, .broken, .congested,
        .regionBarred, .condition, .idle, .portDown, .revoked, .presence, .withdrawnSlot, .restart] c])) ∧
    (∀ a l r, e.detail = .transferRefused a l r → shows 6 (beBytes 4 a ++ beBytes 4 l ++ [byte (reasonCode r)])) ∧
    (∀ k n, e.detail = .tableWritten k n → shows 7 [byte (tableNumber k), byte n, byte 1]) ∧
    (∀ w, e.detail = .credentialChanged w → shows 8 [if w then byte 1 else byte 0])) ∧
  ∀ (m : Mgmt) (x : MgmtExchange) (n : Nat) (s : State), n < 256 → RequestWaits s m 0x08 x →
    x.buffer = [byte 0x08, byte n] → ∀ k, k = min 14 (min n s.record.kept.length) →
    exec (.recordRead m) s = .next (answer x.id
      (byte 0x88 :: byte s.record.kept.length :: byte k :: (s.record.kept.take k).flatMap entryBytes) s)

/-! ### Management: grants -/

/-- ACCESS_REQUEST (R90, R91): with TOOLDET asserted, on W, no lockout, no challenge and no proof in progress, a LIVE
slot, both sets non-empty, fewer than 8 grants and free room for 2, a challenge is issued for 30 s over the duration
clamped to 60..14400 s, with a value that is not 0 and not the one before; the reply carries both. The eight checks refuse
in their order NOT_AUTHORISED (a request on C too), LOCKED_OUT, BUSY, BAD_ENTRY, SLOT_STATE, BAD_ENTRY, BUSY and
RECORD_FULL, and a refusal leaves everything as it was. The value is drawn (log 21). -/
def Obligations.AccessRequestIssuesAFreshChallenge : Prop :=
  (∀ (m : Mgmt) (x : MgmtExchange) (n channels classes seconds : Nat) (s : State), RequestWaits s m 0x10 x →
    x.buffer = [byte 0x10, byte n] ++ beBytes 2 channels ++ [byte classes] ++ beBytes 2 seconds →
    n < 256 → channels < 65536 → classes < 256 → seconds < 65536 →
    ∀ refused : Nat → Prop, (∀ r, refused r ↔
      exec (.accessRequest m) s = .next (answer x.id [byte 0xFF, byte 0x10, byte r] s)) →
    (m = .C ∨ s.lines.tooldet = false → refused 2) ∧
    (m = .W → s.lines.tooldet = true →
      (s.grants.lockout ≠ none → refused 3) ∧
      (s.grants.lockout = none →
        (s.grants.challenge ≠ none ∨ (∃ g ∈ s.grants.grants, inProof g) → refused 4) ∧
        (s.grants.challenge = none → (∀ g ∈ s.grants.grants, ¬inProof g) →
          (8 ≤ n → refused 9) ∧
          (∀ k : Fin 8, n = k.val →
            ((s.grants.slots.get k).state ≠ .live → refused 0x0C) ∧
            ((s.grants.slots.get k).state = .live →
              (channels = 0 ∨ classes = 0 ∨ 64 ≤ classes → refused 9) ∧
              (channels ≠ 0 → classes ≠ 0 → classes < 64 →
                (8 ≤ s.grants.grants.length → refused 4) ∧
                (s.grants.grants.length < 8 → 126 < occupied s → refused 5)))))))) ∧
  ∀ (x : MgmtExchange) (k : Fin 8) (channels classes seconds : Nat) (s : State), RequestWaits s .W 0x10 x →
    x.buffer = [byte 0x10, byte k.val] ++ beBytes 2 channels ++ [byte classes] ++ beBytes 2 seconds →
    channels < 65536 → classes < 64 → seconds < 65536 →
    (s.lines.tooldet = false → exec (.accessRequest .W) s = .next (answer x.id [byte 0xFF, byte 0x10, byte 2] s)) ∧
    (s.lines.tooldet = true → s.grants.lockout ≠ none →
      exec (.accessRequest .W) s = .next (answer x.id [byte 0xFF, byte 0x10, byte 3] s)) ∧
    (s.lines.tooldet = true → s.grants.lockout = none → s.grants.challenge ≠ none →
      exec (.accessRequest .W) s = .next (answer x.id [byte 0xFF, byte 0x10, byte 4] s)) ∧
    (s.lines.tooldet = true → s.grants.lockout = none → s.grants.challenge = none →
      (∀ g ∈ s.grants.grants, g.state ≠ .checking ∧ g.state ≠ .recording) → (s.grants.slots.get k).state = .live →
      channels ≠ 0 → classes ≠ 0 → s.grants.grants.length < 8 → occupied s + 2 ≤ 128 →
      ∃ (v : BitVec 32) (draws : Nat), v ≠ 0 ∧ s.grants.lastChallenge ≠ some v ∧
        exec (.accessRequest .W) s = .next (answer x.id
          (byte 0x90 :: beBytes 4 v.toNat ++ beBytes 2 (max 60 (min 14400 seconds)))
          { s with
            part := { s.part with draws := draws }
            grants := { s.grants with
              challenge := some {
                slot := k, channels := BitVec.ofNat 16 channels, classes := BitVec.ofNat 6 classes,
                duration := max 60 (min 14400 seconds), value := v, validity := 30000 }
              lastChallenge := some v } }))

/-- ACCESS_PROOF (R92, R93): the challenge is consumed, a CHECKING grant with the lowest number not in use joins the end
of the table with the challenge's slot, sets and duration, and the digest starts on the 18-byte proof message; the
request waits. With free room below 2 the challenge is consumed and RECORD_FULL answers; without one, NO_CHALLENGE. That
the grant's remaining seconds are 0 is log 47. -/
def Obligations.AccessProofStartsTheDigest : Prop :=
  ∀ (x : MgmtExchange) (tag : List Byte) (s : State), RequestWaits s .W 0x11 x → x.buffer = byte 0x11 :: tag →
    s.lines.tooldet = true → s.grants.lockout = none →
    (s.grants.challenge = none → exec (.accessProof .W) s = .next (answer x.id [byte 0xFF, byte 0x11, byte 6] s)) ∧
    (∀ ch, s.grants.challenge = some ch → 126 < occupied s → exec (.accessProof .W) s = .next (answer x.id
      [byte 0xFF, byte 0x11, byte 5] { s with grants := { s.grants with challenge := none } })) ∧
    (∀ ch, s.grants.challenge = some ch → occupied s + 2 ≤ 128 → ∃ n message,
      (∀ g ∈ s.grants.grants, g.number ≠ n) ∧ (∀ k, k < n → ∃ g ∈ s.grants.grants, g.number = k) ∧
      message = beBytes 4 ch.value.toNat ++ beBytes 8 Config.serial.toNat ++ [byte ch.slot.val] ++
        beBytes 2 ch.channels.toNat ++ [byte ch.classes.toNat] ++ beBytes 2 ch.duration ∧ message.length = 18 ∧
      exec (.accessProof .W) s = .next (setMgmtExchange { x with work := .awaitProof n } { s with
        grants := { s.grants with
          challenge := none
          grants := s.grants.grants ++ [{
            number := n, slot := ch.slot, channels := ch.channels, classes := ch.classes, granted := ch.duration,
            remaining := 0, extensions := 0, state := .checking, binding := .none, activation := none,
            cause := none, reservation := false, seconds := none }]
          digest := some { grant := n, discarded := false, message := message, slot := ch.slot, tag := tag } } }))

/-- DIGEST_COMPLETE. A discarded result has no effect (R99). A tag that differs (R94): the grant is removed, the count
rises, its write and a PROOF_FAILED entry are offered, and at 3 the lockout of 600 s begins with its entry and its
attention condition; the Proof is answered PROOF_MISMATCH. An equal tag (R95): the grant is RECORDING with its
reservation, and GRANT_OPENED is offered; the count returns to 0, with its write behind that entry if it was not 0 (that
order is log 48). Where the room has gone, or the queue is full, the grant is removed instead, RECORD_FULL or BUSY answers
the Proof, and the count returns to 0 all the same. The tag is the first 8 bytes of HMAC-SHA-256 under the slot's key
(R92; its definition is from outside, log 6). In the first part the store queue and the record have room. -/
def Obligations.DigestDecidesTheProof : Prop :=
  (∀ (d : DigestRun) (g : Grant) (s : State), s.part.awake = true → s.grants.digest = some d → grantNumbersDistinct s →
    d.discarded = false → g ∈ s.grants.grants → g.number = d.grant → g.reservation = false → ∀ tag,
    tag = (hmacSha256 (beBytes 16 (s.grants.slots.get d.slot).key.toNat) d.message).take 8 →
    ∀ answered : State → Nat → Prop, (∀ t r, answered t r ↔ ∀ x, exchangeLaw s → mgmtExchange s .W = some x →
      x.work = .awaitProof d.grant → mgmtExchange t .W = some { x with work := .ready [byte 0xFF, byte 0x11, byte r] }) →
    ∀ removed : List Grant, removed = s.grants.grants.filter (fun y => y.number ≠ d.grant) →
    (d.tag ≠ tag → ∃ t, exec .digestComplete s = .next t ∧ t.grants.grants = removed ∧ answered t 7) ∧
    (d.tag = tag → occupied s + 2 ≤ 128 → s.store.queue.length + 2 ≤ 16 → s.grants.failures ≠ 0 →
      ∃ t, exec .digestComplete s = .next t ∧ t.grants = { s.grants with
          digest := none, failures := 0
          grants := grantsWith s d.grant (fun y => { y with state := .recording, reservation := true }) } ∧
        t.store.queue = s.store.queue ++ [StoreRequest.append (entryNow s (.grantOpened g.channels g.classes g.granted)
          (some g.number) (some g.slot) none), .failureCount 0]) ∧
    (d.tag = tag → 126 < occupied s → ∃ t, exec .digestComplete s = .next t ∧
      t.grants = { s.grants with digest := none, failures := 0, grants := removed } ∧ answered t 5 ∧
      t.record = s.record ∧ (s.store.queue.length < 16 → t.store.queue = s.store.queue ++
        (if s.grants.failures = 0 then [] else [.failureCount 0]))) ∧
    (d.tag = tag → occupied s + 2 ≤ 128 → 16 ≤ s.store.queue.length → ∃ t, exec .digestComplete s = .next t ∧
      t.grants = { s.grants with digest := none, failures := 0, grants := removed } ∧ answered t 4 ∧
      t.record = { s.record with unrecorded := min 65535 (s.record.unrecorded + 1) } ∧ t.store = s.store ∧
      (s.grants.failures ≠ 0 → t.agent.attention.storeFail = true))) ∧
  ∀ (d : DigestRun) (s : State), s.part.awake = true → s.grants.digest = some d → grantNumbersDistinct s →
    occupied s + 2 ≤ 128 → s.store.queue.length + 3 ≤ 16 → ∀ tag,
    tag = (hmacSha256 (beBytes 16 (s.grants.slots.get d.slot).key.toNat) d.message).take 8 →
    (d.discarded = true →
      exec .digestComplete s = .next { s with grants := { s.grants with digest := none } }) ∧
    (d.discarded = false → d.tag ≠ tag → s.grants.failures ≤ 1 → ∃ t, exec .digestComplete s = .next t ∧
      t.grants = { s.grants with
        digest := none, grants := s.grants.grants.filter (fun g => g.number ≠ d.grant),
        failures := s.grants.failures + 1 } ∧
      t.store.queue = s.store.queue ++ [StoreRequest.failureCount (s.grants.failures + 1),
        .append (entryNow s .proofFailed none (some d.slot) none)] ∧ t.agent = s.agent) ∧
    (d.discarded = false → d.tag ≠ tag → s.grants.failures = 2 → ∃ t e, exec .digestComplete s = .next t ∧
      t.grants = { s.grants with
        digest := none, grants := s.grants.grants.filter (fun g => g.number ≠ d.grant), failures := 3,
        lockout := some 600000 } ∧
      t.store.queue = s.store.queue ++ [StoreRequest.failureCount 3,
        .append (entryNow s .proofFailed none (some d.slot) none), .append e] ∧
      e.detail = .lockoutBegan ∧ e.slot = some d.slot ∧ t.agent.attention.lockoutBegan = true) ∧
    (∀ g opened, d.discarded = false → d.tag = tag → g ∈ s.grants.grants → g.number = d.grant →
      s.grants.failures = 0 → opened = entryNow s (.grantOpened g.channels g.classes g.granted) (some g.number)
        (some g.slot) none →
      exec .digestComplete s = .next { s with
        grants := { s.grants with
          digest := none
          grants := grantsWith s d.grant (fun y => { y with state := .recording, reservation := true }) }
        store := { s.store with queue := s.store.queue ++ [StoreRequest.append opened] }
        record := { s.record with mark := (s.record.mark + 1) % 4294967296, unrecorded := 0 } })

/-- GRANT_EXTEND (R101) adds the clamped duration to an ACTIVE grant's remaining seconds, up to 14400, and counts the
extension; the rest of the grant is unchanged. GRANT_REVOKE (R99, R102) of an ACTIVE grant without a window enters
GRANT_CLOSED, cause REVOKED, into its reservation and removes it; a number held by no grant is BAD_ENTRY; revoking all
leaves no grant but RECORDING ones with a cause; the count it answers is that of the table (log 29). The store queue
has room. -/
def Obligations.GrantIsExtendedOrRevoked : Prop :=
  ∀ (m : Mgmt) (x : MgmtExchange) (g : Grant) (s : State), grantNumbersDistinct s → g ∈ s.grants.grants →
    g.number < 8 → g.state = .active →
    (∀ seconds left after, seconds < 65536 → left = min 14400 (g.remaining + max 60 (min 14400 seconds)) →
      after = grantsWith s g.number (fun y => { y with remaining := left, extensions := g.extensions + 1 }) →
      RequestWaits s .W 0x12 x → x.buffer = [byte 0x12, byte g.number] ++ beBytes 2 seconds →
      s.lines.tooldet = true → s.grants.lockout = none → g.extensions < 3 →
      exec (.grantExtend .W) s = .next (answer x.id ([byte 0x92] ++ beBytes 2 left ++ [byte (g.extensions + 1)])
        { s with grants := { s.grants with grants := after } })) ∧
    (RequestWaits s m 0x13 x → x.buffer = [byte 0x13, byte g.number] → g.reservation = true → g.binding = .none →
      s.store.queue.length < 16 →
      ∃ t, exec (.grantRevoke m) s = .next (answer x.id [byte 0x93, byte 1] t) ∧
        t.grants.grants = s.grants.grants.filter (fun y => y.number ≠ g.number) ∧
        t.store.queue = s.store.queue ++
          [.append (entryNow s (.grantClosed .revoked) (some g.number) (some g.slot) none)] ∧
        t.grants.slots = s.grants.slots ∧ t.grants.failures = s.grants.failures ∧
        t = { s with grants := t.grants, store := t.store, record := t.record }) ∧
    (∀ n, n < 255 → (∀ y ∈ s.grants.grants, y.number ≠ n) → RequestWaits s m 0x13 x →
      x.buffer = [byte 0x13, byte n] →
      exec (.grantRevoke m) s = .next (answer x.id [byte 0xFF, byte 0x13, byte 9] s)) ∧
    (RequestWaits s m 0x13 x → x.buffer = [byte 0x13, byte 255] →
      ∃ t, exec (.grantRevoke m) s = .next (answer x.id [byte 0x93, byte s.grants.grants.length] t) ∧
        t.grants.failures = s.grants.failures ∧ ∀ y ∈ t.grants.grants, y.state = .recording ∧ y.cause.isSome = true)

/-- The timers of the Grant Unit and of part time. CHALLENGE_VALIDITY_EXPIRY discards the challenge (R90);
LOCKOUT_EXPIRY ends the lockout with count 0 and offers its write, or raises STORE_FAIL on a full queue (R97);
GRANT_SECONDS_TIMER_EXPIRY takes one second, and at 0 a grant with an open window is HELD and one without ends EXPIRED
(R100); ACCLMP_TOGGLE alternates a toggling lamp (R106); PART_TIME_TICK adds a second, up to 0xFFFFFFFF, also ASLEEP
(R149). The rows act whatever their timers hold (log 4). A step on an empty queue is a tick (log 5): each running timer of
an AWAKE part loses 1 ms, none stops or starts, and nothing else is touched but TOOLDET's count; ASLEEP the part-time
second alone counts. The lamp follows its table at every step (R106): its toggle begins, lit, with the first window, runs
unbroken while one is open, and ends with the last. -/
def Obligations.GrantTimersAndPartTimeRun : Prop :=
  (∀ s t : State, s.pending = [] → step s = .next t → ∀ less : Option Nat → Option Nat,
    (∀ o, less o = o.map (fun n => n - 1)) → t.record = { s.record with second := s.record.second - 1 } ∧
    (s.part.awake = false → t = { s with record := t.record }) ∧
    (s.part.awake = true → t.part = { s.part with quiet := s.part.quiet - 1 } ∧ t.tables = s.tables ∧
      t.store = s.store ∧ t.meter = s.meter ∧
      (∀ p, t.port p = { s.port p with recovery := less (s.port p).recovery }) ∧
      t.lines = { s.lines with
        debounce := if s.lines.raw = s.lines.tooldet then 0 else min 199 (s.lines.debounce + 1) } ∧
      (∀ i, t.signals.get i = { s.signals.get i with timer := less (s.signals.get i).timer }) ∧
      (∀ i n f, (s.mirror.get i = .quiet → t.mirror.get i = .quiet) ∧
        (s.mirror.get i = .timing n → t.mirror.get i = .timing (n - 1)) ∧
        (s.mirror.get i = .holding n f → t.mirror.get i = .holding (n - 1) f)) ∧
      (∀ c x, channelExchange s c = some x → ∃ y, channelExchange t c = some y ∧ y = { x with
          seg := { x.seg with timer := less x.seg.timer }, timer := y.timer, gapTimer := less x.gapTimer } ∧
        (∀ n, x.timer = .running n → y.timer = .running (n - 1)) ∧
        ((∀ n, x.timer ≠ .running n) → y.timer = x.timer)) ∧
      (∀ m x, mgmtExchange s m = some x → mgmtExchange t m = some { x with
        seg := { x.seg with timer := less x.seg.timer }, gapTimer := less x.gapTimer }) ∧
      t.grants = { s.grants with
        challenge := s.grants.challenge.map (fun c => { c with validity := c.validity - 1 })
        grants := s.grants.grants.map (fun g => { g with seconds := less g.seconds })
        lockout := less s.grants.lockout
        lamp := t.grants.lamp } ∧
      (∀ lit n, s.grants.lamp = .toggling lit n → t.grants.lamp = .toggling lit (n - 1)) ∧
      (∀ w, t.window w = (s.window w).map (fun v =>
        { v with grace := less v.grace, idle := less v.idle, hold := less v.hold })))) ∧
  (∀ s t : State, proofLaw s → lampLaw s → step s = .next t → lampLaw t ∧
    (¬windowOpen s → windowOpen t → t.grants.lamp = .toggling true 500) ∧
    (windowOpen s → windowOpen t → s.pending ≠ [] → s.pending.head? ≠ some .acclmpToggle →
      t.grants.lamp = s.grants.lamp)) ∧
  ∀ s : State,
    exec .partTimeTick s =
      .next { s with record := { s.record with partTime := min 0xFFFFFFFF (s.record.partTime + 1), second := 1000 } } ∧
    (s.part.awake = true →
      exec .challengeValidityExpiry s = .next { s with grants := { s.grants with challenge := none } } ∧
      (∀ left q, s.grants.lockout = some left → s.grants.failures = 3 →
        q = { s with grants := { s.grants with lockout := none, failures := 0 } } →
        (s.store.queue.length < 16 → exec .lockoutExpiry s =
          .next { q with store := { s.store with queue := s.store.queue ++ [StoreRequest.failureCount 0] } }) ∧
        (16 ≤ s.store.queue.length → exec .lockoutExpiry s =
          .next { q with agent := { s.agent with attention := { s.agent.attention with storeFail := true } } })) ∧
      (∀ lit left, s.grants.lamp = .toggling lit left → exec .acclmpToggle s =
        .next { s with grants := { s.grants with lamp := .toggling (!lit) 500 } }) ∧
      (∀ (n : Fin 8) g left, grantNumbersDistinct s → g ∈ s.grants.grants → g.number = n.val → g.state = .active →
        g.seconds = some left →
        (1 < g.remaining → ∀ after, after = grantsWith s n.val
            (fun y => { y with remaining := g.remaining - 1, seconds := some 1000 }) →
          exec (.grantSecondsTimerExpiry n) s = .next { s with grants := { s.grants with grants := after } }) ∧
        (g.remaining ≤ 1 → (∃ w, g.binding = .pending w ∨ g.binding = .bound w) → ∀ after,
          after = grantsWith s n.val (fun y => { y with state := .held, remaining := 0, seconds := none }) →
          exec (.grantSecondsTimerExpiry n) s = .next { s with grants := { s.grants with grants := after } }) ∧
        (g.remaining ≤ 1 → g.binding = .none → g.reservation = true → s.store.queue.length < 16 →
          ∃ t, exec (.grantSecondsTimerExpiry n) s = .next t ∧
            t.grants.grants = s.grants.grants.filter (fun y => y.number ≠ n.val) ∧
            t.store.queue = s.store.queue ++
              [.append (entryNow s (.grantClosed .expired) (some n.val) (some g.slot) none)] ∧
            t = { s with grants := t.grants, store := t.store, record := t.record })))

/-! ### Management: the store -/

/-- A table write, a credential write or withdrawal, a change of lock policy and an acknowledgement that pass their checks
join the store request queue and wait for their completion, and change nothing else (R88, R89, R150, R160, R162). Among
the checks: MANAGE from an ACTIVE grant, or for a first credential no LIVE slot; the slot's state; the lock; and fewer
than 8 requests in the queue. The carrier is the earliest grant with MANAGE (log 28), and a stored Port Settings write is
judged by the working lock policy (log 35). -/
def Obligations.StoreRequestsJoinTheQueue : Prop :=
  ∀ (x : MgmtExchange) (s : State), s.store.queue.length < 8 →
    (∀ (k : Fin 8) key, RequestWaits s .W 0x14 x → x.buffer = [byte 0x14, byte k.val] ++ key → key.length = 16 →
      (manageGrant s ≠ none ∨ ∀ i, (s.grants.slots.get i).state ≠ .live) → s.lines.stlock = false →
      s.tables.ports.lock ≠ .frozen → (s.grants.slots.get k).state = .empty →
      exec (.credentialWrite .W) s = .next (storeOffered s x
        (.credentialWrite k (BitVec.ofNat 128 (beNat key)) ((manageGrant s).map (·.number)) x.id))) ∧
    (∀ g, manageGrant s = some g →
      (∀ k : Fin 8, RequestWaits s .W 0x15 x → x.buffer = [byte 0x15, byte k.val] →
        (s.grants.slots.get k).state = .live →
        exec (.credentialWithdraw .W) s = .next (storeOffered s x (.credentialWithdraw k (some g.number) x.id))) ∧
      (∀ e, RequestWaits s .W 0x18 x → entryValid e →
        x.buffer = [byte 0x18, byte (tableNumber (tableOf e)), byte (entryNumber (tableOf e) (entryPlace e)), byte 1] ++
          encodeEntry e →
        (s.tables.ports.lock = .unlocked ∨ s.tables.ports.lock = .line ∧ s.lines.stlock = false) →
        (∀ p, e = .portSettings p → p.lock = s.tables.ports.lock) → clashes (storedTables s) e = false →
        exec (.tableWriteStored .W) s = .next (storeOffered s x (.tableEntry e (some (g.number, g.slot)) x.id))) ∧
      (∀ p, RequestWaits s .W 0x1A x → x.buffer = [byte 0x1A, lockByte p] → s.lines.stlock = false →
        s.tables.ports.lock ≠ .frozen → p ≠ s.tables.ports.lock →
        exec (.lockPolicyWrite .W) s = .next (storeOffered s x (.lockPolicy p (some (g.number, g.slot)) x.id)))) ∧
    (∀ m n, (m = .C ∨ manageGrant s ≠ none) → RequestWaits s m 0x1C x → n < 65536 →
      x.buffer = [byte 0x1C] ++ beBytes 2 n → min n s.record.kept.length ≠ 0 →
      exec (.recordAcknowledge m) s = .next (storeOffered s x (.trim (min n s.record.kept.length) x.id)))

/-- TABLE_WRITE_WORKING and TABLE_RELOAD under MANAGE on W (R34, R85, R110, R159, R161). A written entry that passes its
checks is the working entry at once, but that a map keeps the marks its regions hold; a mirror position written is QUIET,
a signal written STALE without a value; no stored image changes; with no window open no other entry changes. Of written
Port Settings a bit rate that changes holds at once at a WITHDRAWN port, which is idle, and not yet at a port whose head
is being sent; whether an ACTIVE port is receiving is a free value (R3, R8; log 12). A port keeps everything else, and
only its head may be released. A reload
gives every entry its stored content, or fallback content with the flag and FALLBACK, and leaves the other tables. -/
def Obligations.WorkingTablesAreWrittenAndReloaded : Prop :=
  ∀ (x : MgmtExchange) (s : State), manageGrant s ≠ none →
    (∀ e k i n, k = tableOf e → i = entryPlace e → n = entryNumber k i → RequestWaits s .W 0x18 x →
      x.buffer = [byte 0x18, byte (tableNumber k), byte n, byte 0] ++ encodeEntry e → entryValid e →
      (∀ p, e = .portSettings p → p.lock = s.tables.ports.lock) → clashes s.tables e = false →
      entryInUse s e = false → loosens s e = false →
      ∃ t, exec (.tableWriteWorking .W) s =
          .next (answer x.id [byte 0x98, byte (tableNumber k), byte n, byte 0] t) ∧
        (k ≠ .regionMap → t.tables.entry k i = e) ∧
        (∀ c w, e = .map c w → ∃ v, t.tables.maps.get c = v ∧ v = { w with regions := v.regions } ∧
          ∀ j, v.regions.get j = { w.regions.get j with
            writeBar := (w.regions.get j).writeBar || ((s.tables.maps.get c).regions.get j).writeBar,
            eraseBar := (w.regions.get j).eraseBar || ((s.tables.maps.get c).regions.get j).eraseBar }) ∧
        (∀ p q, e = .portSettings p → (t.port q).status = (s.port q).status ∧ (t.port q).fault = (s.port q).fault ∧
          (t.port q).rx = (s.port q).rx ∧ (t.port q).counters = (s.port q).counters ∧
          (t.port q).recovery = (s.port q).recovery ∧ queued t q = queued s q ∧
          ((t.port q).rate = (s.port q).rate ∨
            settingsRate p q ≠ settingsRate s.tables.ports q ∧ (t.port q).rate = settingsRate p q) ∧
          ((s.port q).status = .withdrawn → settingsRate p q ≠ settingsRate s.tables.ports q →
            (t.port q).rate = settingsRate p q) ∧
          (∀ o l, (s.port q).status = .active → (s.port q).out = o :: l → q = .W ∨ o.released = true →
            (t.port q).rate = (s.port q).rate)) ∧
        (∀ j r, e = .mirror j r → t.mirror.get j = .quiet) ∧
        (∀ j g, e = .signal j g →
          t.signals.get j = { raw := none, available := true, fresh := false, timer := none }) ∧
        t.store.images = s.store.images ∧
        ((∀ w, s.window w = none) → ∀ k' j, j < tableSize k' → (k' ≠ k ∨ j ≠ i) →
          t.tables.entry k' j = s.tables.entry k' j)) ∧
    (∀ k, RequestWaits s .W 0x19 x → x.buffer = [byte 0x19, byte (tableNumber k)] → (∀ w, s.window w = none) →
      (∀ c, channelExchange s c = none) → reloadInUse s k = false → reloadClash s k = false → ∀ ok,
      (ok ↔ (storedImage s k).check = checkWord (storedImage s k).entries) →
      ∃ t flag, exec (.tableReload .W) s = .next (answer x.id [byte 0x99, byte (tableNumber k), yesNoByte flag] t) ∧
        (flag = true ↔ ¬ok) ∧ t.store.fallback.get (tableFin k) = flag ∧
        (¬ok → t.agent.attention.fallback = true) ∧
        (∀ i e, ok → i < tableSize k → readEntry k (entryNumber k i) ((storedImage s k).entries.getD i []) = some e →
          t.tables.entry k i = e) ∧
        (∀ i, ¬ok → i < tableSize k → t.tables.entry k i = Tables.fallback.entry k i) ∧
        (∀ k' i, k' ≠ k → i < tableSize k' → t.tables.entry k' i = s.tables.entry k' i) ∧
        t.store.images = s.store.images)

/-- RESTART, on C or on W with MANAGE, with an idle store and no CHECKING grant (R107, R163): the challenge is gone, no
ACTIVE or HELD grant is left, the Agent is restarting, and the request waits. RESTART_REPLY_OFFERED: while the store
request queue holds a request nothing happens; once it is empty the positive reply is offered, unless the channel's side
answer is SENDING. The hot start is due when that reply has been sent by its port, is flushed at its port's withdrawal, or
is discarded by a port without room. An empty frame, or a pace frame taken while the reply's unit waits in the queue,
closes the exchange (logs 23 and 54) and makes it no more due: the Restart goes on waiting for its reply. -/
def Obligations.RestartEndsGrantsAndThenAnswers : Prop :=
  (∀ (m : Mgmt) (x : MgmtExchange) (s : State), exchangeLaw s → grantNumbersDistinct s →
    (RequestWaits s m 0x1F x → (m = .C ∨ manageGrant s ≠ none) → s.store.queue = [] →
      (∀ g ∈ s.grants.grants, g.state ≠ .checking) →
      ∃ t, exec (.restart m) s = .next t ∧ t.grants.challenge = none ∧
        (∀ g ∈ t.grants.grants, g.state = .recording) ∧ t.agent.restart = .taken x.id ∧
        mgmtExchange t m = some { x with work := .awaitRestart } ∧ t.grants.slots = s.grants.slots ∧
        t.grants.failures = s.grants.failures ∧ t.grants.lockout = s.grants.lockout ∧ t.record.kept = s.record.kept) ∧
    (s.part.awake = true → s.agent.restart = .taken x.id → mgmtExchange s m = some x → x.state = .serving →
      (s.store.queue ≠ [] → exec .restartReplyOffered s = .next s) ∧
      ((∃ id seg msg gap, sideOf s m = .sending id seg msg gap) → exec .restartReplyOffered s = .next s) ∧
      (s.store.queue = [] → (∀ id seg msg gap, sideOf s m ≠ .sending id seg msg gap) → hasRoom s (mgmtPort m) →
        ∃ t, exec .restartReplyOffered s = .next t ∧
          queued t (mgmtPort m) = queued s (mgmtPort m) ++ [frameOf x.response [byte 0, byte 0x9F]] ∧
          t.agent = { s.agent with restart := .answered x.id } ∧ (∃ y, mgmtExchange t m = some y ∧
            y.state = .answering ∧ y.id = x.id) ∧
          t = { s with part := t.part, ports := t.ports, meter := t.meter, exchanges := t.exchanges,
                       agent := t.agent }) ∧
      (s.store.queue = [] → (∀ id seg msg gap, sideOf s m ≠ .sending id seg msg gap) → ¬hasRoom s (mgmtPort m) →
        ∃ t, exec .restartReplyOffered s = .next t ∧ t.agent = { s.agent with restart := .due } ∧
          t.exchanges = s.exchanges.eraseP (isMgmt x.id)))) ∧
  (∀ (m : Mgmt) (id : Nat) (p : Port) (f : OutFrame) (rest : List OutFrame) (s : State), s.part.awake = true →
    s.agent.restart = .answered id → (s.port p).status = .active → (s.port p).out = f :: rest →
    p = .W ∨ f.released = true →
    (f.origin = .management m .exchange → f.owner = id →
      ∃ t, exec (.frameSent p) s = .next t ∧ t.agent = { s.agent with restart := .due }) ∧
    (128 ≤ (s.port p).fault + 8 → (∃ o ∈ (s.port p).out, o.origin = .management m .exchange ∧ o.owner = id) →
      ∃ t, exec (.transmissionFailed p) s = .next t ∧ t.agent.restart = .due)) ∧
  (∀ (m : Mgmt) (f : Frame) (rest : List Frame) (x : MgmtExchange) (s : State), exchangeLaw s → MgmtSide s m f rest →
    mgmtExchange s m = some x → x.state = .answering → x.seg.phase = .none →
    (∀ id seg msg gap, sideOf s m ≠ .sending id seg msg gap) →
    (f.data = [] ∨ ∃ ctl code gap more, f.data = ctl :: code :: gap :: more ∧ 192 ≤ ctl.toNat ∧ code.toNat ≤ 2 ∧
      gap.toNat ≤ 127) →
    exec (.routerTakesFrame (mgmtPort m)) s = .next { taken s (mgmtPort m) rest with
      exchanges := s.exchanges.eraseP (isMgmt x.id) })

/-- APPEND_COMPLETE, FAILURE_COUNT_WRITE_COMPLETE and TRIM_COMPLETE (R96, R97, R145, R149, R150, R164 to R166). With pass:
the entry is kept, it is stored with its check word, and its number is stored as the mark; a GRANT_OPENED entry makes its
RECORDING grant ACTIVE with its whole duration, or, where a close cause is recorded, removes it with its GRANT_CLOSED
entry, NOT_AUTHORISED answering its Proof. The count is stored; the oldest entries are removed, from the store too, and
the reply gives how many. With fail: the entry and the events it carried are counted unrecorded, the stored count and the
kept entries stay, a RECORDING grant is removed, STORE_FAIL is raised and answers the trim and the Proof. Each says what
has come about when the operation has left the queue, before the next one begins as `Begun` gives. Whether a failing
append has stored its mark is free (log 16); that a stored entry takes the place of one that fails its check is log 15.
The oldest request is the operation in progress (log 34). -/
def Obligations.RecordOperationsComplete : Prop :=
  ∀ (rest : List StoreRequest) (s : State), s.part.awake = true →
    (∀ e, s.store.queue = .append e :: rest → ∀ stored : State,
      stored = { s with
        record := { s.record with kept := s.record.kept ++ [e] }
        store := { s.store with
          queue := rest
          mark := { value := e.number, check := checkWord [beBytes 4 e.number] }
          entries := s.store.entries.eraseP (fun y => decide (y.check ≠ checkWord [entryBytes y.entry])) ++
            [{ entry := e, check := checkWord [entryBytes e] }] } } →
      ((∀ a b c, e.detail ≠ .grantOpened a b c) → completesWith (.appendComplete true) s stored) ∧
      (∀ a b c n g, e.detail = .grantOpened a b c → e.grant = some n → grantNumbersDistinct s →
        g ∈ s.grants.grants → g.number = n → g.state = .recording → ∀ proof : State → List Byte → Prop,
        (∀ u r, proof u r ↔ ∀ x, mgmtExchange s .W = some x → x.work = .awaitProof n → exchangeLaw s →
          mgmtExchange u .W = some { x with work := .ready r }) →
        (g.cause = none → ∃ u, completesWith (.appendComplete true) s u ∧
          u = { stored with grants := u.grants, exchanges := u.exchanges } ∧
          u.grants.grants = grantsWith s n (fun y => { y with
            state := .active, remaining := y.granted, activation := some s.record.partTime, seconds := some 1000 }) ∧
          proof u ([byte 0x91, byte n] ++ beBytes 2 g.granted)) ∧
        (∀ why, g.cause = some why → g.reservation = true → rest.length < 16 → ∃ u d,
          completesWith (.appendComplete true) s u ∧
          u.store = { stored.store with queue := rest ++ [StoreRequest.append d] } ∧
          d.detail = .grantClosed why ∧ d.grant = some n ∧ d.slot = some g.slot ∧ u.record.kept = stored.record.kept ∧
          u.grants.grants = s.grants.grants.filter (fun y => y.number ≠ n) ∧
          proof u [byte 0xFF, byte 0x11, byte 2]) ∧
        (∃ u, completesWith (.appendComplete false) s u ∧ u.store.queue = rest ∧ u.record.kept = s.record.kept ∧
          u.store.entries = s.store.entries ∧ u.agent.attention.storeFail = true ∧
          u.grants.grants = s.grants.grants.filter (fun y => y.number ≠ n) ∧ proof u [byte 0xFF, byte 0x11, byte 0x0B])) ∧
      ((∀ a b c, e.detail ≠ .grantOpened a b c) → ∃ u, completesWith (.appendComplete false) s u ∧
        u.record = { s.record with unrecorded := min 65535 (s.record.unrecorded + (1 + e.unrecorded)) } ∧
        u.agent = { s.agent with attention := { s.agent.attention with storeFail := true } } ∧
        (u.store = { s.store with queue := rest } ∨ u.store = { s.store with
          queue := rest, mark := { value := e.number, check := checkWord [beBytes 4 e.number] } }) ∧
        u = { s with part := u.part, record := u.record, agent := u.agent, store := u.store })) ∧
    (∀ n, s.store.queue = .failureCount n :: rest →
      completesWith (.failureCountWriteComplete true) s { s with store := { s.store with
        queue := rest, failures := { value := n, check := checkWord [beBytes 1 n] } } } ∧
      completesWith (.failureCountWriteComplete false) s { s with
        store := { s.store with queue := rest }
        agent := { s.agent with attention := { s.agent.attention with storeFail := true } } }) ∧
    (∀ n id, s.store.queue = .trim n id :: rest → n ≤ s.record.kept.length →
      (∃ u, completesWith (.trimComplete true) s (answer id [byte 0x9C, byte n, byte (s.record.kept.length - n)] u) ∧
        u = { s with
          record := { s.record with kept := s.record.kept.drop n }
          store := { s.store with queue := rest, entries := u.store.entries } } ∧
        passing u.store.entries = (passing s.store.entries).drop n) ∧
      completesWith (.trimComplete false) s (answer id [byte 0xFF, byte 0x1C, byte 0x0B] { s with
        store := { s.store with queue := rest }
        agent := { s.agent with attention := { s.agent.attention with storeFail := true } } }))

/-- TABLE_ENTRY_WRITE_COMPLETE, CREDENTIAL_WRITE_COMPLETE, CREDENTIAL_WITHDRAW_COMPLETE and
LOCK_POLICY_WRITE_COMPLETE (R88, R89, R111, R142, R160, R162, R164, R166). With pass: the entry is in the stored image, whose
check word is right, the other entries as they were (fallback content where the image failed), and a map is followed by
its working map or laid over it; Port Settings keep the stored lock policy. The slot is LIVE with its key, or WITHDRAWN with
its challenge discarded and its grants ended. The policy is in both copies. An entry that names what changed, and the
grant that carried the write, is appended, or counted unrecorded where there is no room, and the reply made ready. With
fail: nothing stored changes, STORE_FAIL is raised and answers the request. Each says what has come about when the
operation has left the queue, before the next one begins as `Begun` gives. The oldest request is the operation in progress
(log 34); that a withdrawal ends CHECKING and RECORDING grants too is log 49. -/
def Obligations.TableAndCredentialOperationsComplete : Prop :=
  ∀ (rest : List StoreRequest) (s : State), s.part.awake = true →
    ∀ failed, failed = { s with
      store := { s.store with queue := rest }
      agent := { s.agent with attention := { s.agent.attention with storeFail := true } } } →
    ∀ left : State, left = { s with store := { s.store with queue := rest } } →
    (∀ e carrier id k i, s.store.queue = .tableEntry e carrier id :: rest → k = tableOf e → i = entryPlace e →
      (storedImage s k).entries.length = tableSize k →
      (∃ u q, completesWith (.tableEntryWriteComplete true) s (answer id [byte 0x98, byte (tableNumber k),
          byte (entryNumber k i), byte 1] u) ∧
        noted left (.tableWritten k (entryNumber k i)) (carrier.map (·.1)) (carrier.map (·.2)) none q ∧
        u = { q with
          store := { q.store with images := u.store.images }, tables := u.tables, inspector := u.inspector } ∧
        (storedImage u k).check = checkWord (storedImage u k).entries ∧
        (storedImage u k).entries.length = tableSize k ∧
        ((∀ p, e ≠ .portSettings p) → (storedImage u k).entries.getD i [] = encodeEntry e) ∧
        (∀ p, e = .portSettings p → entryValid e → (storedTables u).ports =
          { p with lock := (storedTables s).ports.lock }) ∧
        (∀ j, j < tableSize k → j ≠ i → (storedImage u k).entries.getD j [] =
          if (storedImage s k).check = checkWord (storedImage s k).entries then (storedImage s k).entries.getD j []
          else encodeEntry (Tables.fallback.entry k j)) ∧
        (∀ k', k' ≠ k → storedImage u k' = storedImage s k') ∧
        (∀ c w, e = .map c w → windowOn s c = none →
          u.tables = { s.tables with maps := put s.tables.maps c w } ∧ u.inspector = s.inspector) ∧
        (∀ c w, e = .map c w → windowOn s c ≠ none → u.tables = s.tables ∧
          u.inspector = { s.inspector with overlays := put s.inspector.overlays c (some w) }) ∧
        ((∀ c w, e ≠ .map c w) → u.tables = s.tables ∧ u.inspector = s.inspector)) ∧
      completesWith (.tableEntryWriteComplete false) s (answer id [byte 0xFF, byte 0x18, byte 0x0B] failed)) ∧
    (∀ k key carrier id, s.store.queue = .credentialWrite k key carrier id :: rest →
      (∃ u q, completesWith (.credentialWriteComplete true) s (answer id [byte 0x94, byte k.val] u) ∧
        noted left (.credentialChanged false) carrier (some k) none q ∧ u = { q with
          grants := { s.grants with slots := put s.grants.slots k { state := .live, key := key } }
          store := { q.store with slots := put s.store.slots k {
            slot := { state := .live, key := key }, check := checkWord [byte 1 :: beBytes 16 key.toNat] } } }) ∧
      completesWith (.credentialWriteComplete false) s (answer id [byte 0xFF, byte 0x14, byte 0x0B] failed)) ∧
    (∀ k carrier id, s.store.queue = .credentialWithdraw k carrier id :: rest → grantNumbersDistinct s →
      (∃ u q more, completesWith (.credentialWithdrawComplete true) s (answer id [byte 0x95, byte k.val] u) ∧
        noted left (.credentialChanged true) carrier (some k) none q ∧ u.store.queue = q.store.queue ++ more ∧
        u.grants.slots = put s.grants.slots k { s.grants.slots.get k with state := .withdrawn } ∧
        (u.store.slots.get k).slot = u.grants.slots.get k ∧
        (u.store.slots.get k).check = checkWord [byte 2 :: beBytes 16 (s.grants.slots.get k).key.toNat] ∧
        (∀ j, j ≠ k → u.store.slots.get j = s.store.slots.get j) ∧
        (∀ ch, u.grants.challenge = some ch → ch.slot ≠ k ∧ s.grants.challenge = some ch) ∧
        (∀ ch, s.grants.challenge = some ch → ch.slot ≠ k → u.grants.challenge = some ch) ∧
        (∀ g ∈ u.grants.grants, g.slot = k → g.state = .recording ∧ g.cause.isSome = true) ∧
        (∀ g ∈ s.grants.grants, g.slot ≠ k → g.binding = .none → g ∈ u.grants.grants) ∧
        ((∀ g ∈ s.grants.grants, g.slot ≠ k) → more = [] ∧ u.grants.grants = s.grants.grants) ∧
        u.grants.failures = s.grants.failures ∧ u.record.kept = s.record.kept ∧ u.tables.ports = s.tables.ports) ∧
      completesWith (.credentialWithdrawComplete false) s (answer id [byte 0xFF, byte 0x15, byte 0x0B] failed)) ∧
    (∀ p carrier id, s.store.queue = .lockPolicy p carrier id :: rest →
      (storedImage s .portSettings).entries.length = 1 →
      (∃ u q, completesWith (.lockPolicyWriteComplete true) s (answer id [byte 0x9A, lockByte p] u) ∧
        noted left (.tableWritten .portSettings 0) (carrier.map (·.1)) (carrier.map (·.2)) none q ∧
        u = { q with
          store := { q.store with images := u.store.images }
          tables := { s.tables with ports := { s.tables.ports with lock := p } } } ∧
        (storedImage u .portSettings).check = checkWord (storedImage u .portSettings).entries ∧
        (portSettingsValid (storedTables s).ports →
          (storedTables u).ports = { (storedTables s).ports with lock := p }) ∧
        (∀ k, k ≠ .portSettings → storedImage u k = storedImage s k)) ∧
      completesWith (.lockPolicyWriteComplete false) s (answer id [byte 0xFF, byte 0x1A, byte 0x0B] failed))
end

