-- ==== Sys2Proof/Laws/State.lean ====
section
/-! SUPPORT. What each update of the state leaves in each field: one lemma per field per update. -/

namespace Sys2Proof.Machine

open Sys2Proof

variable (s : State)

/-! ### `nextStamp` -/

@[simp] theorem nextStamp_pending : (nextStamp s).pending = s.pending := rfl
@[simp] theorem nextStamp_part : (nextStamp s).part = { s.part with stamp := s.part.stamp + 1 } := rfl
@[simp] theorem nextStamp_ports : (nextStamp s).ports = s.ports := rfl
@[simp] theorem nextStamp_lines : (nextStamp s).lines = s.lines := rfl
@[simp] theorem nextStamp_tables : (nextStamp s).tables = s.tables := rfl
@[simp] theorem nextStamp_mirror : (nextStamp s).mirror = s.mirror := rfl
@[simp] theorem nextStamp_signals : (nextStamp s).signals = s.signals := rfl
@[simp] theorem nextStamp_exchanges : (nextStamp s).exchanges = s.exchanges := rfl
@[simp] theorem nextStamp_grants : (nextStamp s).grants = s.grants := rfl
@[simp] theorem nextStamp_inspector : (nextStamp s).inspector = s.inspector := rfl
@[simp] theorem nextStamp_meter : (nextStamp s).meter = s.meter := rfl
@[simp] theorem nextStamp_record : (nextStamp s).record = s.record := rfl
@[simp] theorem nextStamp_agent : (nextStamp s).agent = s.agent := rfl
@[simp] theorem nextStamp_store : (nextStamp s).store = s.store := rfl

/-! ### `nextDraw` -/

@[simp] theorem nextDraw_pending : (nextDraw s).pending = s.pending := rfl
@[simp] theorem nextDraw_part : (nextDraw s).part = { s.part with draws := s.part.draws + 1 } := rfl
@[simp] theorem nextDraw_ports : (nextDraw s).ports = s.ports := rfl
@[simp] theorem nextDraw_lines : (nextDraw s).lines = s.lines := rfl
@[simp] theorem nextDraw_tables : (nextDraw s).tables = s.tables := rfl
@[simp] theorem nextDraw_mirror : (nextDraw s).mirror = s.mirror := rfl
@[simp] theorem nextDraw_signals : (nextDraw s).signals = s.signals := rfl
@[simp] theorem nextDraw_exchanges : (nextDraw s).exchanges = s.exchanges := rfl
@[simp] theorem nextDraw_grants : (nextDraw s).grants = s.grants := rfl
@[simp] theorem nextDraw_inspector : (nextDraw s).inspector = s.inspector := rfl
@[simp] theorem nextDraw_meter : (nextDraw s).meter = s.meter := rfl
@[simp] theorem nextDraw_record : (nextDraw s).record = s.record := rfl
@[simp] theorem nextDraw_agent : (nextDraw s).agent = s.agent := rfl
@[simp] theorem nextDraw_store : (nextDraw s).store = s.store := rfl

/-! ### `presetQuiet` -/

@[simp] theorem presetQuiet_pending : (presetQuiet s).pending = s.pending := rfl
@[simp] theorem presetQuiet_part : (presetQuiet s).part = { s.part with quiet := 5000 } := rfl
@[simp] theorem presetQuiet_ports : (presetQuiet s).ports = s.ports := rfl
@[simp] theorem presetQuiet_lines : (presetQuiet s).lines = s.lines := rfl
@[simp] theorem presetQuiet_tables : (presetQuiet s).tables = s.tables := rfl
@[simp] theorem presetQuiet_mirror : (presetQuiet s).mirror = s.mirror := rfl
@[simp] theorem presetQuiet_signals : (presetQuiet s).signals = s.signals := rfl
@[simp] theorem presetQuiet_exchanges : (presetQuiet s).exchanges = s.exchanges := rfl
@[simp] theorem presetQuiet_grants : (presetQuiet s).grants = s.grants := rfl
@[simp] theorem presetQuiet_inspector : (presetQuiet s).inspector = s.inspector := rfl
@[simp] theorem presetQuiet_meter : (presetQuiet s).meter = s.meter := rfl
@[simp] theorem presetQuiet_record : (presetQuiet s).record = s.record := rfl
@[simp] theorem presetQuiet_agent : (presetQuiet s).agent = s.agent := rfl
@[simp] theorem presetQuiet_store : (presetQuiet s).store = s.store := rfl

/-! ### `setChannelExchange` -/

@[simp] theorem setChannelExchange_pending (x : ChannelExchange) : (setChannelExchange x s).pending = s.pending := rfl
@[simp] theorem setChannelExchange_part (x : ChannelExchange) : (setChannelExchange x s).part = s.part := rfl
@[simp] theorem setChannelExchange_ports (x : ChannelExchange) : (setChannelExchange x s).ports = s.ports := rfl
@[simp] theorem setChannelExchange_lines (x : ChannelExchange) : (setChannelExchange x s).lines = s.lines := rfl
@[simp] theorem setChannelExchange_tables (x : ChannelExchange) : (setChannelExchange x s).tables = s.tables := rfl
@[simp] theorem setChannelExchange_mirror (x : ChannelExchange) : (setChannelExchange x s).mirror = s.mirror := rfl
@[simp] theorem setChannelExchange_signals (x : ChannelExchange) : (setChannelExchange x s).signals = s.signals := rfl
@[simp] theorem setChannelExchange_exchanges (x : ChannelExchange) :
    (setChannelExchange x s).exchanges = modifyFirst (isChannel x.id) (fun _ => .channel x) s.exchanges := rfl
@[simp] theorem setChannelExchange_grants (x : ChannelExchange) : (setChannelExchange x s).grants = s.grants := rfl
@[simp] theorem setChannelExchange_inspector (x : ChannelExchange) :
    (setChannelExchange x s).inspector = s.inspector := rfl
@[simp] theorem setChannelExchange_meter (x : ChannelExchange) : (setChannelExchange x s).meter = s.meter := rfl
@[simp] theorem setChannelExchange_record (x : ChannelExchange) : (setChannelExchange x s).record = s.record := rfl
@[simp] theorem setChannelExchange_agent (x : ChannelExchange) : (setChannelExchange x s).agent = s.agent := rfl
@[simp] theorem setChannelExchange_store (x : ChannelExchange) : (setChannelExchange x s).store = s.store := rfl

/-! ### `setMgmtExchange` -/

@[simp] theorem setMgmtExchange_pending (x : MgmtExchange) : (setMgmtExchange x s).pending = s.pending := rfl
@[simp] theorem setMgmtExchange_part (x : MgmtExchange) : (setMgmtExchange x s).part = s.part := rfl
@[simp] theorem setMgmtExchange_ports (x : MgmtExchange) : (setMgmtExchange x s).ports = s.ports := rfl
@[simp] theorem setMgmtExchange_lines (x : MgmtExchange) : (setMgmtExchange x s).lines = s.lines := rfl
@[simp] theorem setMgmtExchange_tables (x : MgmtExchange) : (setMgmtExchange x s).tables = s.tables := rfl
@[simp] theorem setMgmtExchange_mirror (x : MgmtExchange) : (setMgmtExchange x s).mirror = s.mirror := rfl
@[simp] theorem setMgmtExchange_signals (x : MgmtExchange) : (setMgmtExchange x s).signals = s.signals := rfl
@[simp] theorem setMgmtExchange_exchanges (x : MgmtExchange) :
    (setMgmtExchange x s).exchanges = modifyFirst (isMgmt x.id) (fun _ => .management x) s.exchanges := rfl
@[simp] theorem setMgmtExchange_grants (x : MgmtExchange) : (setMgmtExchange x s).grants = s.grants := rfl
@[simp] theorem setMgmtExchange_inspector (x : MgmtExchange) : (setMgmtExchange x s).inspector = s.inspector := rfl
@[simp] theorem setMgmtExchange_meter (x : MgmtExchange) : (setMgmtExchange x s).meter = s.meter := rfl
@[simp] theorem setMgmtExchange_record (x : MgmtExchange) : (setMgmtExchange x s).record = s.record := rfl
@[simp] theorem setMgmtExchange_agent (x : MgmtExchange) : (setMgmtExchange x s).agent = s.agent := rfl
@[simp] theorem setMgmtExchange_store (x : MgmtExchange) : (setMgmtExchange x s).store = s.store := rfl

/-! ### `dropChannelExchange` -/

@[simp] theorem dropChannelExchange_pending (n : Nat) : (dropChannelExchange n s).pending = s.pending := rfl
@[simp] theorem dropChannelExchange_part (n : Nat) : (dropChannelExchange n s).part = s.part := rfl
@[simp] theorem dropChannelExchange_ports (n : Nat) : (dropChannelExchange n s).ports = s.ports := rfl
@[simp] theorem dropChannelExchange_lines (n : Nat) : (dropChannelExchange n s).lines = s.lines := rfl
@[simp] theorem dropChannelExchange_tables (n : Nat) : (dropChannelExchange n s).tables = s.tables := rfl
@[simp] theorem dropChannelExchange_mirror (n : Nat) : (dropChannelExchange n s).mirror = s.mirror := rfl
@[simp] theorem dropChannelExchange_signals (n : Nat) : (dropChannelExchange n s).signals = s.signals := rfl
@[simp] theorem dropChannelExchange_exchanges (n : Nat) :
    (dropChannelExchange n s).exchanges = s.exchanges.eraseP (isChannel n) := rfl
@[simp] theorem dropChannelExchange_grants (n : Nat) : (dropChannelExchange n s).grants = s.grants := rfl
@[simp] theorem dropChannelExchange_inspector (n : Nat) : (dropChannelExchange n s).inspector = s.inspector := rfl
@[simp] theorem dropChannelExchange_meter (n : Nat) : (dropChannelExchange n s).meter = s.meter := rfl
@[simp] theorem dropChannelExchange_record (n : Nat) : (dropChannelExchange n s).record = s.record := rfl
@[simp] theorem dropChannelExchange_agent (n : Nat) : (dropChannelExchange n s).agent = s.agent := rfl
@[simp] theorem dropChannelExchange_store (n : Nat) : (dropChannelExchange n s).store = s.store := rfl

/-! ### `answer` -/

@[simp] theorem answer_pending (n : Nat) (reply : List Byte) : (answer n reply s).pending = s.pending := rfl
@[simp] theorem answer_part (n : Nat) (reply : List Byte) : (answer n reply s).part = s.part := rfl
@[simp] theorem answer_ports (n : Nat) (reply : List Byte) : (answer n reply s).ports = s.ports := rfl
@[simp] theorem answer_lines (n : Nat) (reply : List Byte) : (answer n reply s).lines = s.lines := rfl
@[simp] theorem answer_tables (n : Nat) (reply : List Byte) : (answer n reply s).tables = s.tables := rfl
@[simp] theorem answer_mirror (n : Nat) (reply : List Byte) : (answer n reply s).mirror = s.mirror := rfl
@[simp] theorem answer_signals (n : Nat) (reply : List Byte) : (answer n reply s).signals = s.signals := rfl
@[simp] theorem answer_grants (n : Nat) (reply : List Byte) : (answer n reply s).grants = s.grants := rfl
@[simp] theorem answer_inspector (n : Nat) (reply : List Byte) : (answer n reply s).inspector = s.inspector := rfl
@[simp] theorem answer_meter (n : Nat) (reply : List Byte) : (answer n reply s).meter = s.meter := rfl
@[simp] theorem answer_record (n : Nat) (reply : List Byte) : (answer n reply s).record = s.record := rfl
@[simp] theorem answer_agent (n : Nat) (reply : List Byte) : (answer n reply s).agent = s.agent := rfl
@[simp] theorem answer_store (n : Nat) (reply : List Byte) : (answer n reply s).store = s.store := rfl

/-! ### `unlink` -/

@[simp] theorem unlink_pending (w : Fin 2) : (unlink w s).pending = s.pending := rfl
@[simp] theorem unlink_part (w : Fin 2) : (unlink w s).part = s.part := rfl
@[simp] theorem unlink_ports (w : Fin 2) : (unlink w s).ports = s.ports := rfl
@[simp] theorem unlink_lines (w : Fin 2) : (unlink w s).lines = s.lines := rfl
@[simp] theorem unlink_tables (w : Fin 2) : (unlink w s).tables = s.tables := rfl
@[simp] theorem unlink_mirror (w : Fin 2) : (unlink w s).mirror = s.mirror := rfl
@[simp] theorem unlink_signals (w : Fin 2) : (unlink w s).signals = s.signals := rfl
@[simp] theorem unlink_grants (w : Fin 2) : (unlink w s).grants = s.grants := rfl
@[simp] theorem unlink_inspector (w : Fin 2) : (unlink w s).inspector = s.inspector := rfl
@[simp] theorem unlink_meter (w : Fin 2) : (unlink w s).meter = s.meter := rfl
@[simp] theorem unlink_record (w : Fin 2) : (unlink w s).record = s.record := rfl
@[simp] theorem unlink_agent (w : Fin 2) : (unlink w s).agent = s.agent := rfl
@[simp] theorem unlink_store (w : Fin 2) : (unlink w s).store = s.store := rfl

/-! ### `joinList` -/

@[simp] theorem joinList_pending (x : ChannelExchange) : (joinList x s).pending = s.pending := rfl
@[simp] theorem joinList_part (x : ChannelExchange) :
    (joinList x s).part = { s.part with stamp := s.part.stamp + 1 } := rfl
@[simp] theorem joinList_ports (x : ChannelExchange) : (joinList x s).ports = s.ports := rfl
@[simp] theorem joinList_lines (x : ChannelExchange) : (joinList x s).lines = s.lines := rfl
@[simp] theorem joinList_tables (x : ChannelExchange) : (joinList x s).tables = s.tables := rfl
@[simp] theorem joinList_mirror (x : ChannelExchange) : (joinList x s).mirror = s.mirror := rfl
@[simp] theorem joinList_signals (x : ChannelExchange) : (joinList x s).signals = s.signals := rfl
@[simp] theorem joinList_exchanges (x : ChannelExchange) : (joinList x s).exchanges = s.exchanges ++ [.channel x] := rfl
@[simp] theorem joinList_grants (x : ChannelExchange) : (joinList x s).grants = s.grants := rfl
@[simp] theorem joinList_inspector (x : ChannelExchange) : (joinList x s).inspector = s.inspector := rfl
@[simp] theorem joinList_meter (x : ChannelExchange) : (joinList x s).meter = s.meter := rfl
@[simp] theorem joinList_record (x : ChannelExchange) : (joinList x s).record = s.record := rfl
@[simp] theorem joinList_agent (x : ChannelExchange) : (joinList x s).agent = s.agent := rfl
@[simp] theorem joinList_store (x : ChannelExchange) : (joinList x s).store = s.store := rfl

/-! ### `joinMgmt` -/

@[simp] theorem joinMgmt_pending (x : MgmtExchange) : (joinMgmt x s).pending = s.pending := rfl
@[simp] theorem joinMgmt_part (x : MgmtExchange) :
    (joinMgmt x s).part = { s.part with stamp := s.part.stamp + 1 } := rfl
@[simp] theorem joinMgmt_ports (x : MgmtExchange) : (joinMgmt x s).ports = s.ports := rfl
@[simp] theorem joinMgmt_lines (x : MgmtExchange) : (joinMgmt x s).lines = s.lines := rfl
@[simp] theorem joinMgmt_tables (x : MgmtExchange) : (joinMgmt x s).tables = s.tables := rfl
@[simp] theorem joinMgmt_mirror (x : MgmtExchange) : (joinMgmt x s).mirror = s.mirror := rfl
@[simp] theorem joinMgmt_signals (x : MgmtExchange) : (joinMgmt x s).signals = s.signals := rfl
@[simp] theorem joinMgmt_exchanges (x : MgmtExchange) : (joinMgmt x s).exchanges = s.exchanges ++ [.management x] := rfl
@[simp] theorem joinMgmt_grants (x : MgmtExchange) : (joinMgmt x s).grants = s.grants := rfl
@[simp] theorem joinMgmt_inspector (x : MgmtExchange) : (joinMgmt x s).inspector = s.inspector := rfl
@[simp] theorem joinMgmt_meter (x : MgmtExchange) : (joinMgmt x s).meter = s.meter := rfl
@[simp] theorem joinMgmt_record (x : MgmtExchange) : (joinMgmt x s).record = s.record := rfl
@[simp] theorem joinMgmt_agent (x : MgmtExchange) : (joinMgmt x s).agent = s.agent := rfl
@[simp] theorem joinMgmt_store (x : MgmtExchange) : (joinMgmt x s).store = s.store := rfl

/-! ### `closeMgmt` -/

@[simp] theorem closeMgmt_pending (n : Nat) : (closeMgmt n s).pending = s.pending := rfl
@[simp] theorem closeMgmt_part (n : Nat) : (closeMgmt n s).part = s.part := rfl
@[simp] theorem closeMgmt_ports (n : Nat) : (closeMgmt n s).ports = s.ports := rfl
@[simp] theorem closeMgmt_lines (n : Nat) : (closeMgmt n s).lines = s.lines := rfl
@[simp] theorem closeMgmt_tables (n : Nat) : (closeMgmt n s).tables = s.tables := rfl
@[simp] theorem closeMgmt_mirror (n : Nat) : (closeMgmt n s).mirror = s.mirror := rfl
@[simp] theorem closeMgmt_signals (n : Nat) : (closeMgmt n s).signals = s.signals := rfl
@[simp] theorem closeMgmt_exchanges (n : Nat) : (closeMgmt n s).exchanges = s.exchanges.eraseP (isMgmt n) := rfl
@[simp] theorem closeMgmt_grants (n : Nat) : (closeMgmt n s).grants = s.grants := rfl
@[simp] theorem closeMgmt_inspector (n : Nat) : (closeMgmt n s).inspector = s.inspector := rfl
@[simp] theorem closeMgmt_meter (n : Nat) : (closeMgmt n s).meter = s.meter := rfl
@[simp] theorem closeMgmt_record (n : Nat) : (closeMgmt n s).record = s.record := rfl
@[simp] theorem closeMgmt_agent (n : Nat) : (closeMgmt n s).agent = s.agent := rfl
@[simp] theorem closeMgmt_store (n : Nat) : (closeMgmt n s).store = s.store := rfl

/-! ### `mgmtFrameGone` -/

@[simp] theorem mgmtFrameGone_pending (n : Nat) : (mgmtFrameGone n s).pending = s.pending := rfl
@[simp] theorem mgmtFrameGone_part (n : Nat) : (mgmtFrameGone n s).part = s.part := rfl
@[simp] theorem mgmtFrameGone_ports (n : Nat) : (mgmtFrameGone n s).ports = s.ports := rfl
@[simp] theorem mgmtFrameGone_lines (n : Nat) : (mgmtFrameGone n s).lines = s.lines := rfl
@[simp] theorem mgmtFrameGone_tables (n : Nat) : (mgmtFrameGone n s).tables = s.tables := rfl
@[simp] theorem mgmtFrameGone_mirror (n : Nat) : (mgmtFrameGone n s).mirror = s.mirror := rfl
@[simp] theorem mgmtFrameGone_signals (n : Nat) : (mgmtFrameGone n s).signals = s.signals := rfl
@[simp] theorem mgmtFrameGone_exchanges (n : Nat) : (mgmtFrameGone n s).exchanges = s.exchanges := rfl
@[simp] theorem mgmtFrameGone_grants (n : Nat) : (mgmtFrameGone n s).grants = s.grants := rfl
@[simp] theorem mgmtFrameGone_inspector (n : Nat) : (mgmtFrameGone n s).inspector = s.inspector := rfl
@[simp] theorem mgmtFrameGone_meter (n : Nat) : (mgmtFrameGone n s).meter = s.meter := rfl
@[simp] theorem mgmtFrameGone_record (n : Nat) : (mgmtFrameGone n s).record = s.record := rfl
@[simp] theorem mgmtFrameGone_store (n : Nat) : (mgmtFrameGone n s).store = s.store := rfl
@[simp] theorem mgmtFrameGone_agent (n : Nat) :
    (mgmtFrameGone n s).agent = { s.agent with restart := restartAfter n s.agent.restart } := rfl

/-! ### `raise` -/

@[simp] theorem raise_pending (f : Attention → Attention) : (raise f s).pending = s.pending := rfl
@[simp] theorem raise_part (f : Attention → Attention) : (raise f s).part = s.part := rfl
@[simp] theorem raise_ports (f : Attention → Attention) : (raise f s).ports = s.ports := rfl
@[simp] theorem raise_lines (f : Attention → Attention) : (raise f s).lines = s.lines := rfl
@[simp] theorem raise_tables (f : Attention → Attention) : (raise f s).tables = s.tables := rfl
@[simp] theorem raise_mirror (f : Attention → Attention) : (raise f s).mirror = s.mirror := rfl
@[simp] theorem raise_signals (f : Attention → Attention) : (raise f s).signals = s.signals := rfl
@[simp] theorem raise_exchanges (f : Attention → Attention) : (raise f s).exchanges = s.exchanges := rfl
@[simp] theorem raise_grants (f : Attention → Attention) : (raise f s).grants = s.grants := rfl
@[simp] theorem raise_inspector (f : Attention → Attention) : (raise f s).inspector = s.inspector := rfl
@[simp] theorem raise_meter (f : Attention → Attention) : (raise f s).meter = s.meter := rfl
@[simp] theorem raise_record (f : Attention → Attention) : (raise f s).record = s.record := rfl
@[simp] theorem raise_agent (f : Attention → Attention) :
    (raise f s).agent = { s.agent with attention := f s.agent.attention } := rfl
@[simp] theorem raise_store (f : Attention → Attention) : (raise f s).store = s.store := rfl

/-! ### `pushStore` -/

@[simp] theorem pushStore_pending (r : StoreRequest) : (pushStore r s).pending = s.pending := rfl
@[simp] theorem pushStore_part (r : StoreRequest) : (pushStore r s).part = s.part := rfl
@[simp] theorem pushStore_ports (r : StoreRequest) : (pushStore r s).ports = s.ports := rfl
@[simp] theorem pushStore_lines (r : StoreRequest) : (pushStore r s).lines = s.lines := rfl
@[simp] theorem pushStore_tables (r : StoreRequest) : (pushStore r s).tables = s.tables := rfl
@[simp] theorem pushStore_mirror (r : StoreRequest) : (pushStore r s).mirror = s.mirror := rfl
@[simp] theorem pushStore_signals (r : StoreRequest) : (pushStore r s).signals = s.signals := rfl
@[simp] theorem pushStore_exchanges (r : StoreRequest) : (pushStore r s).exchanges = s.exchanges := rfl
@[simp] theorem pushStore_grants (r : StoreRequest) : (pushStore r s).grants = s.grants := rfl
@[simp] theorem pushStore_inspector (r : StoreRequest) : (pushStore r s).inspector = s.inspector := rfl
@[simp] theorem pushStore_meter (r : StoreRequest) : (pushStore r s).meter = s.meter := rfl
@[simp] theorem pushStore_record (r : StoreRequest) : (pushStore r s).record = s.record := rfl
@[simp] theorem pushStore_agent (r : StoreRequest) : (pushStore r s).agent = s.agent := rfl
@[simp] theorem pushStore_store (r : StoreRequest) :
    (pushStore r s).store = { s.store with queue := s.store.queue ++ [r] } := rfl

/-! ### `setQueue` -/

@[simp] theorem setQueue_pending (q : List StoreRequest) : (setQueue q s).pending = s.pending := rfl
@[simp] theorem setQueue_part (q : List StoreRequest) : (setQueue q s).part = s.part := rfl
@[simp] theorem setQueue_ports (q : List StoreRequest) : (setQueue q s).ports = s.ports := rfl
@[simp] theorem setQueue_lines (q : List StoreRequest) : (setQueue q s).lines = s.lines := rfl
@[simp] theorem setQueue_tables (q : List StoreRequest) : (setQueue q s).tables = s.tables := rfl
@[simp] theorem setQueue_mirror (q : List StoreRequest) : (setQueue q s).mirror = s.mirror := rfl
@[simp] theorem setQueue_signals (q : List StoreRequest) : (setQueue q s).signals = s.signals := rfl
@[simp] theorem setQueue_exchanges (q : List StoreRequest) : (setQueue q s).exchanges = s.exchanges := rfl
@[simp] theorem setQueue_grants (q : List StoreRequest) : (setQueue q s).grants = s.grants := rfl
@[simp] theorem setQueue_inspector (q : List StoreRequest) : (setQueue q s).inspector = s.inspector := rfl
@[simp] theorem setQueue_meter (q : List StoreRequest) : (setQueue q s).meter = s.meter := rfl
@[simp] theorem setQueue_record (q : List StoreRequest) : (setQueue q s).record = s.record := rfl
@[simp] theorem setQueue_agent (q : List StoreRequest) : (setQueue q s).agent = s.agent := rfl
@[simp] theorem setQueue_store (q : List StoreRequest) : (setQueue q s).store = { s.store with queue := q } := rfl

/-! ### `storeMark` -/

@[simp] theorem storeMark_pending (n : Nat) : (storeMark n s).pending = s.pending := rfl
@[simp] theorem storeMark_part (n : Nat) : (storeMark n s).part = s.part := rfl
@[simp] theorem storeMark_ports (n : Nat) : (storeMark n s).ports = s.ports := rfl
@[simp] theorem storeMark_lines (n : Nat) : (storeMark n s).lines = s.lines := rfl
@[simp] theorem storeMark_tables (n : Nat) : (storeMark n s).tables = s.tables := rfl
@[simp] theorem storeMark_mirror (n : Nat) : (storeMark n s).mirror = s.mirror := rfl
@[simp] theorem storeMark_signals (n : Nat) : (storeMark n s).signals = s.signals := rfl
@[simp] theorem storeMark_exchanges (n : Nat) : (storeMark n s).exchanges = s.exchanges := rfl
@[simp] theorem storeMark_grants (n : Nat) : (storeMark n s).grants = s.grants := rfl
@[simp] theorem storeMark_inspector (n : Nat) : (storeMark n s).inspector = s.inspector := rfl
@[simp] theorem storeMark_meter (n : Nat) : (storeMark n s).meter = s.meter := rfl
@[simp] theorem storeMark_record (n : Nat) : (storeMark n s).record = s.record := rfl
@[simp] theorem storeMark_agent (n : Nat) : (storeMark n s).agent = s.agent := rfl
@[simp] theorem storeMark_store (n : Nat) : (storeMark n s).store = { s.store with mark := .mark n } := rfl

/-! ### `storeFailures` -/

@[simp] theorem storeFailures_pending (n : Nat) : (storeFailures n s).pending = s.pending := rfl
@[simp] theorem storeFailures_part (n : Nat) : (storeFailures n s).part = s.part := rfl
@[simp] theorem storeFailures_ports (n : Nat) : (storeFailures n s).ports = s.ports := rfl
@[simp] theorem storeFailures_lines (n : Nat) : (storeFailures n s).lines = s.lines := rfl
@[simp] theorem storeFailures_tables (n : Nat) : (storeFailures n s).tables = s.tables := rfl
@[simp] theorem storeFailures_mirror (n : Nat) : (storeFailures n s).mirror = s.mirror := rfl
@[simp] theorem storeFailures_signals (n : Nat) : (storeFailures n s).signals = s.signals := rfl
@[simp] theorem storeFailures_exchanges (n : Nat) : (storeFailures n s).exchanges = s.exchanges := rfl
@[simp] theorem storeFailures_grants (n : Nat) : (storeFailures n s).grants = s.grants := rfl
@[simp] theorem storeFailures_inspector (n : Nat) : (storeFailures n s).inspector = s.inspector := rfl
@[simp] theorem storeFailures_meter (n : Nat) : (storeFailures n s).meter = s.meter := rfl
@[simp] theorem storeFailures_record (n : Nat) : (storeFailures n s).record = s.record := rfl
@[simp] theorem storeFailures_agent (n : Nat) : (storeFailures n s).agent = s.agent := rfl
@[simp] theorem storeFailures_store (n : Nat) : (storeFailures n s).store = { s.store with failures := .count n } := rfl

/-! ### `setEntries` -/

@[simp] theorem setEntries_pending (l : List StoredEntry) : (setEntries l s).pending = s.pending := rfl
@[simp] theorem setEntries_part (l : List StoredEntry) : (setEntries l s).part = s.part := rfl
@[simp] theorem setEntries_ports (l : List StoredEntry) : (setEntries l s).ports = s.ports := rfl
@[simp] theorem setEntries_lines (l : List StoredEntry) : (setEntries l s).lines = s.lines := rfl
@[simp] theorem setEntries_tables (l : List StoredEntry) : (setEntries l s).tables = s.tables := rfl
@[simp] theorem setEntries_mirror (l : List StoredEntry) : (setEntries l s).mirror = s.mirror := rfl
@[simp] theorem setEntries_signals (l : List StoredEntry) : (setEntries l s).signals = s.signals := rfl
@[simp] theorem setEntries_exchanges (l : List StoredEntry) : (setEntries l s).exchanges = s.exchanges := rfl
@[simp] theorem setEntries_grants (l : List StoredEntry) : (setEntries l s).grants = s.grants := rfl
@[simp] theorem setEntries_inspector (l : List StoredEntry) : (setEntries l s).inspector = s.inspector := rfl
@[simp] theorem setEntries_meter (l : List StoredEntry) : (setEntries l s).meter = s.meter := rfl
@[simp] theorem setEntries_record (l : List StoredEntry) : (setEntries l s).record = s.record := rfl
@[simp] theorem setEntries_agent (l : List StoredEntry) : (setEntries l s).agent = s.agent := rfl
@[simp] theorem setEntries_store (l : List StoredEntry) : (setEntries l s).store = { s.store with entries := l } := rfl

/-! ### `setImage` -/

@[simp] theorem setImage_pending (t : TableId) (i : Image) : (setImage t i s).pending = s.pending := rfl
@[simp] theorem setImage_part (t : TableId) (i : Image) : (setImage t i s).part = s.part := rfl
@[simp] theorem setImage_ports (t : TableId) (i : Image) : (setImage t i s).ports = s.ports := rfl
@[simp] theorem setImage_lines (t : TableId) (i : Image) : (setImage t i s).lines = s.lines := rfl
@[simp] theorem setImage_tables (t : TableId) (i : Image) : (setImage t i s).tables = s.tables := rfl
@[simp] theorem setImage_mirror (t : TableId) (i : Image) : (setImage t i s).mirror = s.mirror := rfl
@[simp] theorem setImage_signals (t : TableId) (i : Image) : (setImage t i s).signals = s.signals := rfl
@[simp] theorem setImage_exchanges (t : TableId) (i : Image) : (setImage t i s).exchanges = s.exchanges := rfl
@[simp] theorem setImage_grants (t : TableId) (i : Image) : (setImage t i s).grants = s.grants := rfl
@[simp] theorem setImage_inspector (t : TableId) (i : Image) : (setImage t i s).inspector = s.inspector := rfl
@[simp] theorem setImage_meter (t : TableId) (i : Image) : (setImage t i s).meter = s.meter := rfl
@[simp] theorem setImage_record (t : TableId) (i : Image) : (setImage t i s).record = s.record := rfl
@[simp] theorem setImage_agent (t : TableId) (i : Image) : (setImage t i s).agent = s.agent := rfl
@[simp] theorem setImage_store (t : TableId) (i : Image) :
    (setImage t i s).store = { s.store with images := put s.store.images (tableFin t) i } := rfl

/-! ### `addUnrecorded` -/

@[simp] theorem addUnrecorded_pending (n : Nat) : (addUnrecorded n s).pending = s.pending := rfl
@[simp] theorem addUnrecorded_part (n : Nat) : (addUnrecorded n s).part = s.part := rfl
@[simp] theorem addUnrecorded_ports (n : Nat) : (addUnrecorded n s).ports = s.ports := rfl
@[simp] theorem addUnrecorded_lines (n : Nat) : (addUnrecorded n s).lines = s.lines := rfl
@[simp] theorem addUnrecorded_tables (n : Nat) : (addUnrecorded n s).tables = s.tables := rfl
@[simp] theorem addUnrecorded_mirror (n : Nat) : (addUnrecorded n s).mirror = s.mirror := rfl
@[simp] theorem addUnrecorded_signals (n : Nat) : (addUnrecorded n s).signals = s.signals := rfl
@[simp] theorem addUnrecorded_exchanges (n : Nat) : (addUnrecorded n s).exchanges = s.exchanges := rfl
@[simp] theorem addUnrecorded_grants (n : Nat) : (addUnrecorded n s).grants = s.grants := rfl
@[simp] theorem addUnrecorded_inspector (n : Nat) : (addUnrecorded n s).inspector = s.inspector := rfl
@[simp] theorem addUnrecorded_meter (n : Nat) : (addUnrecorded n s).meter = s.meter := rfl
@[simp] theorem addUnrecorded_record (n : Nat) :
    (addUnrecorded n s).record = { s.record with unrecorded := min 65535 (s.record.unrecorded + n) } := rfl
@[simp] theorem addUnrecorded_agent (n : Nat) : (addUnrecorded n s).agent = s.agent := rfl
@[simp] theorem addUnrecorded_store (n : Nat) : (addUnrecorded n s).store = s.store := rfl

/-! ### `setRecord` -/

@[simp] theorem setRecord_pending (r : AccessRecord) : (setRecord r s).pending = s.pending := rfl
@[simp] theorem setRecord_part (r : AccessRecord) : (setRecord r s).part = s.part := rfl
@[simp] theorem setRecord_ports (r : AccessRecord) : (setRecord r s).ports = s.ports := rfl
@[simp] theorem setRecord_lines (r : AccessRecord) : (setRecord r s).lines = s.lines := rfl
@[simp] theorem setRecord_tables (r : AccessRecord) : (setRecord r s).tables = s.tables := rfl
@[simp] theorem setRecord_mirror (r : AccessRecord) : (setRecord r s).mirror = s.mirror := rfl
@[simp] theorem setRecord_signals (r : AccessRecord) : (setRecord r s).signals = s.signals := rfl
@[simp] theorem setRecord_exchanges (r : AccessRecord) : (setRecord r s).exchanges = s.exchanges := rfl
@[simp] theorem setRecord_grants (r : AccessRecord) : (setRecord r s).grants = s.grants := rfl
@[simp] theorem setRecord_inspector (r : AccessRecord) : (setRecord r s).inspector = s.inspector := rfl
@[simp] theorem setRecord_meter (r : AccessRecord) : (setRecord r s).meter = s.meter := rfl
@[simp] theorem setRecord_record (r : AccessRecord) : (setRecord r s).record = r := rfl
@[simp] theorem setRecord_agent (r : AccessRecord) : (setRecord r s).agent = s.agent := rfl
@[simp] theorem setRecord_store (r : AccessRecord) : (setRecord r s).store = s.store := rfl

/-! ### `setGrants` -/

@[simp] theorem setGrants_pending (l : List Grant) : (setGrants l s).pending = s.pending := rfl
@[simp] theorem setGrants_part (l : List Grant) : (setGrants l s).part = s.part := rfl
@[simp] theorem setGrants_ports (l : List Grant) : (setGrants l s).ports = s.ports := rfl
@[simp] theorem setGrants_lines (l : List Grant) : (setGrants l s).lines = s.lines := rfl
@[simp] theorem setGrants_tables (l : List Grant) : (setGrants l s).tables = s.tables := rfl
@[simp] theorem setGrants_mirror (l : List Grant) : (setGrants l s).mirror = s.mirror := rfl
@[simp] theorem setGrants_signals (l : List Grant) : (setGrants l s).signals = s.signals := rfl
@[simp] theorem setGrants_exchanges (l : List Grant) : (setGrants l s).exchanges = s.exchanges := rfl
@[simp] theorem setGrants_grants (l : List Grant) : (setGrants l s).grants = { s.grants with grants := l } := rfl
@[simp] theorem setGrants_inspector (l : List Grant) : (setGrants l s).inspector = s.inspector := rfl
@[simp] theorem setGrants_meter (l : List Grant) : (setGrants l s).meter = s.meter := rfl
@[simp] theorem setGrants_record (l : List Grant) : (setGrants l s).record = s.record := rfl
@[simp] theorem setGrants_agent (l : List Grant) : (setGrants l s).agent = s.agent := rfl
@[simp] theorem setGrants_store (l : List Grant) : (setGrants l s).store = s.store := rfl

/-! ### `updateGrant` -/

@[simp] theorem updateGrant_pending (n : Nat) (f : Grant → Grant) : (updateGrant n f s).pending = s.pending := rfl
@[simp] theorem updateGrant_part (n : Nat) (f : Grant → Grant) : (updateGrant n f s).part = s.part := rfl
@[simp] theorem updateGrant_ports (n : Nat) (f : Grant → Grant) : (updateGrant n f s).ports = s.ports := rfl
@[simp] theorem updateGrant_lines (n : Nat) (f : Grant → Grant) : (updateGrant n f s).lines = s.lines := rfl
@[simp] theorem updateGrant_tables (n : Nat) (f : Grant → Grant) : (updateGrant n f s).tables = s.tables := rfl
@[simp] theorem updateGrant_mirror (n : Nat) (f : Grant → Grant) : (updateGrant n f s).mirror = s.mirror := rfl
@[simp] theorem updateGrant_signals (n : Nat) (f : Grant → Grant) : (updateGrant n f s).signals = s.signals := rfl
@[simp] theorem updateGrant_exchanges (n : Nat) (f : Grant → Grant) : (updateGrant n f s).exchanges = s.exchanges := rfl
@[simp] theorem updateGrant_grants (n : Nat) (f : Grant → Grant) :
    (updateGrant n f s).grants = { s.grants with grants := modifyFirst (fun g => g.number == n) f s.grants.grants } :=
  rfl
@[simp] theorem updateGrant_inspector (n : Nat) (f : Grant → Grant) : (updateGrant n f s).inspector = s.inspector := rfl
@[simp] theorem updateGrant_meter (n : Nat) (f : Grant → Grant) : (updateGrant n f s).meter = s.meter := rfl
@[simp] theorem updateGrant_record (n : Nat) (f : Grant → Grant) : (updateGrant n f s).record = s.record := rfl
@[simp] theorem updateGrant_agent (n : Nat) (f : Grant → Grant) : (updateGrant n f s).agent = s.agent := rfl
@[simp] theorem updateGrant_store (n : Nat) (f : Grant → Grant) : (updateGrant n f s).store = s.store := rfl

/-! ### `dropGrant` -/

@[simp] theorem dropGrant_pending (n : Nat) : (dropGrant n s).pending = s.pending := rfl
@[simp] theorem dropGrant_part (n : Nat) : (dropGrant n s).part = s.part := rfl
@[simp] theorem dropGrant_ports (n : Nat) : (dropGrant n s).ports = s.ports := rfl
@[simp] theorem dropGrant_lines (n : Nat) : (dropGrant n s).lines = s.lines := rfl
@[simp] theorem dropGrant_tables (n : Nat) : (dropGrant n s).tables = s.tables := rfl
@[simp] theorem dropGrant_mirror (n : Nat) : (dropGrant n s).mirror = s.mirror := rfl
@[simp] theorem dropGrant_signals (n : Nat) : (dropGrant n s).signals = s.signals := rfl
@[simp] theorem dropGrant_exchanges (n : Nat) : (dropGrant n s).exchanges = s.exchanges := rfl
@[simp] theorem dropGrant_grants (n : Nat) :
    (dropGrant n s).grants = { s.grants with grants := s.grants.grants.eraseP (fun g => g.number == n) } := rfl
@[simp] theorem dropGrant_inspector (n : Nat) : (dropGrant n s).inspector = s.inspector := rfl
@[simp] theorem dropGrant_meter (n : Nat) : (dropGrant n s).meter = s.meter := rfl
@[simp] theorem dropGrant_record (n : Nat) : (dropGrant n s).record = s.record := rfl
@[simp] theorem dropGrant_agent (n : Nat) : (dropGrant n s).agent = s.agent := rfl
@[simp] theorem dropGrant_store (n : Nat) : (dropGrant n s).store = s.store := rfl

/-! ### `relamp` -/

@[simp] theorem relamp_pending : (relamp s).pending = s.pending := rfl
@[simp] theorem relamp_part : (relamp s).part = s.part := rfl
@[simp] theorem relamp_ports : (relamp s).ports = s.ports := rfl
@[simp] theorem relamp_lines : (relamp s).lines = s.lines := rfl
@[simp] theorem relamp_tables : (relamp s).tables = s.tables := rfl
@[simp] theorem relamp_mirror : (relamp s).mirror = s.mirror := rfl
@[simp] theorem relamp_signals : (relamp s).signals = s.signals := rfl
@[simp] theorem relamp_exchanges : (relamp s).exchanges = s.exchanges := rfl
@[simp] theorem relamp_grants : (relamp s).grants = { s.grants with lamp := lampOf s } := rfl
@[simp] theorem relamp_inspector : (relamp s).inspector = s.inspector := rfl
@[simp] theorem relamp_meter : (relamp s).meter = s.meter := rfl
@[simp] theorem relamp_record : (relamp s).record = s.record := rfl
@[simp] theorem relamp_agent : (relamp s).agent = s.agent := rfl
@[simp] theorem relamp_store : (relamp s).store = s.store := rfl

/-! ### `setWindow` -/

@[simp] theorem setWindow_pending (w : Fin 2) (x : Option Window) : (setWindow w x s).pending = s.pending := rfl
@[simp] theorem setWindow_part (w : Fin 2) (x : Option Window) : (setWindow w x s).part = s.part := rfl
@[simp] theorem setWindow_ports (w : Fin 2) (x : Option Window) : (setWindow w x s).ports = s.ports := rfl
@[simp] theorem setWindow_lines (w : Fin 2) (x : Option Window) : (setWindow w x s).lines = s.lines := rfl
@[simp] theorem setWindow_tables (w : Fin 2) (x : Option Window) : (setWindow w x s).tables = s.tables := rfl
@[simp] theorem setWindow_mirror (w : Fin 2) (x : Option Window) : (setWindow w x s).mirror = s.mirror := rfl
@[simp] theorem setWindow_signals (w : Fin 2) (x : Option Window) : (setWindow w x s).signals = s.signals := rfl
@[simp] theorem setWindow_exchanges (w : Fin 2) (x : Option Window) : (setWindow w x s).exchanges = s.exchanges := rfl
@[simp] theorem setWindow_grants (w : Fin 2) (x : Option Window) : (setWindow w x s).grants = s.grants := rfl
@[simp] theorem setWindow_inspector (w : Fin 2) (x : Option Window) :
    (setWindow w x s).inspector = { s.inspector with windows := put s.inspector.windows w x } := rfl
@[simp] theorem setWindow_meter (w : Fin 2) (x : Option Window) : (setWindow w x s).meter = s.meter := rfl
@[simp] theorem setWindow_record (w : Fin 2) (x : Option Window) : (setWindow w x s).record = s.record := rfl
@[simp] theorem setWindow_agent (w : Fin 2) (x : Option Window) : (setWindow w x s).agent = s.agent := rfl
@[simp] theorem setWindow_store (w : Fin 2) (x : Option Window) : (setWindow w x s).store = s.store := rfl

/-! ### `setBuffer` -/

@[simp] theorem setBuffer_pending (b : Fin 2) (bytes : List Byte) : (setBuffer b bytes s).pending = s.pending := rfl
@[simp] theorem setBuffer_part (b : Fin 2) (bytes : List Byte) : (setBuffer b bytes s).part = s.part := rfl
@[simp] theorem setBuffer_ports (b : Fin 2) (bytes : List Byte) : (setBuffer b bytes s).ports = s.ports := rfl
@[simp] theorem setBuffer_lines (b : Fin 2) (bytes : List Byte) : (setBuffer b bytes s).lines = s.lines := rfl
@[simp] theorem setBuffer_tables (b : Fin 2) (bytes : List Byte) : (setBuffer b bytes s).tables = s.tables := rfl
@[simp] theorem setBuffer_mirror (b : Fin 2) (bytes : List Byte) : (setBuffer b bytes s).mirror = s.mirror := rfl
@[simp] theorem setBuffer_signals (b : Fin 2) (bytes : List Byte) : (setBuffer b bytes s).signals = s.signals := rfl
@[simp] theorem setBuffer_exchanges (b : Fin 2) (bytes : List Byte) :
    (setBuffer b bytes s).exchanges = s.exchanges := rfl
@[simp] theorem setBuffer_grants (b : Fin 2) (bytes : List Byte) : (setBuffer b bytes s).grants = s.grants := rfl
@[simp] theorem setBuffer_inspector (b : Fin 2) (bytes : List Byte) :
    (setBuffer b bytes s).inspector = { s.inspector with buffers := put s.inspector.buffers b bytes } := rfl
@[simp] theorem setBuffer_meter (b : Fin 2) (bytes : List Byte) : (setBuffer b bytes s).meter = s.meter := rfl
@[simp] theorem setBuffer_record (b : Fin 2) (bytes : List Byte) : (setBuffer b bytes s).record = s.record := rfl
@[simp] theorem setBuffer_agent (b : Fin 2) (bytes : List Byte) : (setBuffer b bytes s).agent = s.agent := rfl
@[simp] theorem setBuffer_store (b : Fin 2) (bytes : List Byte) : (setBuffer b bytes s).store = s.store := rfl

/-! ### `setMirror` -/

@[simp] theorem setMirror_pending (i : Fin 32) (r : MirrorRun) : (setMirror i r s).pending = s.pending := rfl
@[simp] theorem setMirror_part (i : Fin 32) (r : MirrorRun) : (setMirror i r s).part = s.part := rfl
@[simp] theorem setMirror_ports (i : Fin 32) (r : MirrorRun) : (setMirror i r s).ports = s.ports := rfl
@[simp] theorem setMirror_lines (i : Fin 32) (r : MirrorRun) : (setMirror i r s).lines = s.lines := rfl
@[simp] theorem setMirror_tables (i : Fin 32) (r : MirrorRun) : (setMirror i r s).tables = s.tables := rfl
@[simp] theorem setMirror_mirror (i : Fin 32) (r : MirrorRun) : (setMirror i r s).mirror = put s.mirror i r := rfl
@[simp] theorem setMirror_signals (i : Fin 32) (r : MirrorRun) : (setMirror i r s).signals = s.signals := rfl
@[simp] theorem setMirror_exchanges (i : Fin 32) (r : MirrorRun) : (setMirror i r s).exchanges = s.exchanges := rfl
@[simp] theorem setMirror_grants (i : Fin 32) (r : MirrorRun) : (setMirror i r s).grants = s.grants := rfl
@[simp] theorem setMirror_inspector (i : Fin 32) (r : MirrorRun) : (setMirror i r s).inspector = s.inspector := rfl
@[simp] theorem setMirror_meter (i : Fin 32) (r : MirrorRun) : (setMirror i r s).meter = s.meter := rfl
@[simp] theorem setMirror_record (i : Fin 32) (r : MirrorRun) : (setMirror i r s).record = s.record := rfl
@[simp] theorem setMirror_agent (i : Fin 32) (r : MirrorRun) : (setMirror i r s).agent = s.agent := rfl
@[simp] theorem setMirror_store (i : Fin 32) (r : MirrorRun) : (setMirror i r s).store = s.store := rfl

/-! ### `clearMirrors` -/

@[simp] theorem clearMirrors_pending : (clearMirrors s).pending = s.pending := rfl
@[simp] theorem clearMirrors_part : (clearMirrors s).part = s.part := rfl
@[simp] theorem clearMirrors_ports : (clearMirrors s).ports = s.ports := rfl
@[simp] theorem clearMirrors_lines : (clearMirrors s).lines = s.lines := rfl
@[simp] theorem clearMirrors_tables : (clearMirrors s).tables = s.tables := rfl
@[simp] theorem clearMirrors_mirror : (clearMirrors s).mirror = Vector.replicate 32 .quiet := rfl
@[simp] theorem clearMirrors_signals : (clearMirrors s).signals = s.signals := rfl
@[simp] theorem clearMirrors_exchanges : (clearMirrors s).exchanges = s.exchanges := rfl
@[simp] theorem clearMirrors_grants : (clearMirrors s).grants = s.grants := rfl
@[simp] theorem clearMirrors_inspector : (clearMirrors s).inspector = s.inspector := rfl
@[simp] theorem clearMirrors_meter : (clearMirrors s).meter = s.meter := rfl
@[simp] theorem clearMirrors_record : (clearMirrors s).record = s.record := rfl
@[simp] theorem clearMirrors_agent : (clearMirrors s).agent = s.agent := rfl
@[simp] theorem clearMirrors_store : (clearMirrors s).store = s.store := rfl

/-! ### `clearFlags` -/

@[simp] theorem clearFlags_pending : (clearFlags s).pending = s.pending := rfl
@[simp] theorem clearFlags_part : (clearFlags s).part = s.part := rfl
@[simp] theorem clearFlags_ports : (clearFlags s).ports = s.ports := rfl
@[simp] theorem clearFlags_lines :
    (clearFlags s).lines = { s.lines with tooldetChanged := false, ignonChanged := false } := rfl
@[simp] theorem clearFlags_tables : (clearFlags s).tables = s.tables := rfl
@[simp] theorem clearFlags_mirror : (clearFlags s).mirror = s.mirror := rfl
@[simp] theorem clearFlags_signals : (clearFlags s).signals = s.signals := rfl
@[simp] theorem clearFlags_exchanges : (clearFlags s).exchanges = s.exchanges := rfl
@[simp] theorem clearFlags_grants : (clearFlags s).grants = s.grants := rfl
@[simp] theorem clearFlags_inspector : (clearFlags s).inspector = s.inspector := rfl
@[simp] theorem clearFlags_meter : (clearFlags s).meter = s.meter := rfl
@[simp] theorem clearFlags_record : (clearFlags s).record = s.record := rfl
@[simp] theorem clearFlags_agent : (clearFlags s).agent = s.agent := rfl
@[simp] theorem clearFlags_store : (clearFlags s).store = s.store := rfl

/-! ### `takeAttention` -/

@[simp] theorem takeAttention_pending : (takeAttention s).pending = s.pending := rfl
@[simp] theorem takeAttention_part : (takeAttention s).part = s.part := rfl
@[simp] theorem takeAttention_ports : (takeAttention s).ports = s.ports := rfl
@[simp] theorem takeAttention_lines : (takeAttention s).lines = s.lines := rfl
@[simp] theorem takeAttention_tables : (takeAttention s).tables = s.tables := rfl
@[simp] theorem takeAttention_mirror : (takeAttention s).mirror = s.mirror := rfl
@[simp] theorem takeAttention_signals : (takeAttention s).signals = s.signals := rfl
@[simp] theorem takeAttention_exchanges : (takeAttention s).exchanges = s.exchanges := rfl
@[simp] theorem takeAttention_grants : (takeAttention s).grants = s.grants := rfl
@[simp] theorem takeAttention_inspector : (takeAttention s).inspector = s.inspector := rfl
@[simp] theorem takeAttention_meter : (takeAttention s).meter = s.meter := rfl
@[simp] theorem takeAttention_record : (takeAttention s).record = s.record := rfl
@[simp] theorem takeAttention_agent :
    (takeAttention s).agent = { s.agent with attention := clearAttention s.agent.attention (firstAttention s) } := rfl
@[simp] theorem takeAttention_store : (takeAttention s).store = s.store := rfl

/-! ### `storeSlot` -/

@[simp] theorem storeSlot_pending (i : Fin 8) (x : Slot) : (storeSlot i x s).pending = s.pending := rfl
@[simp] theorem storeSlot_part (i : Fin 8) (x : Slot) : (storeSlot i x s).part = s.part := rfl
@[simp] theorem storeSlot_ports (i : Fin 8) (x : Slot) : (storeSlot i x s).ports = s.ports := rfl
@[simp] theorem storeSlot_lines (i : Fin 8) (x : Slot) : (storeSlot i x s).lines = s.lines := rfl
@[simp] theorem storeSlot_tables (i : Fin 8) (x : Slot) : (storeSlot i x s).tables = s.tables := rfl
@[simp] theorem storeSlot_mirror (i : Fin 8) (x : Slot) : (storeSlot i x s).mirror = s.mirror := rfl
@[simp] theorem storeSlot_signals (i : Fin 8) (x : Slot) : (storeSlot i x s).signals = s.signals := rfl
@[simp] theorem storeSlot_exchanges (i : Fin 8) (x : Slot) : (storeSlot i x s).exchanges = s.exchanges := rfl
@[simp] theorem storeSlot_grants (i : Fin 8) (x : Slot) :
    (storeSlot i x s).grants = { s.grants with slots := put s.grants.slots i x } := rfl
@[simp] theorem storeSlot_inspector (i : Fin 8) (x : Slot) : (storeSlot i x s).inspector = s.inspector := rfl
@[simp] theorem storeSlot_meter (i : Fin 8) (x : Slot) : (storeSlot i x s).meter = s.meter := rfl
@[simp] theorem storeSlot_record (i : Fin 8) (x : Slot) : (storeSlot i x s).record = s.record := rfl
@[simp] theorem storeSlot_agent (i : Fin 8) (x : Slot) : (storeSlot i x s).agent = s.agent := rfl
@[simp] theorem storeSlot_store (i : Fin 8) (x : Slot) :
    (storeSlot i x s).store = { s.store with slots := put s.store.slots i (.of x) } := rfl

/-! ### `setPort` -/

@[simp] theorem setPort_pending (p : Port) (x : PortState) : (s.setPort p x).pending = s.pending := by cases p <;> rfl
@[simp] theorem setPort_part (p : Port) (x : PortState) : (s.setPort p x).part = s.part := by cases p <;> rfl
@[simp] theorem setPort_lines (p : Port) (x : PortState) : (s.setPort p x).lines = s.lines := by cases p <;> rfl
@[simp] theorem setPort_tables (p : Port) (x : PortState) : (s.setPort p x).tables = s.tables := by cases p <;> rfl
@[simp] theorem setPort_mirror (p : Port) (x : PortState) : (s.setPort p x).mirror = s.mirror := by cases p <;> rfl
@[simp] theorem setPort_signals (p : Port) (x : PortState) : (s.setPort p x).signals = s.signals := by cases p <;> rfl
@[simp] theorem setPort_exchanges (p : Port) (x : PortState) :
    (s.setPort p x).exchanges = s.exchanges := by cases p <;> rfl
@[simp] theorem setPort_grants (p : Port) (x : PortState) : (s.setPort p x).grants = s.grants := by cases p <;> rfl
@[simp] theorem setPort_inspector (p : Port) (x : PortState) :
    (s.setPort p x).inspector = s.inspector := by cases p <;> rfl
@[simp] theorem setPort_meter (p : Port) (x : PortState) : (s.setPort p x).meter = s.meter := by cases p <;> rfl
@[simp] theorem setPort_record (p : Port) (x : PortState) : (s.setPort p x).record = s.record := by cases p <;> rfl
@[simp] theorem setPort_agent (p : Port) (x : PortState) : (s.setPort p x).agent = s.agent := by cases p <;> rfl
@[simp] theorem setPort_store (p : Port) (x : PortState) : (s.setPort p x).store = s.store := by cases p <;> rfl

/-! ### `count` -/

@[simp] theorem count_pending (p : Port) (f : Counters → Counters) :
    (s.count p f).pending = s.pending := by cases p <;> rfl
@[simp] theorem count_part (p : Port) (f : Counters → Counters) : (s.count p f).part = s.part := by cases p <;> rfl
@[simp] theorem count_lines (p : Port) (f : Counters → Counters) : (s.count p f).lines = s.lines := by cases p <;> rfl
@[simp] theorem count_tables (p : Port) (f : Counters → Counters) :
    (s.count p f).tables = s.tables := by cases p <;> rfl
@[simp] theorem count_mirror (p : Port) (f : Counters → Counters) :
    (s.count p f).mirror = s.mirror := by cases p <;> rfl
@[simp] theorem count_signals (p : Port) (f : Counters → Counters) :
    (s.count p f).signals = s.signals := by cases p <;> rfl
@[simp] theorem count_exchanges (p : Port) (f : Counters → Counters) :
    (s.count p f).exchanges = s.exchanges := by cases p <;> rfl
@[simp] theorem count_grants (p : Port) (f : Counters → Counters) :
    (s.count p f).grants = s.grants := by cases p <;> rfl
@[simp] theorem count_inspector (p : Port) (f : Counters → Counters) :
    (s.count p f).inspector = s.inspector := by cases p <;> rfl
@[simp] theorem count_meter (p : Port) (f : Counters → Counters) : (s.count p f).meter = s.meter := by cases p <;> rfl
@[simp] theorem count_record (p : Port) (f : Counters → Counters) :
    (s.count p f).record = s.record := by cases p <;> rfl
@[simp] theorem count_agent (p : Port) (f : Counters → Counters) : (s.count p f).agent = s.agent := by cases p <;> rfl
@[simp] theorem count_store (p : Port) (f : Counters → Counters) : (s.count p f).store = s.store := by cases p <;> rfl

/-! ### `setCredit` -/

@[simp] theorem setCredit_pending (n : Net) (v : Nat) : (s.setCredit n v).pending = s.pending := by cases n <;> rfl
@[simp] theorem setCredit_part (n : Net) (v : Nat) : (s.setCredit n v).part = s.part := by cases n <;> rfl
@[simp] theorem setCredit_ports (n : Net) (v : Nat) : (s.setCredit n v).ports = s.ports := by cases n <;> rfl
@[simp] theorem setCredit_lines (n : Net) (v : Nat) : (s.setCredit n v).lines = s.lines := by cases n <;> rfl
@[simp] theorem setCredit_tables (n : Net) (v : Nat) : (s.setCredit n v).tables = s.tables := by cases n <;> rfl
@[simp] theorem setCredit_mirror (n : Net) (v : Nat) : (s.setCredit n v).mirror = s.mirror := by cases n <;> rfl
@[simp] theorem setCredit_signals (n : Net) (v : Nat) : (s.setCredit n v).signals = s.signals := by cases n <;> rfl
@[simp] theorem setCredit_exchanges (n : Net) (v : Nat) :
    (s.setCredit n v).exchanges = s.exchanges := by cases n <;> rfl
@[simp] theorem setCredit_grants (n : Net) (v : Nat) : (s.setCredit n v).grants = s.grants := by cases n <;> rfl
@[simp] theorem setCredit_inspector (n : Net) (v : Nat) :
    (s.setCredit n v).inspector = s.inspector := by cases n <;> rfl
@[simp] theorem setCredit_record (n : Net) (v : Nat) : (s.setCredit n v).record = s.record := by cases n <;> rfl
@[simp] theorem setCredit_agent (n : Net) (v : Nat) : (s.setCredit n v).agent = s.agent := by cases n <;> rfl
@[simp] theorem setCredit_store (n : Net) (v : Nat) : (s.setCredit n v).store = s.store := by cases n <;> rfl

/-! ### `setSide` -/

@[simp] theorem setSide_pending (m : Mgmt) (x : Side) : (setSide m x s).pending = s.pending := by cases m <;> rfl
@[simp] theorem setSide_part (m : Mgmt) (x : Side) : (setSide m x s).part = s.part := by cases m <;> rfl
@[simp] theorem setSide_ports (m : Mgmt) (x : Side) : (setSide m x s).ports = s.ports := by cases m <;> rfl
@[simp] theorem setSide_lines (m : Mgmt) (x : Side) : (setSide m x s).lines = s.lines := by cases m <;> rfl
@[simp] theorem setSide_tables (m : Mgmt) (x : Side) : (setSide m x s).tables = s.tables := by cases m <;> rfl
@[simp] theorem setSide_mirror (m : Mgmt) (x : Side) : (setSide m x s).mirror = s.mirror := by cases m <;> rfl
@[simp] theorem setSide_signals (m : Mgmt) (x : Side) : (setSide m x s).signals = s.signals := by cases m <;> rfl
@[simp] theorem setSide_exchanges (m : Mgmt) (x : Side) : (setSide m x s).exchanges = s.exchanges := by cases m <;> rfl
@[simp] theorem setSide_grants (m : Mgmt) (x : Side) : (setSide m x s).grants = s.grants := by cases m <;> rfl
@[simp] theorem setSide_inspector (m : Mgmt) (x : Side) : (setSide m x s).inspector = s.inspector := by cases m <;> rfl
@[simp] theorem setSide_meter (m : Mgmt) (x : Side) : (setSide m x s).meter = s.meter := by cases m <;> rfl
@[simp] theorem setSide_record (m : Mgmt) (x : Side) : (setSide m x s).record = s.record := by cases m <;> rfl
@[simp] theorem setSide_store (m : Mgmt) (x : Side) : (setSide m x s).store = s.store := by cases m <;> rfl

/-! ### Ports, credits, windows and side answers as they are read back -/

@[simp] theorem setPort_port_self (p : Port) (x : PortState) : (s.setPort p x).port p = x := by cases p <;> rfl

theorem setPort_port (p q : Port) (x : PortState) : (s.setPort p x).port q = if q = p then x else s.port q := by
  cases p <;> cases q <;> rfl

@[simp] theorem count_port_self (p : Port) (f : Counters → Counters) :
    (s.count p f).port p = { s.port p with counters := f (s.port p).counters } := by cases p <;> rfl

@[simp] theorem setPort_channel (p : Port) (x : PortState) (c : Fin 16) :
    (s.setPort p x).channel c = s.channel c := by cases p <;> rfl

@[simp] theorem setPort_window (p : Port) (x : PortState) (w : Fin 2) :
    (s.setPort p x).window w = s.window w := by cases p <;> rfl

@[simp] theorem setPort_credit (p : Port) (x : PortState) (n : Net) : (s.setPort p x).credit n = s.credit n := by
  cases p <;> cases n <;> rfl

@[simp] theorem setCredit_credit_self (n : Net) (v : Nat) : (s.setCredit n v).credit n = v := by cases n <;> rfl

theorem setCredit_credit (n k : Net) (v : Nat) :
    (s.setCredit n v).credit k = if k = n then v else s.credit k := by cases n <;> cases k <;> rfl

@[simp] theorem setCredit_port (n : Net) (v : Nat) (p : Port) : (s.setCredit n v).port p = s.port p := by
  cases n <;> cases p <;> rfl

@[simp] theorem setSide_self (m : Mgmt) (x : Side) : sideOf (setSide m x s) m = x := by cases m <;> rfl

@[simp] theorem setSide_attention (m : Mgmt) (x : Side) : (setSide m x s).agent.attention = s.agent.attention := by
  cases m <;> rfl

@[simp] theorem setSide_restart (m : Mgmt) (x : Side) : (setSide m x s).agent.restart = s.agent.restart := by
  cases m <;> rfl

theorem get_eq_getElem {α : Type} {n : Nat} (v : Vector α n) (i : Fin n) : v.get i = v[i.val] := rfl

@[simp] theorem put_get_self {α : Type} {n : Nat} (v : Vector α n) (i : Fin n) (x : α) : (put v i x).get i = x := by
  simp [put, get_eq_getElem]

theorem put_get {α : Type} {n : Nat} (v : Vector α n) (i j : Fin n) (x : α) :
    (put v i x).get j = if j = i then x else v.get j := by
  simp [put, get_eq_getElem, Vector.getElem_set, Fin.ext_iff, eq_comm]

@[simp] theorem tabulate_get {α : Type} {n : Nat} (f : Fin n → α) (i : Fin n) : (tabulate n f).get i = f i := by
  simp [tabulate, get_eq_getElem]

@[simp] theorem mapAll_get {α β : Type} {n : Nat} (v : Vector α n) (f : α → β) (i : Fin n) :
    (mapAll v f).get i = f (v.get i) := by simp [mapAll]

@[simp] theorem setWindow_window_self (w : Fin 2) (x : Option Window) : (setWindow w x s).window w = x := by
  simp [State.window]

theorem setWindow_window (w u : Fin 2) (x : Option Window) :
    (setWindow w x s).window u = if u = w then x else s.window u := by
  simp [State.window, put_get]

end Sys2Proof.Machine
end

