-- ==== Sys2Proof/Laws/Exchanges.lean ====
section
/-! SUPPORT. The Pending Exchange List read back: finding, replacing and removing a record, under the list's law. -/

namespace Sys2Proof.Machine

open Sys2Proof Sys2Proof.Safety

/-! ### `modifyFirst` -/

theorem modifyFirst_append_miss {α : Type} {p : α → Bool} (f : α → α) {l : List α} (h : ∀ x ∈ l, p x = false)
    (r : List α) : modifyFirst p f (l ++ r) = l ++ modifyFirst p f r := by
  induction l with
  | nil => rfl
  | cons a l ih =>
    have ha := h a (by simp)
    simp only [List.cons_append, modifyFirst, ha]
    simp [ih (fun x hx => h x (by simp [hx]))]

theorem modifyFirst_none {α : Type} {p : α → Bool} (f : α → α) {l : List α} (h : ∀ x ∈ l, p x = false) :
    modifyFirst p f l = l := by
  simpa [modifyFirst] using modifyFirst_append_miss f h []

@[simp] theorem modifyFirst_length {α : Type} (p : α → Bool) (f : α → α) (l : List α) :
    (modifyFirst p f l).length = l.length := by
  induction l with
  | nil => rfl
  | cons a l ih => by_cases h : p a <;> simp [modifyFirst, h, ih]

/-- A change that keeps a key keeps the list of keys. -/
theorem modifyFirst_map {α β : Type} (p : α → Bool) (f : α → α) (k : α → β) (h : ∀ x, p x = true → k (f x) = k x)
    (l : List α) : (modifyFirst p f l).map k = l.map k := by
  induction l with
  | nil => rfl
  | cons a l ih => by_cases ha : p a <;> simp [modifyFirst, ha, ih, h]

/-- The same for a key that some elements have not. -/
theorem modifyFirst_filterMap {α β : Type} (p : α → Bool) (f : α → α) (k : α → Option β)
    (h : ∀ x, p x = true → k (f x) = k x) (l : List α) : (modifyFirst p f l).filterMap k = l.filterMap k := by
  induction l with
  | nil => rfl
  | cons a l ih => by_cases ha : p a <;> simp [modifyFirst, ha, ih, h, List.filterMap_cons]

/-- With distinct keys, changing the first element of a key changes every element of that key. -/
theorem modifyFirst_eq_map {α β : Type} [DecidableEq β] (k : α → β) (b : β) (f : α → α) {l : List α}
    (h : (l.map k).Nodup) :
    modifyFirst (fun x => decide (k x = b)) f l = l.map (fun x => if k x = b then f x else x) := by
  induction l with
  | nil => rfl
  | cons a l ih =>
    obtain ⟨hn, hl⟩ : k a ∉ l.map k ∧ (l.map k).Nodup := by simpa using h
    by_cases ha : k a = b
    · have hm : ∀ x ∈ l, (if k x = b then f x else x) = x :=
        fun x hx => if_neg (ha ▸ fun e => hn (e ▸ List.mem_map_of_mem hx))
      simp [modifyFirst, ha, List.map_congr_left hm]
    · simp [modifyFirst, ha, ih hl]

/-- With distinct keys, removing the first element of a key removes every element of that key. -/
theorem eraseP_eq_filter {α β : Type} [DecidableEq β] (k : α → β) (b : β) {l : List α} (h : (l.map k).Nodup) :
    l.eraseP (fun x => decide (k x = b)) = l.filter (fun x => decide (k x ≠ b)) := by
  induction l with
  | nil => rfl
  | cons a l ih =>
    obtain ⟨hn, hl⟩ : k a ∉ l.map k ∧ (l.map k).Nodup := by simpa using h
    by_cases ha : k a = b
    · have hm : l.filter (fun x => decide (k x ≠ b)) = l :=
        List.filter_eq_self.2 fun x hx => decide_eq_true (ha ▸ fun e => hn (e ▸ List.mem_map_of_mem hx))
      simpa [ha] using hm.symm
    · simp [ha, ih hl]

/-! ### Lists with distinct keys -/

theorem find?_key {α β : Type} [DecidableEq β] {k : α → β} {b : β} {l : List α} {x : α}
    (h : l.find? (fun y => decide (k y = b)) = some x) : x ∈ l ∧ k x = b :=
  ⟨List.mem_of_find?_eq_some h, by simpa using List.find?_some h⟩

/-- With distinct keys, an element of the list is the one found under its key. -/
theorem find?_of_mem {α β : Type} [DecidableEq β] (k : α → β) {l : List α} (h : (l.map k).Nodup) {x : α}
    (hx : x ∈ l) : l.find? (fun y => decide (k y = k x)) = some x := by
  cases hf : l.find? (fun y => decide (k y = k x)) with
  | none => simpa using List.find?_eq_none.1 hf x hx
  | some y => rw [List.inj_on_of_nodup_map h (find?_key hf).1 hx (find?_key hf).2]

/-! ### The records of the list by kind -/

def asChannel : Exchange → Option ChannelExchange
  | .channel x => some x
  | .management _ => none

def asMgmt : Exchange → Option MgmtExchange
  | .management x => some x
  | .channel _ => none

/-- The channel exchanges, in list order. -/
def channelRecords (s : State) : List ChannelExchange := s.exchanges.filterMap asChannel

/-- The management exchanges, in list order. -/
def mgmtRecords (s : State) : List MgmtExchange := s.exchanges.filterMap asMgmt

@[simp] theorem mem_channelRecords {s : State} {x : ChannelExchange} :
    x ∈ channelRecords s ↔ Exchange.channel x ∈ s.exchanges := by
  simp only [channelRecords, List.mem_filterMap]
  constructor
  · rintro ⟨e, he, h⟩; cases e <;> simp_all [asChannel]
  · exact fun h => ⟨_, h, rfl⟩

@[simp] theorem mem_mgmtRecords {s : State} {x : MgmtExchange} :
    x ∈ mgmtRecords s ↔ Exchange.management x ∈ s.exchanges := by
  simp only [mgmtRecords, List.mem_filterMap]
  constructor
  · rintro ⟨e, he, h⟩; cases e <;> simp_all [asMgmt]
  · exact fun h => ⟨_, h, rfl⟩

/-- Finding a record in the list is finding it among the records of its kind. -/
theorem findSome?_channel (p : ChannelExchange → Prop) [DecidablePred p] (l : List Exchange) :
    l.findSome? (fun e => match e with
      | .channel x => if p x then some x else none
      | .management _ => none) = (l.filterMap asChannel).find? (fun x => decide (p x)) := by
  induction l with
  | nil => rfl
  | cons e l ih =>
    cases e with
    | channel x => by_cases h : p x <;> simp [h, asChannel, ih]
    | management x => simpa [asChannel] using ih

theorem findSome?_mgmt (p : MgmtExchange → Prop) [DecidablePred p] (l : List Exchange) :
    l.findSome? (fun e => match e with
      | .management x => if p x then some x else none
      | .channel _ => none) = (l.filterMap asMgmt).find? (fun x => decide (p x)) := by
  induction l with
  | nil => rfl
  | cons e l ih =>
    cases e with
    | management x => by_cases h : p x <;> simp [h, asMgmt, ih]
    | channel x => simpa [asMgmt] using ih

theorem channelExchange_eq (s : State) (c : Fin 16) :
    channelExchange s c = (channelRecords s).find? (fun x => decide (x.channel = c)) := findSome?_channel _ _

theorem ownedExchange_eq (s : State) (n : Nat) :
    ownedExchange s n = (channelRecords s).find? (fun x => decide (x.id = n)) := findSome?_channel _ _

theorem linkedExchange_eq (s : State) (w : Fin 2) :
    linkedExchange s w = (channelRecords s).find? (fun x => decide (x.window = some w)) := findSome?_channel _ _

theorem mgmtExchange_eq (s : State) (m : Mgmt) :
    mgmtExchange s m = (mgmtRecords s).find? (fun x => decide (x.chan = m)) := findSome?_mgmt _ _

theorem mgmtOwned_eq (s : State) (n : Nat) :
    mgmtOwned s n = (mgmtRecords s).find? (fun x => decide (x.id = n)) := findSome?_mgmt _ _

/-! ### Finding a record -/

theorem channelExchange_some {s : State} {c : Fin 16} {x : ChannelExchange} (h : channelExchange s c = some x) :
    Exchange.channel x ∈ s.exchanges ∧ x.channel = c := by
  rw [channelExchange_eq] at h; simpa using find?_key h

theorem ownedExchange_some {s : State} {n : Nat} {x : ChannelExchange} (h : ownedExchange s n = some x) :
    Exchange.channel x ∈ s.exchanges ∧ x.id = n := by
  rw [ownedExchange_eq] at h; simpa using find?_key h

theorem linkedExchange_some {s : State} {w : Fin 2} {x : ChannelExchange} (h : linkedExchange s w = some x) :
    Exchange.channel x ∈ s.exchanges ∧ x.window = some w := by
  rw [linkedExchange_eq] at h; simpa using find?_key h

theorem mgmtExchange_some {s : State} {m : Mgmt} {x : MgmtExchange} (h : mgmtExchange s m = some x) :
    Exchange.management x ∈ s.exchanges ∧ x.chan = m := by
  rw [mgmtExchange_eq] at h; simpa using find?_key h

theorem mgmtOwned_some {s : State} {n : Nat} {x : MgmtExchange} (h : mgmtOwned s n = some x) :
    Exchange.management x ∈ s.exchanges ∧ x.id = n := by
  rw [mgmtOwned_eq] at h; simpa using find?_key h

/-! ### The list's law, kind by kind -/

theorem pendingChannels_eq (s : State) : pendingChannels s = (channelRecords s).map (·.channel) := by
  simp only [channelRecords, List.map_filterMap]
  exact List.filterMap_congr (fun e _ => by cases e <;> rfl)

theorem pendingMgmt_eq (s : State) : pendingMgmt s = (mgmtRecords s).map (·.chan) := by
  simp only [mgmtRecords, List.map_filterMap]
  exact List.filterMap_congr (fun e _ => by cases e <;> rfl)

/-- The number of a record. -/
def Exchange.number : Exchange → Nat
  | .channel x => x.id
  | .management x => x.id

theorem pendingIds_eq (s : State) : pendingIds s = s.exchanges.map Exchange.number :=
  List.map_congr_left (fun e _ => by cases e <;> rfl)

theorem channelRecords_distinct {s : State} (h : exchangeLaw s) :
    ((channelRecords s).map (·.channel)).Nodup ∧ ((channelRecords s).map (·.id)).Nodup := by
  obtain ⟨hc, -, hi, -⟩ := h
  rw [pendingChannels_eq] at hc
  refine ⟨hc, ?_⟩
  rw [pendingIds_eq] at hi
  simp only [channelRecords]
  revert hi
  generalize s.exchanges = l
  intro hi
  have : List.Sublist ((l.filterMap asChannel).map (·.id)) (l.map Exchange.number) := by
    clear hi
    induction l with
    | nil => exact List.Sublist.slnil
    | cons e l ih =>
      cases e with
      | channel x => exact ih.cons_cons _
      | management x => exact ih.cons _
  exact this.nodup hi

theorem mgmtRecords_distinct {s : State} (h : exchangeLaw s) :
    ((mgmtRecords s).map (·.chan)).Nodup ∧ ((mgmtRecords s).map (·.id)).Nodup := by
  obtain ⟨-, hc, hi, -⟩ := h
  rw [pendingMgmt_eq] at hc
  refine ⟨hc, ?_⟩
  rw [pendingIds_eq] at hi
  simp only [mgmtRecords]
  revert hi
  generalize s.exchanges = l
  intro hi
  have : List.Sublist ((l.filterMap asMgmt).map (·.id)) (l.map Exchange.number) := by
    clear hi
    induction l with
    | nil => exact List.Sublist.slnil
    | cons e l ih =>
      cases e with
      | management x => exact ih.cons_cons _
      | channel x => exact ih.cons _
  exact this.nodup hi

/-- Under the list's law a record is found under its channel and under its number. -/
theorem channelExchange_of_mem {s : State} {x : ChannelExchange} (hs : exchangeLaw s)
    (h : Exchange.channel x ∈ s.exchanges) :
    channelExchange s x.channel = some x ∧ ownedExchange s x.id = some x := by
  have hx : x ∈ channelRecords s := by simpa using h
  rw [channelExchange_eq, ownedExchange_eq]
  exact ⟨find?_of_mem _ (channelRecords_distinct hs).1 hx, find?_of_mem _ (channelRecords_distinct hs).2 hx⟩

theorem mgmtExchange_of_mem {s : State} {x : MgmtExchange} (hs : exchangeLaw s)
    (h : Exchange.management x ∈ s.exchanges) :
    mgmtExchange s x.chan = some x ∧ mgmtOwned s x.id = some x := by
  have hx : x ∈ mgmtRecords s := by simpa using h
  rw [mgmtExchange_eq, mgmtOwned_eq]
  exact ⟨find?_of_mem _ (mgmtRecords_distinct hs).1 hx, find?_of_mem _ (mgmtRecords_distinct hs).2 hx⟩

/-! ### Replacing and removing a record -/

@[simp] theorem mgmtRecords_setChannel (x : ChannelExchange) (s : State) :
    mgmtRecords (setChannelExchange x s) = mgmtRecords s :=
  modifyFirst_filterMap _ _ _ (fun e h => by cases e <;> simp_all [isChannel, asMgmt]) _

@[simp] theorem channelRecords_setMgmt (x : MgmtExchange) (s : State) :
    channelRecords (setMgmtExchange x s) = channelRecords s :=
  modifyFirst_filterMap _ _ _ (fun e h => by cases e <;> simp_all [isMgmt, asChannel]) _

/-- Under the list's law, putting a record in its place changes the record of its number and no other. -/
theorem channelRecords_setChannel {s : State} (hs : exchangeLaw s) (x : ChannelExchange) :
    channelRecords (setChannelExchange x s) = (channelRecords s).map (fun y => if y.id = x.id then x else y) := by
  rw [← modifyFirst_eq_map (·.id) x.id (fun _ => x) (channelRecords_distinct hs).2]
  simp only [channelRecords, setChannelExchange]
  induction s.exchanges with
  | nil => rfl
  | cons e l ih =>
    cases e with
    | channel y => by_cases h : y.id = x.id <;> simp [modifyFirst, isChannel, asChannel, h, ih]
    | management y => simpa [modifyFirst, isChannel, List.filterMap_cons, asChannel] using ih

theorem mgmtRecords_setMgmt {s : State} (hs : exchangeLaw s) (x : MgmtExchange) :
    mgmtRecords (setMgmtExchange x s) = (mgmtRecords s).map (fun y => if y.id = x.id then x else y) := by
  rw [← modifyFirst_eq_map (·.id) x.id (fun _ => x) (mgmtRecords_distinct hs).2]
  simp only [mgmtRecords, setMgmtExchange]
  induction s.exchanges with
  | nil => rfl
  | cons e l ih =>
    cases e with
    | management y => by_cases h : y.id = x.id <;> simp [modifyFirst, isMgmt, asMgmt, h, ih]
    | channel y => simpa [modifyFirst, isMgmt, List.filterMap_cons, asMgmt] using ih

theorem find?_replaced {α β γ : Type} [DecidableEq β] [DecidableEq γ] {i : α → β} {k : α → γ} {l : List α}
    (hi : (l.map i).Nodup) (hk : (l.map k).Nodup) {x y : α} (hx : x ∈ l) (hid : i y = i x) (hkey : k y = k x)
    (c : γ) : (l.map (fun z => if i z = i y then y else z)).find? (fun z => decide (k z = c)) =
      if c = k x then some y else l.find? (fun z => decide (k z = c)) := by
  induction l with
  | nil => cases hx
  | cons a l ih =>
    simp only [List.map_cons, List.nodup_cons] at hi hk
    rcases List.mem_cons.1 hx with rfl | h'
    · have : l.map (fun z => if i z = i y then y else z) = l := by
        conv_rhs => rw [← List.map_id l]
        refine List.map_congr_left (fun z hz => ?_)
        have : i z ≠ i x := fun e => hi.1 (by rw [← e]; exact List.mem_map_of_mem hz)
        simp [hid, this]
      by_cases hc : c = k x
      · simp [hid, hkey, hc]
      · have : ¬k x = c := fun e => hc e.symm
        have : l.map (fun z => if i z = i x then y else z) = l := by rwa [hid] at *
        simp [*]
    · have h1 : ¬i a = i x := fun e => hi.1 (by rw [e]; exact List.mem_map_of_mem h')
      have h2 : ¬k a = k x := fun e => hk.1 (by rw [e]; exact List.mem_map_of_mem h')
      by_cases hc : c = k x
      · have := ih hi.2 hk.2 h'
        simp_all
      · have := ih hi.2 hk.2 h'
        by_cases hac : k a = c <;> simp_all

/-- A record put in the place of the one with its number and channel is the one found on that channel; the other
channels keep theirs. -/
theorem setChannelExchange_found {s : State} {x y : ChannelExchange} (hs : exchangeLaw s)
    (h : channelExchange s x.channel = some x) (hid : y.id = x.id) (hch : y.channel = x.channel) (c : Fin 16) :
    channelExchange (setChannelExchange y s) c = if c = x.channel then some y else channelExchange s c := by
  rw [channelExchange_eq, channelRecords_setChannel hs, channelExchange_eq]
  exact find?_replaced (channelRecords_distinct hs).2 (channelRecords_distinct hs).1
    (by simpa using (channelExchange_some h).1) hid hch c

theorem setMgmtExchange_found {s : State} {x y : MgmtExchange} (hs : exchangeLaw s)
    (h : mgmtExchange s x.chan = some x) (hid : y.id = x.id) (hch : y.chan = x.chan) (m : Mgmt) :
    mgmtExchange (setMgmtExchange y s) m = if m = x.chan then some y else mgmtExchange s m := by
  rw [mgmtExchange_eq, mgmtRecords_setMgmt hs, mgmtExchange_eq]
  exact find?_replaced (mgmtRecords_distinct hs).2 (mgmtRecords_distinct hs).1
    (by simpa using (mgmtExchange_some h).1) hid hch m

@[simp] theorem setChannelExchange_mgmt (x : ChannelExchange) (s : State) (m : Mgmt) :
    mgmtExchange (setChannelExchange x s) m = mgmtExchange s m := by simp [mgmtExchange_eq]

@[simp] theorem setMgmtExchange_channel (x : MgmtExchange) (s : State) (c : Fin 16) :
    channelExchange (setMgmtExchange x s) c = channelExchange s c := by simp [channelExchange_eq]

/-- A record that joins the end of the list is found where none stood before it. -/
theorem joinList_channel (x : ChannelExchange) (s : State) (c : Fin 16) :
    channelExchange (joinList x s) c = (channelExchange s c).or (if x.channel = c then some x else none) := by
  simp only [channelExchange_eq, channelRecords, joinList_exchanges, List.filterMap_append, List.find?_append]
  by_cases h : x.channel = c <;> simp [asChannel, h]

theorem joinList_linked (x : ChannelExchange) (s : State) (w : Fin 2) :
    linkedExchange (joinList x s) w = (linkedExchange s w).or (if x.window = some w then some x else none) := by
  simp only [linkedExchange_eq, channelRecords, joinList_exchanges, List.filterMap_append, List.find?_append]
  by_cases h : x.window = some w <;> simp [asChannel, h]

end Sys2Proof.Machine
end

