-- ==== Sys2Proof/Laws/Ports.lean ====
section
/-! SUPPORT. What the release test and the offers to an outward queue do: they touch ports and credits only. -/

namespace Sys2Proof.Machine

open Sys2Proof Sys2Proof.Safety

/-! ### The release test (R135) -/

/-- The release test either does nothing, or charges the head's cost and marks the head released. -/
theorem testHead_cases (n : Net) (s : State) :
    (releasable s n = false ∧ testHead n s = s) ∨
    (∃ f rest, (s.port (netPort n)).out = f :: rest ∧ (s.port (netPort n)).status = .active ∧ f.released = false ∧
      frameCost f.frame * 100 ≤ s.credit n ∧ releasable s n = true ∧
      testHead n s = (s.setCredit n (s.credit n - frameCost f.frame * 100)).setPort (netPort n)
        { s.port (netPort n) with out := { f with released := true } :: rest }) := by
  by_cases h : releasable s n = true
  · right
    unfold releasable at h
    split at h
    · rename_i f rest hout
      simp only [Bool.and_eq_true, beq_iff_eq, Bool.not_eq_true', decide_eq_true_eq] at h
      refine ⟨f, rest, hout, h.1.1, h.1.2, h.2, ?_, ?_⟩
      · simp [releasable, hout, h]
      · simp [testHead, releasable, hout, h, headCost, releaseHead]
    · simp at h
  · left; exact ⟨by simpa using h, by simp [testHead, h]⟩

theorem testHead_touches (n : Net) (s : State) :
    testHead n s = { s with ports := (testHead n s).ports, meter := (testHead n s).meter } := by
  obtain ⟨_, h⟩ | ⟨f, rest, _, _, _, _, _, h⟩ := testHead_cases n s
  · rw [h]
  · rw [h]; cases n <;> rfl

theorem testPort_touches (p : Port) (s : State) :
    testPort p s = { s with ports := (testPort p s).ports, meter := (testPort p s).meter } := by
  cases p
  · rfl
  · exact testHead_touches .E s
  · exact testHead_touches .C s

/-- Beyond the released bit of a head, the release test leaves each port as it was. -/
theorem testHead_port (n : Net) (s : State) (p : Port) :
    (testHead n s).port p = { s.port p with out := ((testHead n s).port p).out } ∧
      queued (testHead n s) p = queued s p := by
  obtain ⟨_, h⟩ | ⟨f, rest, hout, _, _, _, _, h⟩ := testHead_cases n s
  · rw [h]; exact ⟨rfl, rfl⟩
  · rw [h]
    cases n <;> cases p <;> simp_all [State.setPort, State.setCredit, State.port, netPort, queued]

theorem testPort_port (p : Port) (s : State) (q : Port) :
    (testPort p s).port q = { s.port q with out := ((testPort p s).port q).out } ∧
      queued (testPort p s) q = queued s q := by
  cases p
  · exact ⟨rfl, rfl⟩
  · exact testHead_port .E s q
  · exact testHead_port .C s q

/-! ### Offers (R4 to R6) -/

theorem offerResult_hasRoom {s : State} {p : Port} (h : hasRoom s p) : offerResult (s.port p) = .joined := by
  simp [offerResult, h.1, h.2]

theorem offerState_touches (p : Port) (f : OutFrame) (s : State) :
    offerState p f s = { s with ports := (offerState p f s).ports, meter := (offerState p f s).meter } := by
  unfold offerState
  split
  · rw [testPort_touches]; cases p <;> rfl
  · cases p <;> rfl

/-- An offer to a queue with room: the frame stands last in the queue. -/
theorem offerState_queued {s : State} {p : Port} (h : hasRoom s p) (f : OutFrame) :
    queued (offerState p f s) p = queued s p ++ [f.frame] := by
  simp only [offerState, offerResult_hasRoom h]
  rw [(testPort_port p _ p).2]
  simp [queued]

theorem testPort_other {p q : Port} (h : q ≠ p) (s : State) : (testPort p s).port q = s.port q := by
  have key : ∀ n, q ≠ netPort n → (testHead n s).port q = s.port q := by
    intro n hn
    obtain ⟨_, e⟩ | ⟨f, rest, _, _, _, _, _, e⟩ := testHead_cases n s <;> simp [e, setPort_port, hn]
  cases p
  · rfl
  · exact key .E h
  · exact key .C h

/-- An offer leaves the other ports as they were. -/
theorem offerState_other {p q : Port} (h : q ≠ p) (f : OutFrame) (s : State) :
    (offerState p f s).port q = s.port q := by
  unfold offerState
  split
  · rw [testPort_other h, setPort_port]; simp [h]
  · simp [State.count, setPort_port, h]

/-- An offer to port W, which is not metered, when its queue has room. -/
theorem offerState_W {s : State} (h : hasRoom s .W) (f : OutFrame) : offerState .W f s = withReply s f := by
  simp [offerState, offerResult_hasRoom h, testPort, withReply]

/-- An offer to a full or WITHDRAWN port is discarded and counted. -/
theorem offerState_discarded {s : State} {p : Port} (h : ¬hasRoom s p) (f : OutFrame) :
    offerState p f s = s.count p (Counters.addDiscarded 1) := by
  unfold offerState
  have : offerResult (s.port p) ≠ .joined := by
    unfold offerResult
    cases hs : (s.port p).status
    · by_cases hl : (s.port p).out.length < 32
      · exact absurd ⟨hs, hl⟩ h
      · simp [hl]
    · simp
  split
  · contradiction
  · rfl

/-- Ports and credits apart, an offer changes nothing, and a port's FIFO, status, rate and score stay. -/
theorem offerState_port (p : Port) (f : OutFrame) (s : State) (q : Port) :
    ((offerState p f s).port q).rx = (s.port q).rx ∧ ((offerState p f s).port q).status = (s.port q).status ∧
      ((offerState p f s).port q).rate = (s.port q).rate ∧ ((offerState p f s).port q).fault = (s.port q).fault ∧
      ((offerState p f s).port q).recovery = (s.port q).recovery := by
  unfold offerState
  split
  · rw [(testPort_port p _ q).1]; by_cases h : q = p <;> simp [setPort_port, h]
  · by_cases h : q = p <;> simp [State.count, setPort_port, h]

/-- A gateway reply touches ports and credits only (R42). -/
theorem gatewayReply_touches (c : Fin 16) (code : Byte) (r : Nat) (s : State) :
    gatewayReply c code r s =
      { s with ports := (gatewayReply c code r s).ports, meter := (gatewayReply c code r s).meter } :=
  offerState_touches _ _ _

theorem gatewayReply_W {s : State} (h : hasRoom s .W) (c : Fin 16) (code : Byte) (r : Nat) :
    gatewayReply c code r s = withReply s (replyFrame s c code r) := by
  simp [gatewayReply, offerFree, offerState_W h, replyFrame, outFrame, negativeData]

end Sys2Proof.Machine
end

