-- ==== Sys2Proof/Laws/Kept.lean ====
section
/-! SUPPORT. What the ends of exchanges, windows and grants, and the passing of frames, leave as it was: one frame
lemma per operation. The provers cite these in place of unfolding the operation. -/

namespace Sys2Proof.Machine

open Sys2Proof Sys2Proof.Safety

/-- What every operation of the Exchange Tracker, the Download Inspector and the ends of grants keeps. -/
structure Kept (s t : State) : Prop where
  pending    : t.pending = s.pending
  awake      : t.part.awake = s.part.awake
  quiet      : t.part.quiet = s.part.quiet
  draws      : t.part.draws = s.part.draws
  stamp      : s.part.stamp ≤ t.part.stamp
  lines      : t.lines = s.lines
  signals    : t.signals = s.signals
  mirror     : t.mirror = s.mirror
  ports      : t.tables.ports = s.tables.ports
  channels   : t.tables.channels = s.tables.channels
  codes      : t.tables.codes = s.tables.codes
  policies   : t.tables.policies = s.tables.policies
  signalTab  : t.tables.signals = s.tables.signals
  mirrors    : t.tables.mirrors = s.tables.mirrors
  slots      : t.grants.slots = s.grants.slots
  challenge  : t.grants.challenge = s.grants.challenge
  lastCh     : t.grants.lastChallenge = s.grants.lastChallenge
  digest     : t.grants.digest = s.grants.digest
  failures   : t.grants.failures = s.grants.failures
  lockout    : t.grants.lockout = s.grants.lockout
  kept       : t.record.kept = s.record.kept
  partTime   : t.record.partTime = s.record.partTime
  second     : t.record.second = s.record.second
  sideW      : t.agent.sideW = s.agent.sideW
  sideC      : t.agent.sideC = s.agent.sideC
  restart    : t.agent.restart = s.agent.restart
  attention  : t.agent.attention = { s.agent.attention with downloadEnded := t.agent.attention.downloadEnded }
  images     : t.store.images = s.store.images
  stored     : t.store.slots = s.store.slots
  entries    : t.store.entries = s.store.entries
  count      : t.store.failures = s.store.failures
  mark       : t.store.mark = s.store.mark
  fallback   : t.store.fallback = s.store.fallback
  queue      : ∃ l : List Entry, t.store.queue = s.store.queue ++ l.map .append
  port       : ∀ p, (t.port p).rx = (s.port p).rx ∧ (t.port p).status = (s.port p).status ∧
    (t.port p).rate = (s.port p).rate ∧ (t.port p).fault = (s.port p).fault ∧
    (t.port p).recovery = (s.port p).recovery

theorem Kept.refl (s : State) : Kept s s := by
  constructor <;> first | rfl | exact ⟨[], by simp⟩ | simp

theorem Kept.trans {s t u : State} (h : Kept s t) (k : Kept t u) : Kept s u where
  pending := k.pending.trans h.pending
  awake := k.awake.trans h.awake
  quiet := k.quiet.trans h.quiet
  draws := k.draws.trans h.draws
  stamp := h.stamp.trans k.stamp
  lines := k.lines.trans h.lines
  signals := k.signals.trans h.signals
  mirror := k.mirror.trans h.mirror
  ports := k.ports.trans h.ports
  channels := k.channels.trans h.channels
  codes := k.codes.trans h.codes
  policies := k.policies.trans h.policies
  signalTab := k.signalTab.trans h.signalTab
  mirrors := k.mirrors.trans h.mirrors
  slots := k.slots.trans h.slots
  challenge := k.challenge.trans h.challenge
  lastCh := k.lastCh.trans h.lastCh
  digest := k.digest.trans h.digest
  failures := k.failures.trans h.failures
  lockout := k.lockout.trans h.lockout
  kept := k.kept.trans h.kept
  partTime := k.partTime.trans h.partTime
  second := k.second.trans h.second
  sideW := k.sideW.trans h.sideW
  sideC := k.sideC.trans h.sideC
  restart := k.restart.trans h.restart
  attention := by rw [k.attention, h.attention]
  images := k.images.trans h.images
  stored := k.stored.trans h.stored
  entries := k.entries.trans h.entries
  count := k.count.trans h.count
  mark := k.mark.trans h.mark
  fallback := k.fallback.trans h.fallback
  queue := by
    obtain ⟨l, hl⟩ := h.queue
    obtain ⟨m, hm⟩ := k.queue
    exact ⟨l ++ m, by simp [hm, hl]⟩
  port p := by
    obtain ⟨a, b, c, d, e⟩ := h.port p
    obtain ⟨a', b', c', d', e'⟩ := k.port p
    exact ⟨a'.trans a, b'.trans b, c'.trans c, d'.trans d, e'.trans e⟩

/-! ### The plain updates -/

section plain

variable (s : State)

theorem kept_nextStamp : Kept s (nextStamp s) := by
  constructor <;> first | rfl | exact ⟨[], by simp⟩ | simp [State.port]

theorem kept_setChannel (x : ChannelExchange) : Kept s (setChannelExchange x s) := by
  constructor <;> first | rfl | exact ⟨[], by simp⟩ | simp [State.port]

theorem kept_dropChannel (n : Nat) : Kept s (dropChannelExchange n s) := by
  constructor <;> first | rfl | exact ⟨[], by simp⟩ | simp [State.port]

theorem kept_joinList (x : ChannelExchange) : Kept s (joinList x s) := by
  constructor <;> first | rfl | exact ⟨[], by simp⟩ | simp [State.port]

theorem kept_unlink (w : Fin 2) : Kept s (unlink w s) := by
  constructor <;> first | rfl | exact ⟨[], by simp⟩ | simp [State.port]

theorem kept_setGrants (l : List Grant) : Kept s (setGrants l s) := by
  constructor <;> first | rfl | exact ⟨[], by simp⟩ | simp [State.port]

theorem kept_updateGrant (n : Nat) (f : Grant → Grant) : Kept s (updateGrant n f s) := kept_setGrants s _

theorem kept_dropGrant (n : Nat) : Kept s (dropGrant n s) := kept_setGrants s _

theorem kept_relamp : Kept s (relamp s) := by
  constructor <;> first | rfl | exact ⟨[], by simp⟩ | simp [State.port]

theorem kept_setWindow (w : Fin 2) (x : Option Window) : Kept s (setWindow w x s) := by
  constructor <;> first | rfl | exact ⟨[], by simp⟩ | simp [State.port]

theorem kept_setBuffer (b : Fin 2) (bytes : List Byte) : Kept s (setBuffer b bytes s) := by
  constructor <;> first | rfl | exact ⟨[], by simp⟩ | simp [State.port]

theorem kept_resolveOverlay (c : Fin 16) : Kept s (resolveOverlay c s) := by
  unfold resolveOverlay
  split
  · constructor <;> first | rfl | exact ⟨[], by simp⟩ | simp [State.port]
  · exact .refl s

theorem kept_raiseDownloadEnded : Kept s (raiseDownloadEnded s) := by
  constructor <;> first | rfl | exact ⟨[], by simp [raiseDownloadEnded]⟩ | simp [raiseDownloadEnded, State.port]

theorem kept_addUnrecorded (n : Nat) : Kept s (addUnrecorded n s) := by
  constructor <;> first | rfl | exact ⟨[], by simp⟩ | simp [State.port]

theorem kept_count (p : Port) (f : Counters → Counters) : Kept s (s.count p f) := by
  constructor <;>
    first
    | (cases p <;> rfl)
    | exact ⟨[], by simp⟩
    | simp
    | (intro q; by_cases h : q = p <;> simp [State.count, setPort_port, h])

theorem kept_writeEntry (d : Detail) (g : Option Nat) (k : Option (Fin 8)) (c : Option (Fin 16)) :
    Kept s (writeEntry d g k c s) := by
  unfold writeEntry
  split
  · constructor <;> first | rfl | exact ⟨[makeEntry s d g k c], by simp⟩ | simp [State.port]
  · exact kept_addUnrecorded s 1

theorem kept_appendEntry (d : Detail) (g : Option Nat) (k : Option (Fin 8)) (c : Option (Fin 16)) :
    Kept s (appendEntry d g k c s) := by
  unfold appendEntry
  split
  · exact kept_addUnrecorded s 1
  · exact kept_writeEntry s d g k c

theorem kept_appendInto (held : Bool) (d : Detail) (g : Option Nat) (k : Option (Fin 8)) (c : Option (Fin 16)) :
    Kept s (appendInto held d g k c s) := by
  unfold appendInto
  split
  · exact kept_writeEntry s d g k c
  · exact kept_appendEntry s d g k c

theorem kept_offerState (p : Port) (f : OutFrame) : Kept s (offerState p f s) := by
  have h := offerState_touches p f s
  have hp := offerState_port p f s
  revert h hp
  generalize offerState p f s = t
  intro h hp
  constructor <;> first | exact hp | (rw [h]; done) | (rw [h]; exact ⟨[], by simp⟩)

theorem kept_gatewayReply (c : Fin 16) (code : Byte) (r : Nat) : Kept s (gatewayReply c code r s) :=
  kept_offerState _ _ _

end plain

/-! ### Ends of grants and windows (R99, R104, R116, R117) -/

theorem kept_grantClose (g : Grant) (cause : CloseCause) (s : State) : Kept s (grantClose g cause s) :=
  ((kept_dropGrant s _).trans (kept_appendInto _ _ _ _ _ _)).trans (kept_relamp _)

theorem kept_reportTaken (g : Nat) (w : Fin 2) (s : State) : Kept s (reportTaken g w s) := kept_updateGrant _ _ _

theorem kept_reportActive (g : Nat) (w : Fin 2) (s : State) : Kept s (reportActive g w s) := kept_updateGrant _ _ _

theorem kept_reportEndedUnactivated (g : Nat) (w : Fin 2) (s : State) : Kept s (reportEndedUnactivated g w s) := by
  unfold reportEndedUnactivated
  repeat' split
  · exact (kept_updateGrant _ _ _).trans (kept_grantClose _ _ _)
  · exact kept_updateGrant _ _ _
  · exact .refl s
  · exact .refl s

theorem kept_reportEndedActive (g : Nat) (w : Fin 2) (s : State) : Kept s (reportEndedActive g w s) := by
  unfold reportEndedActive
  dsimp only
  repeat' split
  · exact (kept_updateGrant _ _ _).trans (kept_grantClose _ _ _)
  · exact (kept_updateGrant _ _ _).trans (kept_grantClose _ _ _)
  · exact kept_updateGrant _ _ _
  · exact .refl s
  · exact .refl s

theorem kept_removeWindow (w : Fin 2) (x : Window) (s : State) : Kept s (removeWindow w x s) :=
  (((kept_resolveOverlay s _).trans (kept_setWindow _ _ _)).trans (kept_unlink _ _)).trans (kept_relamp _)

theorem kept_appendEnded (w : Fin 2) (x : Window) (o : Outcome) (c : EndCause) (s : State) :
    Kept s (appendEnded w x o c s) :=
  ((kept_setWindow s _ _).trans (kept_appendInto _ _ _ _ _ _)).trans (kept_raiseDownloadEnded _)

theorem kept_endActive (w : Fin 2) (x : Window) (o : Outcome) (c : EndCause) (tell : Bool) (s : State) :
    Kept s (endActive w x o c tell s) := by
  unfold endActive
  dsimp only
  split
  · exact ((kept_appendEnded w x o c s).trans (kept_removeWindow _ _ _)).trans (kept_reportEndedActive _ _ _)
  · exact (kept_appendEnded w x o c s).trans (kept_removeWindow _ _ _)

theorem kept_endPendingSilent (w : Fin 2) (x : Window) (tell : Bool) (s : State) :
    Kept s (endPendingSilent w x tell s) := by
  unfold endPendingSilent
  dsimp only
  split
  · exact (kept_removeWindow _ _ _).trans (kept_reportEndedUnactivated _ _ _)
  · exact kept_removeWindow _ _ _

theorem kept_endPending (w : Fin 2) (x : Window) (o : Outcome) (c : EndCause) (tell : Bool) (s : State) :
    Kept s (endPending w x o c tell s) := by
  unfold endPending
  split
  · exact (kept_appendEnded _ _ _ _ _).trans (kept_endPendingSilent _ _ _ _)
  · exact kept_endPendingSilent _ _ _ _

theorem kept_endAborted (w : Fin 2) (x : Window) (c : EndCause) (tell : Bool) (s : State) :
    Kept s (endAborted w x c tell s) := by
  unfold endAborted
  split
  · exact kept_endActive _ _ _ _ _ _
  · exact kept_endPending _ _ _ _ _ _

theorem kept_closeLinked (w : Fin 2) (r : Reason) (s : State) : Kept s (closeLinked w r s) := by
  unfold closeLinked
  split
  · exact (kept_dropChannel _ _).trans (kept_gatewayReply _ _ _ _)
  · exact .refl s

theorem kept_abortWindow (w : Fin 2) (r : Reason) (c : EndCause) (tell : Bool) (s : State) :
    Kept s (abortWindow w r c tell s) := by
  unfold abortWindow
  split
  · exact (kept_closeLinked _ _ _).trans (kept_endAborted _ _ _ _ _)
  · exact .refl s

theorem kept_suspendTest (w : Fin 2) (s : State) : Kept s (suspendTest w s) := by
  unfold suspendTest
  repeat' split
  · exact kept_setWindow _ _ _
  · exact .refl s
  · exact .refl s

theorem kept_leaveWindow (w : Fin 2) (s : State) : Kept s (leaveWindow w s) := by
  unfold leaveWindow
  split
  · exact kept_setWindow _ _ _
  · exact .refl s

theorem kept_reopenWindow (w : Fin 2) (x : Window) (s : State) : Kept s (reopenWindow w x s) :=
  (kept_setWindow _ _ _).trans (kept_suspendTest _ _)

/-! ### Closes of exchanges, and offers on their behalf (R65, R66) -/

theorem kept_inspectorClosed (x : ChannelExchange) (c : Closing) (s : State) : Kept s (inspectorClosed x c s) := by
  unfold inspectorClosed
  repeat' split
  all_goals with_reducible first
    | exact .refl s
    | exact kept_endPendingSilent _ _ _ _
    | exact kept_endPending _ _ _ _ _ _
    | exact kept_endActive _ _ _ _ _ _
    | exact kept_reopenWindow _ _ _
    | exact kept_leaveWindow _ _

theorem kept_closeExchange (x : ChannelExchange) (c : Closing) (s : State) : Kept s (closeExchange x c s) := by
  unfold closeExchange
  dsimp only
  split
  · exact ((kept_dropChannel _ _).trans (kept_inspectorClosed _ _ _)).trans (kept_gatewayReply _ _ _ _)
  · exact (kept_dropChannel _ _).trans (kept_inspectorClosed _ _ _)

theorem kept_closeDownload (x : ChannelExchange) (r : Reason) (s : State) : Kept s (closeDownload x r s) := by
  unfold closeDownload
  dsimp only
  split
  · exact ((kept_dropChannel _ _).trans (kept_leaveWindow _ _)).trans (kept_gatewayReply _ _ _ _)
  · exact (kept_dropChannel _ _).trans (kept_gatewayReply _ _ _ _)

theorem kept_offerThen (x : ChannelExchange) (p : Port) (f : OutFrame) {go : State → State}
    (h : ∀ t, Kept t (go t)) (s : State) : Kept s (offerThen x p f go s) := by
  unfold offerThen
  split
  · exact (kept_offerState _ _ _).trans (h _)
  · exact (kept_offerState _ _ _).trans (kept_closeExchange _ _ _)

theorem kept_offerAll (x : ChannelExchange) (p : Port) {go : State → State} (h : ∀ t, Kept t (go t)) :
    ∀ (l : List OutFrame) (s : State), Kept s (offerAll x p go l s)
  | [], s => h s
  | f :: l, s => kept_offerThen x p f (kept_offerAll x p h l) s

/-- Put a record in its place, then take a new stamp. -/
theorem kept_setStamp (x : ChannelExchange) (s : State) : Kept s (nextStamp (setChannelExchange x s)) :=
  (kept_setChannel s x).trans (kept_nextStamp _)

/-! ### Download blocks and the watched conditions (R118 to R121, R125) -/

theorem kept_refuseTransfer (x : Window) (a n : Nat) (r : Reason) (s : State) : Kept s (refuseTransfer x a n r s) :=
  kept_appendEntry _ _ _ _ _

theorem kept_sendBlock (x : ChannelExchange) (v : Window) (s : State) : Kept s (sendBlock x v s) :=
  kept_offerThen _ _ _ (fun t => kept_setStamp _ t) s

theorem kept_checkBlock (w : Fin 2) (x : ChannelExchange) (v : Window) (s : State) : Kept s (checkBlock w x v s) := by
  unfold checkBlock
  repeat' split
  · exact (kept_refuseTransfer _ _ _ _ _).trans (kept_abortWindow _ _ _ _ _)
  · exact kept_sendBlock _ _ _
  · exact .refl s

theorem kept_sendFollows (n : Nat) (x : ChannelExchange) (s : State) : Kept s (sendFollows n x s) := by
  unfold sendFollows
  split
  · exact kept_offerAll _ _ (fun t => kept_setStamp _ t) _ s
  · exact .refl s

theorem kept_blockSent (x : ChannelExchange) (s : State) : Kept s (blockSent x s) := by
  unfold blockSent
  dsimp only
  repeat' split
  · exact (kept_setWindow _ _ _).trans (kept_setChannel _ _)
  · exact kept_setChannel _ _
  · exact kept_setChannel _ _

theorem kept_sendProceed (x : ChannelExchange) (s : State) : Kept s (sendProceed x s) :=
  kept_offerThen _ _ _ (fun t => kept_setStamp _ t) s

theorem kept_sendWait (x : ChannelExchange) (s : State) : Kept s (sendWait x s) :=
  kept_offerThen _ _ _ (fun t => .refl t) s

theorem kept_resumeWindow (w : Fin 2) (x : Window) (s : State) : Kept s (resumeWindow w x s) := by
  unfold resumeWindow
  dsimp only
  repeat' split
  · exact ((kept_setWindow _ _ _).trans (kept_setWindow _ _ _)).trans (kept_checkBlock _ _ _ _)
  · exact ((kept_setWindow _ _ _).trans (kept_setWindow _ _ _)).trans (kept_sendProceed _ _)
  · exact kept_setWindow _ _ _
  · exact kept_setWindow _ _ _

theorem kept_testWindow (w : Fin 2) (s : State) : Kept s (testWindow w s) := by
  unfold testWindow
  repeat' split
  · exact kept_resumeWindow _ _ _
  · exact .refl s
  · exact kept_suspendTest _ _
  · exact .refl s

/-- What a test of every window keeps (R125). -/
theorem kept_testWindows (s : State) : Kept s (testWindows s) := (kept_testWindow 0 s).trans (kept_testWindow 1 _)

/-- What the Condition Monitor's report keeps (R84). -/
theorem kept_reportConditions (c : BitVec 5) (s : State) : Kept s (reportConditions c s) := by
  unfold reportConditions
  split
  · exact .refl s
  · exact kept_testWindows s

theorem kept_refuseBlock (x : ChannelExchange) (r : Reason) (s : State) : Kept s (refuseBlock x r s) :=
  kept_closeDownload _ _ _

theorem kept_takeBlock (w : Fin 2) (x : ChannelExchange) (v : Window) (b : HandBlock) (s : State) :
    Kept s (takeBlock w x v b s) := by
  unfold takeBlock
  dsimp only
  split
  · exact (kept_setWindow _ _ _).trans (kept_setChannel _ _)
  · exact (kept_setWindow _ _ _).trans (kept_checkBlock _ _ _ _)

theorem kept_judgeBlock (x : ChannelExchange) (s : State) : Kept s (judgeBlock x s) := by
  unfold judgeBlock
  dsimp only
  repeat' split
  all_goals with_reducible first
    | exact .refl s
    | exact kept_refuseBlock _ _ _
    | exact (kept_refuseTransfer _ _ _ _ _).trans (kept_refuseBlock _ _ _)
    | exact kept_takeBlock _ _ _ _ _

theorem kept_stageFirst (x : ChannelExchange) (w : Fin 2) (v : Window) (first : Ssx) (s : State) :
    Kept s (stageFirst x w v first s) := by
  unfold stageFirst
  dsimp only
  repeat' split
  · exact ((kept_setWindow _ _ _).trans (kept_setBuffer _ _ _)).trans (kept_judgeBlock _ _)
  · exact (((kept_setBuffer _ _ _).trans (kept_setChannel _ _)).trans (kept_setWindow _ _ _)).trans (kept_sendWait _ _)
  · exact (((kept_setBuffer _ _ _).trans (kept_setChannel _ _)).trans (kept_setWindow _ _ _)).trans
      (kept_sendProceed _ _)
  · exact .refl s

theorem kept_stagingFrame (x : ChannelExchange) (f : Ssx) (s : State) : Kept s (stagingFrame x f s) := by
  unfold stagingFrame
  dsimp only
  repeat' split
  all_goals with_reducible first
    | exact kept_closeExchange _ _ _
    | exact kept_setChannel _ _
    | exact (kept_setChannel _ _).trans (kept_judgeBlock _ _)
    | exact ((kept_setBuffer _ _ _).trans (kept_setChannel _ _)).trans (kept_judgeBlock _ _)
    | exact (kept_setBuffer _ _ _).trans (kept_setChannel _ _)

/-! ### The Exchange Tracker (chapter 4) -/

theorem kept_takeWindow (c : Fin 16) (g : Nat) (k : Fin 8) (w : Fin 2) (s : State) : Kept s (takeWindow c g k w s) :=
  ((kept_setWindow _ _ _).trans (kept_reportTaken _ _ _)).trans (kept_relamp _)

theorem kept_passLast (x : ChannelExchange) (data : List Byte) (s : State) : Kept s (passLast x data s) :=
  kept_offerThen _ _ _ (fun t => kept_setChannel t _) s

theorem kept_judgeClose (x : ChannelExchange) (data : List Byte) (s : State) : Kept s (judgeClose x data s) := by
  unfold judgeClose
  repeat' split
  · exact kept_passLast _ _ _
  · exact kept_passLast _ _ _
  · exact kept_closeDownload _ _ _
  · exact (kept_setWindow _ _ _).trans (kept_passLast _ _ _)

theorem kept_refuseOpen (w : Fin 2) (v : Window) (msg : List Byte) (r : Reason) (range : Bool) (s : State) :
    Kept s (refuseOpen w v msg r range s) := by
  unfold refuseOpen
  dsimp only
  split
  · exact (((kept_closeLinked _ _ _).trans (kept_setWindow _ _ _)).trans (kept_appendInto _ _ _ _ _ _)).trans
      (kept_endPendingSilent _ _ _ _)
  · exact (kept_closeLinked _ _ _).trans (kept_endPendingSilent _ _ _ _)

theorem kept_judgeOpen (x : ChannelExchange) (msg data : List Byte) (s : State) : Kept s (judgeOpen x msg data s) := by
  unfold judgeOpen
  repeat' split
  · exact kept_passLast _ _ _
  · exact kept_passLast _ _ _
  · exact kept_refuseOpen _ _ _ _ _ _
  · exact (kept_setWindow _ _ _).trans (kept_passLast _ _ _)

theorem kept_judgeErase (x : ChannelExchange) (msg data : List Byte) (s : State) :
    Kept s (judgeErase x msg data s) := by
  unfold judgeErase
  dsimp only
  repeat' split
  all_goals with_reducible first
    | exact kept_passLast _ _ _
    | exact kept_closeDownload _ _ _
    | exact (kept_refuseTransfer _ _ _ _ _).trans (kept_closeDownload _ _ _)
    | exact (kept_refuseTransfer _ _ _ _ _).trans (kept_abortWindow _ _ _ _ _)

theorem kept_lastRequestFrame (x : ChannelExchange) (msg data : List Byte) (s : State) :
    Kept s (lastRequestFrame x msg data s) := by
  unfold lastRequestFrame
  split
  · exact kept_judgeOpen _ _ _ _
  · exact kept_judgeClose _ _ _
  · exact kept_judgeErase _ _ _ _
  · exact kept_passLast _ _ _

theorem kept_passFirst (x : ChannelExchange) (first : Ssx) (data : List Byte) (s : State) :
    Kept s (passFirst x first data s) := by
  unfold passFirst
  split
  · exact kept_lastRequestFrame _ _ _ _
  · exact kept_offerThen _ _ _ (fun t => kept_setStamp _ t) s
  · exact .refl s

theorem kept_stopIdle (w : Fin 2) (s : State) : Kept s (stopIdle w s) := by
  unfold stopIdle
  split
  · exact kept_setWindow _ _ _
  · exact .refl s

theorem kept_openStep (c : Fin 16) (code : Byte) (role : Role) (w : Fin 2) (first : Ssx) (data : List Byte)
    (s : State) : Kept s (openStep c code role w first data s) := by
  unfold openStep
  dsimp only
  repeat' split
  · exact ((kept_joinList _ _).trans (kept_stopIdle _ _)).trans (kept_stageFirst _ _ _ _ _)
  · exact (kept_joinList _ _).trans (kept_stopIdle _ _)
  · exact ((kept_joinList _ _).trans (kept_stopIdle _ _)).trans (kept_passFirst _ _ _ _)

theorem kept_newRequest (c : Fin 16) (first : Ssx) (msg data : List Byte) (s : State) :
    Kept s (newRequest c first msg data s) := by
  unfold newRequest
  dsimp only
  split
  · exact kept_gatewayReply _ _ _ _
  · exact (kept_joinList _ _).trans (kept_passFirst _ _ _ _)
  · exact kept_openStep _ _ _ _ _ _ _
  · exact ((kept_takeWindow _ _ _ _ _).trans (kept_joinList _ _)).trans (kept_passFirst _ _ _ _)

theorem kept_requestFollow (x : ChannelExchange) (i : Nat) (msg data : List Byte) (s : State) :
    Kept s (requestFollow x i msg data s) := by
  unfold requestFollow
  dsimp only
  split
  · exact kept_lastRequestFrame _ _ _ _
  · exact kept_offerThen _ _ _ (fun t => kept_setStamp _ t) s

theorem kept_requestPace (x : ChannelExchange) (a code gap : Nat) (data : List Byte) (s : State) :
    Kept s (requestPace x a code gap data s) := by
  unfold requestPace
  dsimp only
  repeat' split
  · exact kept_offerThen _ _ _ (fun t => kept_setStamp _ t) s
  · exact kept_offerThen _ _ _ (fun t => kept_setStamp _ t) s
  · exact kept_offerThen _ _ _ (fun t => kept_closeExchange _ _ t) s

theorem kept_replyPace (x : ChannelExchange) (a code gap : Nat) (data : List Byte) (s : State) :
    Kept s (replyPace x a code gap data s) := by
  unfold replyPace
  dsimp only
  repeat' split
  · exact kept_offerThen _ _ _ (fun t => kept_setStamp _ t) s
  · exact kept_offerThen _ _ _ (fun t => kept_setStamp _ t) s
  · exact kept_offerThen _ _ _ (fun t => kept_closeExchange _ _ t) s

theorem kept_acceptOpen (w : Fin 2) (v : Window) (bmax : Nat) (s : State) : Kept s (acceptOpen w v bmax s) :=
  (((kept_setWindow _ _ _).trans (kept_appendInto _ _ _ _ _ _)).trans (kept_reportActive _ _ _)).trans
    (kept_suspendTest _ _)

theorem kept_blockAnswered (w : Fin 2) (v : Window) (s : State) : Kept s (blockAnswered w v s) := by
  unfold blockAnswered
  split
  · exact kept_setWindow _ _ _
  · exact .refl s

theorem kept_inspectReply (x : ChannelExchange) (form : ReplyForm) (msg data : List Byte) (s : State) :
    Kept s (inspectReply x form msg data s).1 := by
  unfold inspectReply
  dsimp only
  repeat' split
  all_goals with_reducible first
    | exact .refl s
    | exact (kept_closeLinked _ _ _).trans (kept_endPending _ _ _ _ _ _)
    | exact kept_acceptOpen _ _ _ _
    | exact kept_endPendingSilent _ _ _ _
    | exact kept_endActive _ _ _ _ _ _
    | exact kept_blockAnswered _ _ _

theorem kept_passReply (x : ChannelExchange) (form : ReplyForm) (first : Ssx) (data : List Byte) (s : State) :
    Kept s (passReply x form first data s) := by
  unfold passReply
  split
  · exact kept_offerThen _ _ _ (fun t => kept_setStamp _ t) s
  · exact kept_offerThen _ _ _ (fun t => kept_closeExchange _ _ t) s

theorem kept_takeReply (x : ChannelExchange) (first : Ssx) (msg data : List Byte) (s : State) :
    Kept s (takeReply x first msg data s) := by
  unfold takeReply
  dsimp only
  split
  · repeat' split
    · exact kept_closeExchange _ _ _
    · exact kept_passReply _ _ _ _ _
    · exact kept_offerThen _ _ _ (fun t => kept_setChannel t _) s
  · have h := (kept_setChannel s { x with timer := .stopped }).trans
      (kept_inspectReply { x with timer := .stopped } (replyForm x.code msg) msg data _)
    split
    · rename_i e; rw [e] at h; exact h
    · rename_i e
      rw [e] at h
      split
      · exact h.trans (kept_passReply _ _ _ _ _)
      · exact h

theorem kept_replyFollow (x : ChannelExchange) (i : Nat) (msg data : List Byte) (s : State) :
    Kept s (replyFollow x i msg data s) := by
  unfold replyFollow
  dsimp only
  split
  · refine kept_offerThen _ _ _ (fun t => ?_) s
    split
    · exact kept_setChannel _ _
    · exact kept_closeExchange _ _ _
  · exact kept_offerThen _ _ _ (fun t => kept_setStamp _ t) s

theorem kept_outboundPace (x : ChannelExchange) (a code gap : Nat) (s : State) :
    Kept s (outboundPace x a code gap s) := by
  unfold outboundPace blockRefused
  dsimp only
  repeat' split
  · exact kept_sendFollows _ _ _
  · exact kept_setChannel _ _
  · exact kept_closeExchange _ _ _
  · exact kept_closeExchange _ _ _
  · exact (kept_closeLinked _ _ _).trans (kept_endActive _ _ _ _ _ _)

/-- What a tool-side frame keeps, whatever it brings about (R51, R57, R60). -/
theorem kept_toolFrame (c : Fin 16) (data : List Byte) (s : State) : Kept s (toolFrame c data s) := by
  unfold toolFrame toolPending
  repeat' split
  all_goals with_reducible first
    | exact kept_gatewayReply _ _ _ _
    | exact kept_stagingFrame _ _ _
    | exact kept_requestFollow _ _ _ _ _
    | exact kept_replyPace _ _ _ _ _ _
    | exact kept_closeExchange _ _ _
    | exact kept_newRequest _ _ _ _ _
    | exact .refl s

/-- What a controller-side frame keeps, whatever it brings about (R51). -/
theorem kept_controllerFrame (c : Fin 16) (data : List Byte) (s : State) : Kept s (controllerFrame c data s) := by
  unfold controllerFrame controllerPending dropLate
  repeat' split
  all_goals with_reducible first
    | exact kept_count _ _ _
    | exact kept_outboundPace _ _ _ _ _
    | exact kept_requestPace _ _ _ _ _ _
    | exact kept_takeReply _ _ _ _ _
    | exact kept_replyFollow _ _ _ _ _
    | exact kept_closeExchange _ _ _

end Sys2Proof.Machine
end

