-- ==== Sys2Proof/Laws/Record.lean ====
section
/-! SUPPORT. The appends of the Access Record, its room, and the grants by number. -/

namespace Sys2Proof.Machine

open Sys2Proof Sys2Proof.Safety

variable {s : State}

/-! ### Appends (R143, R144) -/

/-- The entry as the statements write it. -/
theorem makeEntry_eq (s : State) (d : Detail) (g : Option Nat) (k : Option (Fin 8)) (c : Option (Fin 16)) :
    makeEntry s d g k c = entryNow s d g k (c.map (fun n => (n, (s.channel n).label))) := rfl

/-- An append that the store accepts. -/
theorem writeEntry_room (h : s.store.queue.length < 16) (d : Detail) (g : Option Nat) (k : Option (Fin 8))
    (c : Option (Fin 16)) :
    writeEntry d g k c s = { s with
      store := { s.store with queue := s.store.queue ++ [.append (makeEntry s d g k c)] }
      record := { s.record with mark := (s.record.mark + 1) % 4294967296, unrecorded := 0 } } := by
  simp [writeEntry, queueTakesAppend, h, pushStore, makeEntry, nextNumber]

/-- An append that the store does not accept is counted (R146). -/
theorem writeEntry_full (h : 16 ≤ s.store.queue.length) (d : Detail) (g : Option Nat) (k : Option (Fin 8))
    (c : Option (Fin 16)) : writeEntry d g k c s = addUnrecorded 1 s := by
  simp [writeEntry, queueTakesAppend, Nat.not_lt.2 h]

theorem appendEntry_room (h : occupied s < 128) (d : Detail) (g : Option Nat) (k : Option (Fin 8))
    (c : Option (Fin 16)) : appendEntry d g k c s = writeEntry d g k c s := by
  have : freeRoom s ≠ 0 := by unfold freeRoom; omega
  simp [appendEntry, this]

theorem appendEntry_full (h : 128 ≤ occupied s) (d : Detail) (g : Option Nat) (k : Option (Fin 8))
    (c : Option (Fin 16)) : appendEntry d g k c s = addUnrecorded 1 s := by
  have : freeRoom s = 0 := by unfold freeRoom; omega
  simp [appendEntry, this]

@[simp] theorem appendInto_held (d : Detail) (g : Option Nat) (k : Option (Fin 8)) (c : Option (Fin 16)) :
    appendInto true d g k c s = writeEntry d g k c s := rfl

@[simp] theorem appendInto_free (d : Detail) (g : Option Nat) (k : Option (Fin 8)) (c : Option (Fin 16)) :
    appendInto false d g k c s = appendEntry d g k c s := rfl

/-! ### The room (R141) -/

theorem settling_append (q : List StoreRequest) (e : Entry) :
    (q ++ [StoreRequest.append e]).filterMap appendOf = q.filterMap appendOf ++ [e] := by
  simp [appendOf]

/-- An append takes one place of the room at most. -/
theorem occupied_writeEntry (d : Detail) (g : Option Nat) (k : Option (Fin 8)) (c : Option (Fin 16)) :
    occupied (writeEntry d g k c s) ≤ occupied s + 1 := by
  by_cases h : s.store.queue.length < 16
  · rw [writeEntry_room h]
    simp only [occupied, settling, reservations, settling_append, List.length_append, List.length_singleton]
    omega
  · rw [writeEntry_full (by omega)]
    exact Nat.le_succ _

/-- An append that needs free room keeps the room's law. -/
theorem occupied_appendEntry (h : occupied s ≤ 128) (d : Detail) (g : Option Nat) (k : Option (Fin 8))
    (c : Option (Fin 16)) : occupied (appendEntry d g k c s) ≤ 128 := by
  by_cases h' : occupied s < 128
  · rw [appendEntry_room h']
    exact (occupied_writeEntry d g k c).trans h'
  · rw [appendEntry_full (by omega)]
    exact h

/-! ### Grants by number (R98) -/

theorem numbers_eq (n : Nat) : (fun g : Grant => g.number == n) = fun g => decide (g.number = n) := by
  funext g; by_cases h : g.number = n <;> simp [h]

theorem findGrant_some {n : Nat} {g : Grant} (h : findGrant s n = some g) : g ∈ s.grants.grants ∧ g.number = n := by
  unfold findGrant at h
  exact ⟨List.mem_of_find?_eq_some h, by simpa using List.find?_some h⟩

theorem findGrant_none {n : Nat} : findGrant s n = none ↔ ∀ g ∈ s.grants.grants, g.number ≠ n := by
  simp [findGrant]

theorem findGrant_of_mem {g : Grant} (hd : grantNumbersDistinct s) (h : g ∈ s.grants.grants) :
    findGrant s g.number = some g := by
  have := find?_of_mem (·.number) hd h
  rw [findGrant, numbers_eq]; exact this

/-- Changing a grant by its number, where numbers are distinct. -/
theorem updateGrant_distinct (hd : grantNumbersDistinct s) (n : Nat) (f : Grant → Grant) :
    updateGrant n f s = { s with grants := { s.grants with grants := grantsWith s n f } } := by
  have := modifyFirst_eq_map (·.number) n f hd
  rw [updateGrant, numbers_eq, this]; rfl

/-- Taking a grant off the table, where numbers are distinct. -/
theorem dropGrant_distinct (hd : grantNumbersDistinct s) (n : Nat) :
    dropGrant n s =
      { s with grants := { s.grants with grants := s.grants.grants.filter (fun g => decide (g.number ≠ n)) } } := by
  have := eraseP_eq_filter (fun g : Grant => g.number) n hd
  rw [dropGrant, numbers_eq, this]; rfl

/-- The close of a grant that holds its reservation, when the store accepts its entry (R99). -/
theorem grantClose_reserved (hd : grantNumbersDistinct s) (hq : s.store.queue.length < 16) {g : Grant}
    (hr : g.reservation = true) (cause : CloseCause) :
    ∃ lamp, grantClose g cause s = { s with
      grants := { s.grants with
        grants := s.grants.grants.filter (fun y => decide (y.number ≠ g.number))
        lamp := lamp }
      store := { s.store with
        queue := s.store.queue ++ [.append (entryNow s (.grantClosed cause) (some g.number) (some g.slot) none)] }
      record := { s.record with mark := (s.record.mark + 1) % 4294967296, unrecorded := 0 } } := by
  rw [grantClose, hr, appendInto_held, writeEntry_room (by simpa using hq), dropGrant_distinct hd]
  exact ⟨lampOf _, rfl⟩

end Sys2Proof.Machine
end

