-- ==== Sys2Proof/Laws/Router.lean ====
section
/-! SUPPORT. Where the Frame Router hands the frame it takes: one lemma per kind of frame (R23 to R27). -/

namespace Sys2Proof.Machine

open Sys2Proof Sys2Proof.Safety

/-! ### The channel a test picks -/

theorem findChannel_none {s : State} {q : ChannelEntry → Bool}
    (h : ∀ d, (s.channel d).live = true → q (s.channel d) = false) : findChannel s q = none := by
  simp only [findChannel, List.find?_eq_none]
  intro d _ hd
  simp only [Bool.and_eq_true] at hd
  simp [h d hd.1] at hd

theorem findChannel_some {s : State} {q : ChannelEntry → Bool} {c : Fin 16} (hl : (s.channel c).live = true)
    (hq : q (s.channel c) = true) (h : ∀ d, (s.channel d).live = true → q (s.channel d) = true → d = c) :
    findChannel s q = some c := by
  simp only [findChannel]
  cases hf : (List.finRange 16).find? (fun c => (s.channel c).live && q (s.channel c)) with
  | none =>
    rw [List.find?_eq_none] at hf
    have := hf c (by simp)
    simp [hl, hq] at this
  | some d =>
    have := List.find?_some hf
    simp only [Bool.and_eq_true] at this
    rw [h d this.1 this.2]

/-! ### The kinds of frame -/

/-- A tool-side frame goes to its channel (R24). -/
theorem routerTakes_tool {s : State} {c : Fin 16} {f : Frame} {rest : List Frame} (h : ToolSide s c f rest) :
    exec (.routerTakesFrame .W) s = .next (toolFrame c f.data (taken s .W rest)) := by
  have h2 : findChannel (taken s .W rest) (fun e => decide (e.ids.request = f.id)) = some c := by
    refine findChannel_some ?_ ?_ ?_ <;> simp only [taken, setPort_channel]
    · exact h.live
    · simpa using h.request
    · exact fun d a b => h.single d a (by simpa using b)
  have h3 : ¬f.id = (taken s .W rest).tables.ports.wPair.request := h.notMgmt
  have h4 : routerTakes .W s = classifyW f (taken s .W rest) := by
    unfold routerTakes
    rw [show (s.port .W).rx = f :: rest from h.fifo]
    rfl
  simp only [exec, execRouterTakesFrame, whenAwake, h.awake, if_true, h4]
  rw [classifyW, if_neg h3, h2]

theorem routerTakes_net {s : State} {n : Net} {f : Frame} {rest : List Frame}
    (hf : (s.port (netPort n)).rx = f :: rest) :
    routerTakes (netPort n) s = classifyNet n f (taken s (netPort n) rest) := by
  unfold routerTakes
  rw [hf]
  cases n <;> rfl

/-- A controller-side frame goes to its channel (R25). -/
theorem routerTakes_controller {s : State} {c : Fin 16} {f : Frame} {rest : List Frame}
    (h : ControllerSide s c f rest) :
    exec (.routerTakesFrame (netPort (s.channel c).port)) s =
      .next (controllerFrame c f.data (taken s (netPort (s.channel c).port) rest)) := by
  have h2 : findChannel (taken s (netPort (s.channel c).port) rest)
      (fun e => e.port == (s.channel c).port && decide (e.ids.response = f.id)) = some c := by
    refine findChannel_some ?_ ?_ ?_ <;> simp only [taken, setPort_channel]
    · exact h.live
    · simpa using h.response
    · intro d a b
      simp only [Bool.and_eq_true, beq_iff_eq, decide_eq_true_eq] at b
      exact h.single d a b.1 b.2
  simp only [exec, execRouterTakesFrame, whenAwake, h.awake, if_true, routerTakes_net h.fifo]
  rw [classifyNet, if_neg (by simpa [taken] using h.notMgmt), h2]

/-- Vehicle traffic is offered to the Condition Monitor and to the Mirror List (R25, R27). -/
theorem routerTakes_vehicle {s : State} {n : Net} {f : Frame} {rest : List Frame} (h : VehicleSide s n f rest) :
    exec (.routerTakesFrame (netPort n)) s = .next (broadcast n f (taken s (netPort n) rest)) := by
  have h2 : findChannel (taken s (netPort n) rest)
      (fun e => e.port == n && decide (e.ids.response = f.id)) = none := by
    refine findChannel_none ?_
    simp only [taken, setPort_channel]
    intro d a
    have := h.noChan d a
    by_cases hp : (s.channel d).port = n <;> simp [hp, this]
  simp only [exec, execRouterTakesFrame, whenAwake, h.awake, if_true, routerTakes_net h.fifo]
  rw [classifyNet, if_neg (by simpa [taken] using h.notMgmt), h2]

/-- A frame of a management channel goes to the Agent (R24, R25). -/
theorem routerTakes_mgmt {s : State} {m : Mgmt} {f : Frame} {rest : List Frame} (h : MgmtSide s m f rest) :
    exec (.routerTakesFrame (mgmtPort m)) s = .next (mgmtFrame m f.data (taken s (mgmtPort m) rest)) := by
  have h1 : routerTakes (mgmtPort m) s = mgmtFrame m f.data (taken s (mgmtPort m) rest) := by
    unfold routerTakes
    rw [h.fifo]
    cases m
    · exact if_pos h.request
    · exact if_pos ⟨rfl, h.enabled rfl, h.request⟩
  simp only [exec, execRouterTakesFrame, whenAwake, h.awake, if_true, h1]

/-! ### Conditions and windows -/

/-- With no window open a report of the Condition Monitor changes nothing (R84, R125). -/
theorem reportConditions_noWindow {s : State} (h : ∀ w, s.window w = none) (c : BitVec 5) :
    reportConditions c s = s := by
  simp [reportConditions, testWindows, testWindow, h]

end Sys2Proof.Machine
end

