-- ==== Sys2Proof/Laws/Sender.lean ====
section
/-! SUPPORT. What the gateway does as the sender of a segmented message (R53): the follows a turn gives, with the record
after them, and a run of frames offered to a port with room for all of them. -/

namespace Sys2Proof.Machine

open Sys2Proof Sys2Proof.Safety

/-! ### A run of offers to a port with room (R4) -/

@[simp] theorem testPort_marked (p : Port) (s : State) (q : Port) : marked (testPort p s) q = marked s q := by
  have key : ∀ n, marked (testHead n s) q = marked s q := by
    intro n
    obtain ⟨_, h⟩ | ⟨f, rest, hout, _, _, _, _, h⟩ := testHead_cases n s
    · rw [h]
    · rw [h]; cases n <;> cases q <;> simp_all [State.setPort, State.setCredit, State.port, netPort, marked]
  cases p
  · rfl
  · exact key .E
  · exact key .C

/-- An offer to a queue with room: the frame stands last, with its origin, owner and mark. -/
theorem offerState_marked {s : State} {p : Port} (h : hasRoom s p) (f : OutFrame) :
    marked (offerState p f s) p = marked s p ++ [(f.frame, f.origin, f.owner, f.mark)] := by
  simp only [offerState, offerResult_hasRoom h, testPort_marked]
  simp [marked]

theorem marked_length (s : State) (p : Port) : (marked s p).length = (s.port p).out.length := List.length_map _

/-- Frames offered to one port, one after the other. -/
def offerRun (p : Port) (fs : List OutFrame) (s : State) : State := fs.foldl (fun s f => offerState p f s) s

theorem hasRoom_of_roomFor {s : State} {p : Port} {n : Nat} (h : roomFor s p (n + 1)) : hasRoom s p :=
  ⟨h.1, by have := h.2; omega⟩

theorem roomFor_offerState {s : State} {p : Port} {n : Nat} (h : roomFor s p (n + 1)) (f : OutFrame) :
    roomFor (offerState p f s) p n := by
  have hl := congrArg List.length (offerState_marked (hasRoom_of_roomFor h) f)
  rw [marked_length, List.length_append, marked_length, List.length_singleton] at hl
  refine ⟨(offerState_port p f s p).2.1.trans h.1, ?_⟩
  have := h.2; omega

/-- What a run of offers does where there is room for all: the frames stand last, in order; of the rest of the state only
ports and credits are touched, and of the port nothing but its queue's release and its end. -/
theorem offerRun_spec {p : Port} (fs : List OutFrame) {s : State} (h : roomFor s p fs.length) :
    marked (offerRun p fs s) p = marked s p ++ fs.map (fun f => (f.frame, f.origin, f.owner, f.mark)) ∧
      ((offerRun p fs s).port p).rx = (s.port p).rx ∧
      offerRun p fs s = { s with ports := (offerRun p fs s).ports, meter := (offerRun p fs s).meter } := by
  induction fs generalizing s with
  | nil => simp [offerRun]
  | cons f fs ih =>
    obtain ⟨h1, h2, h3⟩ := ih (roomFor_offerState h f)
    refine ⟨?_, h2.trans (offerState_port p f s p).1, ?_⟩
    · rw [show offerRun p (f :: fs) s = offerRun p fs (offerState p f s) from rfl, h1,
        offerState_marked (hasRoom_of_roomFor h)]
      simp
    · rw [show offerRun p (f :: fs) s = offerRun p fs (offerState p f s) from rfl, h3, offerState_touches]

/-- With room for all, `offerAll` offers every frame and goes on. -/
theorem offerAll_room (x : ChannelExchange) (p : Port) (go : State → State) (fs : List OutFrame) {s : State}
    (h : roomFor s p fs.length) : offerAll x p go fs s = go (offerRun p fs s) := by
  induction fs generalizing s with
  | nil => rfl
  | cons f fs ih =>
    simp only [offerAll, offerThen, offerResult_hasRoom (hasRoom_of_roomFor h), failedOffer]
    exact ih (roomFor_offerState h f)

/-- With room for all, `offerMgmtAll` offers every frame and goes on. -/
theorem offerMgmtAll_room (m : Mgmt) (part : MgmtPart) (go : State → State) (fs : List OutFrame) {s : State}
    (h : roomFor s (mgmtPort m) fs.length) :
    offerMgmtAll m part go fs s = go (offerRun (mgmtPort m) fs s) := by
  induction fs generalizing s with
  | nil => rfl
  | cons f fs ih =>
    simp only [offerMgmtAll, offerMgmt, offerResult_hasRoom (hasRoom_of_roomFor h)]
    exact ih (roomFor_offerState h f)

/-! ### The follows of a turn (R47, R48, R53) -/

/-- How many follows `planFollows` gives, asked for `k`: as many as the allowance and the message allow. -/
def planned (k : Nat) (g : Seg) : Nat :=
  min k (match g.allow with
    | .num a => min a (g.count + 1 - g.next)
    | .rest => g.count + 1 - g.next)

theorem spend_eq (a : Allowance) : a.spend = spentBy 1 a := by cases a <;> rfl

@[simp] theorem spentBy_zero (a : Allowance) : spentBy 0 a = a := by cases a <;> rfl

theorem spentBy_succ (n : Nat) (a : Allowance) : spentBy n (spentBy 1 a) = spentBy (n + 1) a := by
  cases a
  · simp only [spentBy, Allowance.num.injEq]; omega
  · rfl

theorem take_add_length (l : List Byte) (i n : Nat) :
    ((l.drop (7 * i)).take 7).length + ((l.drop (7 * (i + 1))).take (7 * n)).length =
      ((l.drop (7 * i)).take (7 * (n + 1))).length := by
  simp only [List.length_take, List.length_drop]; omega

/-- Of a record one follow further on, with more to come and the turn kept, the marks of the later follows are the same. -/
theorem followMark_next {g h : Seg} (hn : h.next = g.next + 1) (hc : h.count = g.count) (hg : h.gap = g.gap)
    (ha : h.allow = spentBy 1 g.allow) (stamp j : Nat) :
    followMark h stamp (h.next + j) = followMark g stamp (g.next + (j + 1)) := by
  have hi : h.next + j = g.next + (j + 1) := by omega
  have hk : (h.allow = .num (g.next + (j + 1) + 1 - h.next)) ↔ (g.allow = .num (g.next + (j + 1) + 1 - g.next)) := by
    rw [ha, hn]
    cases g.allow with
    | rest => simp [spentBy]
    | num a => simp only [spentBy, Allowance.num.injEq]; omega
  simp only [followMark, hi, hc, hg, hk]

/-- And offering `n` follows after the first leaves what offering `n + 1` leaves. -/
theorem afterFollows_next {g h : Seg} {msg : List Byte}
    (he : h = { g with next := g.next + 1, allow := spentBy 1 g.allow,
                       len := g.len + ((msg.drop (7 * g.next)).take 7).length })
    (hn : h.next ≤ h.count) (ha : h.allow ≠ .num 0) (stamp n : Nat) :
    afterFollows h msg stamp n = afterFollows g msg stamp (n + 1) := by
  subst he
  have hlen : g.len + ((msg.drop (7 * g.next)).take 7).length + ((msg.drop (7 * (g.next + 1))).take (7 * n)).length =
      g.len + ((msg.drop (7 * g.next)).take (7 * (n + 1))).length := by
    rw [← take_add_length]; omega
  have hk : (spentBy 1 g.allow = .num n) ↔ (g.allow = .num (n + 1)) := by
    revert ha
    cases g.allow <;> simp only [spentBy, Allowance.num.injEq, reduceCtorEq, ne_eq, implies_true, iff_self]
    omega
  by_cases hl : g.next + 1 + n = g.count + 1
  · have h1 : 1 ≤ n := by simp only at hn; omega
    simp only [afterFollows, hlen, hl, ← Nat.add_assoc, Nat.add_right_comm g.next n 1, spentBy_succ, if_true,
      Nat.sub_add_cancel h1, Nat.add_sub_cancel]
  · simp only [afterFollows, hlen, hl, ← Nat.add_assoc, Nat.add_right_comm g.next n 1, spentBy_succ, if_false, hk]

/-- What `planFollows` gives: the next follows in index order, each with its mark, and the record after them. -/
theorem planFollows_eq (msg : List Byte) (stamp k : Nat) {g : Seg} (hn : g.next ≤ g.count) (ha : g.allow ≠ .num 0) :
    planFollows msg stamp k g =
      ((List.range (planned k g)).map (fun j => (follow msg (g.next + j), followMark g stamp (g.next + j))),
        afterFollows g msg stamp (planned k g)) := by
  induction k generalizing g with
  | zero =>
    have : g.next ≠ g.count + 1 := by omega
    simp [planFollows, planned, afterFollows, this, ha]
  | succ k ih =>
    unfold planFollows
    by_cases hl : g.next = g.count
    · have hp : planned (k + 1) g = 1 := by
        have : g.count + 1 - g.next = 1 := by omega
        unfold planned
        rw [this]
        cases hb : g.allow with
        | rest => simp
        | num a => rw [hb] at ha; have : a ≠ 0 := fun e => ha (by rw [e]); simp only; omega
      simp [hp, hl, followMark, afterFollows, followData, followBytes]
    · by_cases h0 : g.allow.spend = .num 0
      · have h1 : g.allow = .num 1 := by
          cases hb : g.allow with
          | rest => rw [hb] at h0; cases h0
          | num a =>
            rw [hb] at ha h0
            simp only [Allowance.spend, Allowance.num.injEq, ne_eq] at ha h0 ⊢
            omega
        have hp : planned (k + 1) g = 1 := by
          unfold planned; rw [h1]; simp only; omega
        have hm : g.next + 1 - g.next = 1 := by omega
        simp [hp, hl, h1, followMark, afterFollows, followData, followBytes, hm, Allowance.spend]
      · have h1 : g.allow ≠ .num 1 := fun e => h0 (by rw [e]; rfl)
        let h : Seg := { g with next := g.next + 1, allow := g.allow.spend,
                                len := g.len + (followBytes msg g.next).length }
        have hp : planned (k + 1) g = planned k h + 1 := by
          have e : h.allow = spentBy 1 g.allow := spend_eq _
          unfold planned
          rw [e]
          cases hb : g.allow with
          | rest => simp only [spentBy, h]; omega
          | num a =>
            rw [hb] at ha h1
            simp only [ne_eq, Allowance.num.injEq] at ha h1
            simp only [spentBy, h]; omega
        have hr := ih (g := h) (by simp only [h]; omega) h0
        simp only [hl, h0, if_false, hp]
        rw [show planFollows msg stamp k _ = _ from hr, afterFollows_next (g := g) (h := h)
          (by simp only [h, spend_eq]; rfl) (by simp only [h]; omega) h0]
        have h2 : ∀ i, g.next + 1 - g.next = i → g.allow ≠ .num i := by
          intro i hi; rw [← hi, Nat.add_sub_cancel_left]; exact h1
        rw [List.range_succ_eq_map, List.map_cons, List.map_map]
        refine Prod.ext (congrArg₂ List.cons ?_ (List.map_congr_left fun j _ => ?_)) rfl
        · simp [followMark, followData, followBytes, hl, h2]
        · simp only [Function.comp_apply]
          rw [followMark_next (g := g) (h := h) rfl rfl rfl (spend_eq _)]
          rw [show h.next + j = g.next + (j + 1) by simp only [h]; omega]

/-- After a gap one follow is offered. -/
theorem planned_one {g : Seg} (hn : g.next ≤ g.count) (ha : g.allow ≠ .num 0) : planned 1 g = 1 := by
  unfold planned
  revert ha
  cases g.allow <;> simp only [Allowance.num.injEq, ne_eq] <;> omega

/-- At a proceed as many are offered as R53 gives: no message has more than 63 follows (R37). -/
theorem planned_burst {g : Seg} (h1 : 1 ≤ g.next) (hn : g.next ≤ g.count) (hc : g.count ≤ 63) (ha : g.allow ≠ .num 0) :
    planned (burst g) g = followsNow g := by
  by_cases hg : g.gap = 0
  · unfold planned burst followsNow
    cases g.allow <;> simp only [hg, if_true, ne_eq, not_true, if_false] <;> omega
  · rw [show burst g = 1 by simp [burst, hg], planned_one hn ha]
    simp [followsNow, hg]

theorem followsNow_pos {g : Seg} (hn : g.next ≤ g.count) (ha : g.allow ≠ .num 0) : 1 ≤ followsNow g := by
  unfold followsNow
  revert ha
  cases g.allow <;> simp only [Allowance.num.injEq, ne_eq] <;> split <;> omega

/-- A proceed leaves an allowance to spend: 0 is REST (R37). -/
theorem resumed_allow (g : Seg) (ctl gap : Byte) (h : 192 ≤ ctl.toNat) : (resumed g ctl gap).allow ≠ .num 0 := by
  by_cases h0 : ctl.toNat = 192
  · simp [h0]
  · simp only [h0, if_false, ne_eq, Allowance.num.injEq]; omega

/-- A well-formed pace frame is read by its fields, whatever message it is read against (R37, R38). -/
theorem readSsx_pace {f : Frame} {ctl code gap : Byte} (h : paceFrame f ctl code gap) (n : Nat) :
    readSsx n f.data = .pace (ctl.toNat - 192) code.toNat gap.toNat := by
  obtain ⟨⟨more, hd⟩, h1, h2, h3⟩ := h
  have h4 := ctl.isLt
  have hk : ctl.toNat / 64 = 3 := by omega
  have hf : ctl.toNat % 64 = ctl.toNat - 192 := by omega
  have hb : ¬(2 < code.toNat ∨ 127 < gap.toNat) := by omega
  simp only [hd, readSsx, hk, hf, hb, if_false]
  simp

/-- The record after a proceed, in the statements' words. -/
theorem resume_eq (g : Seg) (ctl gap : Byte) (h : 192 ≤ ctl.toNat) :
    g.resume (ctl.toNat - 192) gap.toNat = resumed g ctl gap := by
  have : (ctl.toNat - 192 = 0) ↔ ctl.toNat = 192 := by omega
  simp only [Seg.resume, Seg.proceed, allowanceOf, resumed, this]

/-! ### The follows of a reply, a side answer and a block, with room for all -/

/-- The frames of `n` follows. -/
def followFrames (id : Ident) (o : Origin) (owner : Nat) (msg : List Byte) (g : Seg) (stamp n : Nat) : List OutFrame :=
  (List.range n).map (fun j => outFrame id (follow msg (g.next + j)) o owner (followMark g stamp (g.next + j)))

@[simp] theorem followFrames_length (id : Ident) (o : Origin) (owner : Nat) (msg : List Byte) (g : Seg)
    (stamp n : Nat) : (followFrames id o owner msg g stamp n).length = n := by simp [followFrames]

/-- The run of `n` follows, as the statements say it. -/
theorem offerRun_follows {s : State} {p : Port} {n : Nat} (h : roomFor s p n) (id : Ident) (o : Origin) (owner : Nat)
    (msg : List Byte) (g : Seg) :
    followsOffered s (offerRun p (followFrames id o owner msg g s.part.stamp n) s) p id o owner msg g n := by
  have := (offerRun_spec (followFrames id o owner msg g s.part.stamp n) (s := s) (p := p) (by simpa using h)).1
  rw [followsOffered, this]
  simp [followFrames, outFrame]

theorem replyFollows_room {x : MgmtExchange} {k : Nat} {s : State} (hn : x.seg.next ≤ x.seg.count)
    (ha : x.seg.allow ≠ .num 0) (h : roomFor s (mgmtPort x.chan) (planned k x.seg)) :
    replyFollows k x s = nextStamp (setMgmtExchange
      { x with seg := afterFollows x.seg (replyOf x) s.part.stamp (planned k x.seg), gapTimer := none }
      (offerRun (mgmtPort x.chan) (followFrames x.response (.management x.chan .exchange) x.id (replyOf x) x.seg
        s.part.stamp (planned k x.seg)) s)) := by
  simp only [replyFollows, planFollows_eq _ _ _ hn ha, List.map_map]
  rw [offerMgmtAll_room _ _ _ _ (by simpa using h)]
  rfl

theorem sideFollows_room {m : Mgmt} {id k : Nat} {g : Seg} {msg : List Byte} {s : State} (hn : g.next ≤ g.count)
    (ha : g.allow ≠ .num 0) (h : roomFor s (mgmtPort m) (planned k g)) :
    sideFollows k m id g msg s = nextStamp (setSide m
      (.sending id (afterFollows g msg s.part.stamp (planned k g)) msg none)
      (offerRun (mgmtPort m) (followFrames (mgmtPair s m).response (.management m .side) id msg g s.part.stamp
        (planned k g)) s)) := by
  simp only [sideFollows, planFollows_eq _ _ _ hn ha, List.map_map]
  rw [offerMgmtAll_room _ _ _ _ (by simpa using h)]
  rfl

theorem sendFollows_room {x : ChannelExchange} {w : Fin 2} {v : Window} {b : Fin 2} {k : Nat} {s : State}
    (hx : x.window = some w) (hv : s.window w = some v) (hb : v.buffer = some b) (hn : x.seg.next ≤ x.seg.count)
    (ha : x.seg.allow ≠ .num 0) (h : roomFor s (targetPort s x.channel) (planned k x.seg)) :
    sendFollows k x s = nextStamp (setChannelExchange
      { x with seg := afterFollows x.seg (s.inspector.buffers.get b) s.part.stamp (planned k x.seg), gapTimer := none }
      (offerRun (targetPort s x.channel) (followFrames (s.channel x.channel).ids.request (.exchange x.channel) x.id
        (s.inspector.buffers.get b) x.seg s.part.stamp (planned k x.seg)) s)) := by
  have hm : stagedBytes s v = s.inspector.buffers.get b := by simp [stagedBytes, hb]
  simp only [sendFollows, hx, Option.bind_some, hv, hm, planFollows_eq _ _ _ hn ha, List.map_map]
  rw [offerAll_room _ _ _ _ (by simpa using h)]
  rfl

/-- What `replyFollows` does for the record `g` of the reply `x` sends, with room for the follows the turn gives. -/
theorem replyFollows_spec {m : Mgmt} {x : MgmtExchange} {reply : List Byte} {g : Seg} {k : Nat} {s : State}
    (hs : exchangeLaw s) (hx : mgmtExchange s m = some x) (hw : x.work = .ready reply) (hn : g.next ≤ g.count)
    (ha : g.allow ≠ .num 0) (h : roomFor s (mgmtPort m) (planned k g)) :
    ∃ t, replyFollows k { x with seg := g } s = t ∧
      followsOffered s t (mgmtPort m) x.response (.management m .exchange) x.id reply g (planned k g) ∧
      (t.port (mgmtPort m)).rx = (s.port (mgmtPort m)).rx ∧
      mgmtExchange t m =
        some { x with gapTimer := none, seg := afterFollows g reply s.part.stamp (planned k g) } ∧
      t = { s with part := t.part, ports := t.ports, meter := t.meter, exchanges := t.exchanges } := by
  obtain rfl : x.chan = m := (mgmtExchange_some hx).2
  have hr : replyOf { x with seg := g } = reply := by simp [replyOf, hw]
  have e := replyFollows_room (x := { x with seg := g }) (k := k) (s := s) hn ha h
  rw [hr] at e
  obtain ⟨-, f2, f3⟩ := offerRun_spec (followFrames x.response (.management x.chan .exchange) x.id reply g s.part.stamp
    (planned k g)) (s := s) (p := mgmtPort x.chan) (by simpa using h)
  have f1 := offerRun_follows h x.response (.management x.chan .exchange) x.id reply g
  refine ⟨_, e, f1, f2, ?_, ?_⟩
  · generalize offerRun _ _ s = u at f3 ⊢
    rw [f3]
    exact (setMgmtExchange_found (s := { s with ports := u.ports, meter := u.meter }) hs hx
      (y := { x with gapTimer := none, seg := afterFollows g reply s.part.stamp (planned k g) }) rfl rfl x.chan).trans
      (if_pos rfl)
  · generalize offerRun _ _ s = u at f3 ⊢
    rw [f3]; rfl

/-- What `sideFollows` does for a side answer, with room for the follows the turn gives. -/
theorem sideFollows_spec {m : Mgmt} {id k : Nat} {g : Seg} {msg : List Byte} {s : State} (hn : g.next ≤ g.count)
    (ha : g.allow ≠ .num 0) (h : roomFor s (mgmtPort m) (planned k g)) :
    ∃ t, sideFollows k m id g msg s = t ∧
      followsOffered s t (mgmtPort m) (mgmtPair s m).response (.management m .side) id msg g (planned k g) ∧
      (t.port (mgmtPort m)).rx = (s.port (mgmtPort m)).rx ∧
      sideOf t m = .sending id (afterFollows g msg s.part.stamp (planned k g)) msg none ∧
      (∀ j, j ≠ m → sideOf t j = sideOf s j) ∧
      t = { s with part := t.part, ports := t.ports, meter := t.meter, agent := t.agent } := by
  obtain ⟨-, f2, f3⟩ := offerRun_spec (followFrames (mgmtPair s m).response (.management m .side) id msg g s.part.stamp
    (planned k g)) (s := s) (p := mgmtPort m) (by simpa using h)
  have f1 := offerRun_follows h (mgmtPair s m).response (.management m .side) id msg g
  refine ⟨_, sideFollows_room hn ha h, ?_⟩
  generalize offerRun _ _ s = u at f1 f2 f3 ⊢
  refine ⟨?_, ?_, by cases m <;> rfl, ?_, ?_⟩
  · cases m <;> exact f1
  · cases m <;> exact f2
  · intro j hj
    rw [f3]
    cases m <;> cases j <;> first | exact absurd rfl hj | rfl
  · rw [f3]; cases m <;> rfl

/-- What `sendFollows` does for a block being re-sent, with room for the follows the turn gives. -/
theorem sendFollows_spec {c : Fin 16} {x : ChannelExchange} {w : Fin 2} {v : Window} {b : Fin 2} {g : Seg} {k : Nat}
    {s : State} (hs : exchangeLaw s) (hx : channelExchange s c = some x) (hw : x.window = some w)
    (hv : s.window w = some v) (hb : v.buffer = some b) (hn : g.next ≤ g.count) (ha : g.allow ≠ .num 0)
    (h : roomFor s (targetPort s c) (planned k g)) :
    ∃ t, sendFollows k { x with seg := g } s = t ∧
      followsOffered s t (targetPort s c) (s.channel c).ids.request (.exchange c) x.id (s.inspector.buffers.get b) g
        (planned k g) ∧
      (t.port (targetPort s c)).rx = (s.port (targetPort s c)).rx ∧
      channelExchange t c = some { x with
        gapTimer := none, seg := afterFollows g (s.inspector.buffers.get b) s.part.stamp (planned k g) } ∧
      t = { s with part := t.part, ports := t.ports, meter := t.meter, exchanges := t.exchanges } := by
  obtain rfl : x.channel = c := (channelExchange_some hx).2
  obtain ⟨-, f2, f3⟩ := offerRun_spec (followFrames (s.channel x.channel).ids.request (.exchange x.channel) x.id
    (s.inspector.buffers.get b) g s.part.stamp (planned k g)) (s := s) (p := targetPort s x.channel) (by simpa using h)
  have f1 := offerRun_follows h (s.channel x.channel).ids.request (.exchange x.channel) x.id
    (s.inspector.buffers.get b) g
  refine ⟨_, sendFollows_room (x := { x with seg := g }) hw hv hb hn ha h, f1, f2, ?_, ?_⟩
  · generalize offerRun _ _ s = u at f3 ⊢
    rw [f3]
    exact (setChannelExchange_found (s := { s with ports := u.ports, meter := u.meter }) hs hx
      (y := { x with
        gapTimer := none, seg := afterFollows g (s.inspector.buffers.get b) s.part.stamp (planned k g) }) rfl rfl
      x.channel).trans (if_pos rfl)
  · generalize offerRun _ _ s = u at f3 ⊢
    rw [f3]; rfl

end Sys2Proof.Machine
end

