-- ==== Sys2Proof/Laws/Store.lean ====
section
/-! SUPPORT. The store: check words, the stored entries of the Access Record, how the next operation begins, and the bit
rates that a write of Port Settings changes. -/

namespace Sys2Proof.Machine

open Sys2Proof Sys2Proof.Safety

variable {s : State}

/-! ### Check words (R151, R164) -/

@[simp] theorem Image.of_passes (l : List (List Byte)) : (Image.of l).passes = true := by simp [Image.of, Image.passes]

@[simp] theorem StoredSlot.of_passes (k : Slot) : (StoredSlot.of k).passes = true := by
  simp [StoredSlot.of, StoredSlot.passes]

@[simp] theorem StoredNumber.count_passes (n : Nat) : (StoredNumber.count n).countPasses = true := by
  simp [StoredNumber.count, StoredNumber.countPasses]

@[simp] theorem StoredNumber.mark_passes (n : Nat) : (StoredNumber.mark n).markPasses = true := by
  simp [StoredNumber.mark, StoredNumber.markPasses]

@[simp] theorem StoredEntry.of_passes (e : Entry) : (StoredEntry.of e).passes = true := by
  simp [StoredEntry.of, StoredEntry.passes]

/-- The check word of an image cut short is not the one its bytes give (R166). -/
theorem wrongCheck_ne (draw : Nat) (l : List (List Byte)) : wrongCheck draw l ≠ checkWord l := by
  have h := (Config.tornCheckOffset draw).isLt
  unfold wrongCheck
  bv_omega

theorem tornEntry_fails (draw : Nat) (e : Entry) : (tornEntry draw e).passes = false := by
  simp [tornEntry, StoredEntry.passes, wrongCheck_ne]

theorem tornImage_fails (draw : Nat) (l : List (List Byte)) (i n : Nat) : (tornImage draw l i n).passes = false := by
  simp [tornImage, Image.passes, wrongCheck_ne]

/-! ### The stored entries (R150, R151) -/

/-- A stored entry passes exactly when its check word is the one its bytes give. -/
theorem passes_iff (x : StoredEntry) : x.passes = decide (x.check = checkWord [entryBytes x.entry]) := by
  by_cases h : x.check = checkWord [entryBytes x.entry] <;> simp [StoredEntry.passes, h]

/-- The entries a cold start keeps, as the statements write them. -/
theorem storedKept_eq (s : State) : storedKept s = passing s.store.entries := by
  simp only [storedKept, passing, passes_iff]

theorem passing_cons (x : StoredEntry) (l : List StoredEntry) :
    passing (x :: l) = (if x.passes then x.entry :: passing l else passing l) := by
  rw [passes_iff]
  by_cases h : x.check = checkWord [entryBytes x.entry] <;> simp [passing, h]

theorem passing_append (l k : List StoredEntry) : passing (l ++ k) = passing l ++ passing k := by simp [passing]

/-- Taking the place of an entry that fails leaves those that pass. -/
theorem passing_eraseFailing (l : List StoredEntry) : passing (l.eraseP (fun y => !y.passes)) = passing l := by
  induction l with
  | nil => rfl
  | cons x l ih => cases h : x.passes <;> simp [passing_cons, h, ih]

/-- What storing one entry more does to those that pass. -/
theorem passing_storedWith (x : StoredEntry) (l : List StoredEntry) :
    passing (storedWith x l) = passing l ++ (if x.passes then [x.entry] else []) := by
  rw [storedWith, passing_append, passing_eraseFailing, passing_cons]
  rfl

/-- A trim removes the oldest of those that pass. -/
theorem passing_trimStored (n : Nat) (l : List StoredEntry) : passing (trimStored n l) = (passing l).drop n := by
  induction l generalizing n with
  | nil => cases n <;> simp [trimStored, passing]
  | cons x l ih =>
    cases n with
    | zero => simp [trimStored]
    | succ n => cases h : x.passes <;> simp [trimStored, passing_cons, h, ih]

/-! ### The queue (R150, R160, R165) -/

/-- How the next operation begins, as the statements write it. -/
theorem beginQueue_begun (q : List StoreRequest) (s : State) :
    Begun { s with store := { s.store with queue := q } } (beginQueue q s) := by
  induction q generalizing s with
  | nil => exact .asOffered _ rfl
  | cons r rest ih =>
    cases r with
    | tableEntry e k id =>
      cases h : clashes (storedTables s) e
      · have hb : beginQueue (.tableEntry e k id :: rest) s = setQueue (.tableEntry e k id :: rest) s := by
          simp [beginQueue, h]
        rw [hb]; exact .write _ e k id rest rfl h
      · have hb : beginQueue (.tableEntry e k id :: rest) s =
            beginQueue rest (answer id (refusalBytes (byte 0x18) .badEntry) s) := by
          simp [beginQueue, h]
        rw [hb]; exact .clash _ _ e k id rest rfl h (ih (answer id (refusalBytes (byte 0x18) .badEntry) s))
    | trim n id => exact .trim { s with store := { s.store with queue := .trim n id :: rest } } n id rest rfl
    | append e => exact .asOffered _ rfl
    | failureCount n => exact .asOffered _ rfl
    | credentialWrite i k c id => exact .asOffered _ rfl
    | credentialWithdraw i c id => exact .asOffered _ rfl
    | lockPolicy p c id => exact .asOffered _ rfl

theorem beginNext_begun (s : State) : Begun s (beginNext s) := beginQueue_begun s.store.queue s

/-- What a completion answers: its effect, once the operation has left the queue, and then the next one begins. -/
theorem complete_begun (rest : List StoreRequest) (effect : State → State) (s : State) :
    Begun (effect { s with store := { s.store with queue := rest } }) (complete rest effect s) :=
  beginNext_begun _

/-! ### Bit rates (R3) -/

/-- A written rate changes nothing, or is the new rate of a port whose rate the write changes. -/
theorem applyRate_cases (old new : PortSettings) (s : State) (p : Port) :
    applyRate old new s p = s ∨ settingsRate old p ≠ settingsRate new p ∧
      applyRate old new s p = s.setPort p { s.port p with rate := settingsRate new p } := by
  unfold applyRate
  split
  · rename_i h; exact .inr ⟨h.1, rfl⟩
  · exact .inl rfl

/-- The bit rates of new Port Settings touch ports and the free values' position only. -/
theorem applyRates_touches (old new : PortSettings) (s : State) :
    applyRates old new s = { s with
      part := { s.part with draws := s.part.draws + 1 }
      ports := (applyRates old new s).ports } := by
  have key : ∀ p (t : State), applyRate old new t p = { t with ports := (applyRate old new t p).ports } := by
    intro p t
    obtain h | ⟨_, h⟩ := applyRate_cases old new t p <;> rw [h]
    cases p <;> rfl
  simp only [applyRates, List.foldl_cons, List.foldl_nil, nextDraw]
  rw [key .C, key .E, key .W]

end Sys2Proof.Machine
end

