-- ==== Sys2Proof/WellFormed.lean ====
section
/-! DEFINITION. Which commands are well formed. Every operand but a received frame's bytes is well formed by its
type; a frame from a network has the data bytes its data length code announces (R1). -/

namespace Sys2Proof

/-- The count of data bytes a data length code stands for: a code of 9 to 15 is taken as 8 (R1). -/
def BusFrame.count (f : BusFrame) : Nat := min 8 f.code.toNat

/-- A remote-request frame carries no data; any other frame carries as many bytes as its code says (R1). -/
def BusFrame.wf (f : BusFrame) : Bool :=
  if f.remote then f.data.isEmpty else f.data.length == f.count

/-- Well-formedness of a command. -/
def Instr.wf : Instr → Bool
  | .frameReceived _ f => f.wf
  | _ => true

end Sys2Proof
end

