-- ==== Sys2Proof/Tests/Slice0.lean ====
section
/-! SUPPORT. Tests: the manual's own examples, the refusal of ill-formed commands, and, for every statement with
hypotheses, a state and operands that meet them, clause by clause. Expected values are the manual's or worked out by
hand from its rules. -/

namespace Sys2Proof.Tests

open Sys2Proof Sys2Proof.Machine Sys2Proof.Safety

/-! ### Well-formedness: a frame of the wrong length is refused, a boundary one accepted (R1) -/

theorem test_wf_short :
    (Instr.frameReceived .W { id := .std 1, code := 3, data := [1, 2], remote := false }).wf = false := by
  decide

theorem test_wf_remote :
    (Instr.frameReceived .W { id := .std 1, code := 1, data := [1], remote := true }).wf = false := by
  decide

theorem test_wf_long : (Instr.frameReceived .W
    { id := .std 1, code := 15, data := [1, 2, 3, 4, 5, 6, 7, 8], remote := false }).wf = true := by decide

/-- No word spells a command. -/
theorem test_noWord : decodeTableWord 8 0 = none := rfl

/-! ### The manual's examples -/

/-- The costs of R132. -/
theorem test_costs :
    frameCost { id := .std 0, data := [0, 0, 0, 0, 0, 0, 0, 0] } = 135 ∧
    frameCost { id := .ext 0, data := [0, 0, 0, 0, 0, 0, 0, 0] } = 160 ∧
    frameCost { id := .std 0, data := [] } = 55 := by
  decide

/-- A 30-byte message has count 4, and its last follow carries 2 bytes (R39). -/
theorem test_thirtyBytes :
    followCount 30 = 4 ∧ (followData (List.replicate 30 0) 4).length = 3 ∧ followCount 448 = 63 := by decide

/-- A value of 1024 bytes as maximum block length gives 446, and 0 gives 1 (R115). -/
theorem test_bmax : bmaxOf 1024 = 446 ∧ bmaxOf 0 = 1 ∧ rewriteBmax 446 [0, 0xB1, 4, 0] = [0, 0xB1, 1, 0xBE] := by decide

/-- The clamps of R46 under a ceiling of 8 and under no ceiling. -/
theorem test_clamps :
    clampAllowance 8 0 = 8 ∧ clampAllowance 8 20 = 8 ∧ clampAllowance 8 5 = 5 ∧ clampAllowance 63 0 = 0 ∧
      clampGap 10 5 = 10 ∧ clampGap 10 20 = 20 := by decide

/-- Malformed frames (R38). -/
theorem test_malformed :
    readSsx 0 [] = .bad .empty ∧ readSsx 0 [1, 0x22] = .bad .unit ∧ readSsx 0 [0] = .bad .unit ∧
      readSsx 0 [64, 1, 2, 3, 4, 5, 6, 7] = .bad .lead ∧ readSsx 2 [129, 1] = .bad .follow ∧
      readSsx 2 [130, 1] = .follow 2 [1] ∧ readSsx 0 [192, 3, 0] = .bad .pace ∧ readSsx 0 [192, 0, 128] = .bad .pace ∧
      readSsx 0 [192, 0, 127] = .pace 0 0 127 := by decide

/-- SHA-256 of "abc", the published test value (log 6). -/
theorem test_sha256 : (sha256 [0x61, 0x62, 0x63]).take 4 = [0xba, 0x78, 0x16, 0xbf] := by decide +kernel

/-- The second test case of RFC 4231 (log 6). -/
theorem test_hmac :
    (hmacSha256 [0x4a, 0x65, 0x66, 0x65]
      [0x77, 0x68, 0x61, 0x74, 0x20, 0x64, 0x6f, 0x20, 0x79, 0x61, 0x20, 0x77, 0x61, 0x6e,
       0x74, 0x20, 0x66, 0x6f, 0x72, 0x20, 0x6e, 0x6f, 0x74, 0x68, 0x69, 0x6e, 0x67, 0x3f]).take 4 =
      [0x5b, 0xdc, 0xc1, 0x46] := by decide +kernel

/-- The check word of the image 0x12, 0x34, 0xFF (section 10.5's example). -/
theorem test_checkWord : checkWord [[0x12, 0x34, 0xFF]] = 0xFEBA ∧ checkWord [[0x13, 0x34, 0xFF]] ≠ 0xFEBA := by decide

/-- The entry of section 11.5's example: grant 1 from slot 0 ends CONSUMED at 4210 s, entry 5005. -/
theorem test_entryBytes :
    entryBytes { number := 5005, time := 4210, detail := .grantClosed .consumed, grant := some 1, slot := some 0,
                 channel := none, unrecorded := 0 } =
      [0, 0, 0x13, 0x8D, 0, 0, 0x10, 0x72, 1, 3, 1, 0, 0, 0, 0, 0, 3, 0, 0, 0, 0, 0, 0, 0, 0, 0, 0, 0, 0,
        0] := by decide

/-! ### A small part to test on -/

/-- Channel 0, on port C. -/
def chanC : ChannelEntry :=
  { live := true, port := .C, ids := .std 0x700 0x708, label := 7, openClasses := 1, replyTimeout := 150,
    extTimeout := 5, maxAllowance := 8, minGap := 10 }

/-- Channel 1, on port E. -/
def chanE : ChannelEntry := { chanC with port := .E, ids := .std 0x710 0x718, openClasses := 0 }

def codeMap : Vector CodeEntry 126 :=
  put (put (put (put (put (put (Vector.replicate 126 .fallback) 0x21 { cls := .observe, role := none })
    0x40 { cls := .reprogram, role := some .other }) 0x30 { cls := .reprogram, role := some .opening })
    0x35 { cls := .reprogram, role := some .block })
    0x36 { cls := .reprogram, role := some .closing }) 0x37 { cls := .reprogram, role := some .erase }

def speed : SignalEntry :=
  { live := true, port := .E, id := .std 0x100, offset := 7, wide := false, little := false, stale := 500,
    test := .atMost, first := 10, second := 0 }

def engine : SignalEntry :=
  { speed with port := .C, id := .ext 0x18FEF100, offset := 6, wide := true, little := true, first := 300 }

def watch (v k : BitVec 11) (pass : Bool) (ms : Nat) : MirrorEntry :=
  { inUse := true, port := .E, ids := .std v k, pass := pass, interval := ms }

def map0 : RegionMap :=
  { present := true, base := 0x10000, exponent := 16, level := 0, top := true, complement := false,
    regions := #v[{ live := true, start := 0x10100, length := 256, writeBar := true, eraseBar := false }, .fallback,
      .fallback] }

def tables0 : Tables :=
  { Tables.fallback with
    ports := { PortSettings.fallback with cEnabled := true, cPair := .std 0x6E0 0x6E8 }
    channels := put (put Tables.fallback.channels 0 chanC) 1 chanE
    codes := codeMap
    policies := put (put Tables.fallback.policies 0 { grantNeeded := false, required := 0 }) 4
      { grantNeeded := true, required := 1 }
    signals := put (put Tables.fallback.signals 0 speed) 1 engine
    mirrors := put (put (put (put Tables.fallback.mirrors 0 (watch 0x200 0x7FF true 0)) 1 (watch 0x300 0x700 true 100)) 2
      (watch 0x400 0x7FF false 0)) 3 (watch 0x200 0x700 true 50)
    maps := put Tables.fallback.maps 0 map0 }

/-- An ACTIVE grant of OBSERVE, REPROGRAM and MANAGE on channel 0. -/
def grant0 : Grant :=
  { number := 0, slot := 1, channels := 1, classes := 0x31, granted := 600, remaining := 300, extensions := 2,
    state := .active, binding := .none, activation := some 5, cause := none, reservation := true,
    seconds := some 1000 }

/-- A RECORDING grant and a CHECKING one. -/
def grant1 : Grant := { grant0 with number := 1, state := .recording, seconds := none, activation := none }
def grant2 : Grant := { grant1 with number := 2, state := .checking, reservation := false }

/-- The part with its tables written, TOOLDET and IGNON asserted, and the first signal known. -/
def home : State :=
  { State.reset with
    part := { awake := true, quiet := 4000, stamp := 9, draws := 0 }
    lines := { ignon := true, stlock := false, tooldet := true, raw := true, debounce := 0, tooldetChanged := true,
               ignonChanged := false }
    tables := tables0
    signals := put State.reset.signals 0 { raw := some 3, available := true, fresh := true, timer := some 200 } }

def withRx (p : Port) (f : Frame) (s : State) : State := s.setPort p { s.port p with rx := [f] }
def withOut (p : Port) (l : List OutFrame) (s : State) : State := s.setPort p { s.port p with out := l }
def withdrawn (p : Port) (s : State) : State :=
  s.setPort p { s.port p with status := .withdrawn, recovery := some 0, fault := 128 }
def withList (l : List Exchange) (s : State) : State := { s with exchanges := l }
def withGrants (l : List Grant) (s : State) : State := setGrants l s
def withQueue (q : List StoreRequest) (s : State) : State := setQueue q s
def released (f : OutFrame) : OutFrame := { f with released := true }
def fromTool (data : List Byte) : Frame := { id := .std 0x700, data := data }
def fromEcu (data : List Byte) : Frame := { id := .std 0x708, data := data }
def onE (id : BitVec 11) (data : List Byte) : Frame := { id := .std id, data := data }

/-- A request waiting to be served on a management channel. -/
def req (m : Mgmt) (buffer : List Byte) : MgmtExchange :=
  { id := 3, chan := m, code := buffer.headD 0, state := .serving, seg := .fresh, response := .std 0x6F8,
    buffer := buffer, work := .unserved, gapTimer := none }

def ask (m : Mgmt) (buffer : List Byte) (s : State) : State := withList [.management (req m buffer)] s

theorem waits (m : Mgmt) (k : Nat) (rest : List Byte) (s : State) (h : s.part.awake = true) :
    RequestWaits (ask m (byte k :: rest) s) m k (req m (byte k :: rest)) := by
  constructor <;> first | exact h | rfl | simp [ask, withList, mgmtExchange, req]

/-- An exchange on channel 0 that waits for its reply. -/
def exch : ChannelExchange :=
  { freshExchange 1 0 0x22 .observe none none .awaiting with timer := .running 150 }

def paceDue : Seg := { Seg.fresh with phase := .paceDue, count := 4, next := 2, timer := some 7 }
def followsDue : Seg := { paceDue with phase := .followsDue, allow := .rest, gap := 20 }

/-- An ACTIVE window of channel 0, its next address 0x10000. -/
def window0 : Window :=
  { channel := 0, grant := 0, slot := 1, state := .active, range := some (0x10000, 0x1000),
    run := some { bmax := 446, next := 0x10000, remaining := 0x1000, expected := 1, last := none, erase := true },
    inHand := none, grace := none, idle := some 0, hold := none, buffer := none, reservations := 1 }

def withWindow (v : Window) (s : State) : State := setWindow 0 (some v) s

def entry0 : Entry :=
  { number := 4, time := 3, detail := .proofFailed, grant := none, slot := some 2, channel := none, unrecorded := 1 }

/-- The law of the list with no exchange, and with one of a number that has been given out. -/
theorem noExchange (s : State) (h : s.exchanges = []) : exchangeLaw s := by
  unfold exchangeLaw pendingChannels pendingMgmt pendingIds; rw [h]; simp

theorem oneExchange (s : State) (x : ChannelExchange) (h : s.exchanges = [.channel x]) (hx : x.id = 1)
    (hs : s.part.stamp = 9) : exchangeLaw s := by
  unfold exchangeLaw pendingChannels pendingMgmt pendingIds; rw [h, hs]; simp [hx]

theorem oneMgmt (s : State) (x : MgmtExchange) (h : s.exchanges = [.management x]) (hx : x.id = 3)
    (hs : s.part.stamp = 9) : exchangeLaw s := by
  unfold exchangeLaw pendingChannels pendingMgmt pendingIds; rw [h, hs]; simp [hx]

/-- An empty queue of an ACTIVE port has room. -/
theorem emptyHasRoom (s : State) (p : Port) (h : (s.port p).status = .active) (ho : (s.port p).out = []) :
    hasRoom s p := ⟨h, by rw [ho]; decide⟩

/-! ### The whole machine -/

def asleep : State := { home with part := { home.part with awake := false } }

theorem test_witness_StepRunsFrontCommand :
    ({ home with pending := [.meterRefill, .acclmpToggle] } : State).pending = .meterRefill :: [.acclmpToggle] := rfl

theorem test_witness_AsleepPartKeepsEverything :
    asleep.part.awake = false ∧ actsAsleep .meterRefill = false ∧ actsAsleep (.grantRevoke .C) = false := by decide

/-- A part with a grant, a window, exchanges, entries and waiting store requests, about to take a frame. -/
def busy : State :=
  { withWindow window0 (withGrants [{ grant0 with binding := .bound 0 }, grant1]
      (withList [.channel { exch with window := some 0, role := some .block }, .management (req .W [1])]
        (withQueue [.append entry0, .failureCount 1] (withRx .C (fromEcu [0, 0xA2]) home)))) with
    pending := [.routerTakesFrame .C, .meterRefill] }

theorem test_witness_laws :
    creditLaw busy ∧ roomLaw busy ∧ portsLaw busy ∧ lockoutLaw busy ∧ grantTableLaw busy ∧ exchangeLaw busy ∧
      windowLaw busy := by
  refine ⟨?_, ?_, ?_, ?_, ?_, ?_, ?_⟩ <;> decide

/-- One proof in progress, and a lockout beside an ACTIVE grant. -/
theorem test_witness_proofLaw :
    proofLaw busy ∧ proofLaw (withGrants [grant0] { home with grants := { home.grants with
      lockout := some 600000, failures := 3 } }) := by decide

/-- A block of 5 bytes in hand whose answer is awaited. -/
def busyBlock : State :=
  withWindow { window0 with inHand := some { start := 0x10000, count := 5, counter := 1, again := false } } busy

theorem test_witness_downloadLaw : exchangeLaw busyBlock ∧ windowLaw busyBlock ∧ downloadLaw busyBlock ∧
    ∃ t, step busyBlock = .next t := by
  refine ⟨by decide, by decide, ⟨?_, fun v hv => (by cases hv), ?_⟩, _, rfl⟩
  · intro v hv
    cases hv
    refine ⟨by decide, by decide, ?_⟩
    intro r hr
    cases hr
    exact ⟨0x10000, 0x1000, rfl, by decide, by decide⟩
  · intro c x hx w hw
    have h0 : ∀ d : Fin 16, d ≠ 0 → channelExchange busyBlock d = none := by decide
    by_cases hc : c = 0
    · subst hc
      cases (show x = { exch with window := some 0, role := some .block } from
        (Option.some.inj (show some _ = some x from hx)).symm)
      cases hw
      exact ⟨_, rfl, by decide⟩
    · rw [h0 c hc] at hx; cases hx

theorem test_witness_identifiersLaw : identifiersLaw busy := by
  refine ⟨by decide +kernel, by decide +kernel, by decide +kernel, ?_⟩
  intro e k id rest h; cases h

/-- A stored map bars a region for writing, and the working map bars it too. -/
def storedMaps : Image := Image.of (encodeMap map0 :: List.replicate 15 (encodeMap .fallback))
def mapped : State := { home with store := { home.store with images := put home.store.images 6 storedMaps } }

theorem test_witness_barLaw : barLaw mapped ∧ writeBars ((storedTables mapped).maps.get 0) ≠ [] := by
  have same : ∀ c, (storedTables mapped).maps.get c = mapped.tables.maps.get c := by decide +kernel
  have clear : ∀ c, mapped.inspector.overlays.get c = none := by decide
  refine ⟨⟨by decide +kernel, ?_, ?_⟩, by decide +kernel⟩
  · intro _ c
    rw [same c, channelWriteBars, channelEraseBars, clear c, writeBarsWith, eraseBarsWith, List.append_nil,
      List.append_nil]
    exact ⟨fun _ h => h, fun _ h => h⟩
  · intro c m hm; rw [clear c] at hm; cases hm

/-- The lamp with no window and an ACTIVE grant, and with a window open. -/
def litBusy : State := { busy with grants := { busy.grants with lamp := .toggling true 500 } }

theorem test_witness_lampLaw :
    lampLaw litBusy ∧ windowOpen litBusy ∧ litBusy.pending ≠ [] ∧ litBusy.pending.head? ≠ some .acclmpToggle ∧
    lampLaw home ∧ ¬windowOpen home ∧ proofLaw litBusy ∧ home.pending = [] ∧ asleep.pending = [] ∧
    (∃ t, step home = .next t) := by
  have closed : ¬windowOpen home := by decide
  refine ⟨⟨fun _ => ⟨_, _, rfl⟩, fun h => (h (.inl (by decide))).elim, fun h => (h (.inl (by decide))).elim⟩,
    by decide, by decide, by decide, ⟨fun h => (closed h).elim, ?_, fun _ _ => rfl⟩, closed, by decide, rfl, rfl, ⟨_, rfl⟩⟩
  rintro _ ⟨g, hg, _⟩; cases hg

theorem test_witness_tablesLaw : tablesLaw busy ∧ tablesLaw mapped := by
  and_intros
  any_goals decide
  · intro r hr
    rcases hr with _ | ⟨_, _ | ⟨_, hr⟩⟩
    · trivial
    · trivial
    · cases hr
  · intro r hr; cases hr

/-- For the statements that every step keeps a law. -/
theorem test_witness_step : (∃ t, step busy = .next t) ∧ ∃ t, step mapped = .next t := ⟨⟨_, rfl⟩, _, rfl⟩

theorem test_witness_TableEntryImagesReadBack :
    entryValid (.map 15 map0) ∧ entryValid (.code 125 { cls := .reprogram, role := some .other }) ∧
      entryValid (.signal 3 engine) := by
  refine ⟨?_, ?_, ?_⟩ <;> unfold entryValid <;> decide

/-! ### The starts -/

/-- A store whose Class Policy image and whose slot 2 fail their checks. -/
def damaged : State :=
  { home with
    store := { home.store with
      images := put home.store.images 3 { entries := [], check := 0 }
      slots := put home.store.slots 2 { slot := { state := .live, key := 5 }, check := 0 } } }

theorem test_witness_ColdStart :
    damaged.store.queue = [] ∧ damaged.store.mark.check = checkWord [beBytes 4 damaged.store.mark.value] ∧
    (damaged.store.slots.get 2).check ≠ checkWord [byte 1 :: beBytes 16 5] ∧
    (storedImage damaged .mirrorList).check = checkWord (storedImage damaged .mirrorList).entries ∧
    31 < tableSize .mirrorList ∧
    readEntry .mirrorList (entryNumber .mirrorList 31) ((storedImage damaged .mirrorList).entries.getD 31 []) =
      some (.mirror 31 .fallback) ∧
    (storedImage damaged .classPolicy).check ≠ checkWord (storedImage damaged .classPolicy).entries := by decide +kernel

/-- A Channel Table whose first entry carries the fallback W request identifier, its second none, and its third, not
live, that identifier too. -/
def strayed : ChannelEntry := { chanC with ids := .std 0x700 0x6F0 }
def strayedPart : State :=
  { home with store := { home.store with images := put home.store.images 1 (Image.of (
      encodeChannel strayed :: encodeChannel chanE :: encodeChannel { strayed with live := false } ::
        List.replicate 13 (encodeChannel .fallback))) } }

theorem test_witness_ColdStartAgrees : ∀ s : State, s = strayedPart → s.store.queue = [] ∧
    (storedImage s .channelTable).check = checkWord (storedImage s .channelTable).entries ∧
    readEntry .channelTable (entryNumber .channelTable 0) ((storedImage s .channelTable).entries.getD 0 []) =
      some (.channel 0 strayed) ∧
    readEntry .channelTable (entryNumber .channelTable 2) ((storedImage s .channelTable).entries.getD 2 []) =
      some (.channel 2 { strayed with live := false }) ∧
    (storedImage s .portSettings).check = checkWord (storedImage s .portSettings).entries ∧
    (loadedTables s).channels.get 0 = { strayed with live := false } ∧ (loadedTables s).channels.get 1 = chanE := by
  rintro s rfl; and_intros <;> decide +kernel

theorem test_witness_ColdStartCutsShortTheOperation :
    (withQueue [.tableEntry (.policy 4 .fallback) none 3, .failureCount 1] home).store.queue =
      .tableEntry (.policy 4 .fallback) none 3 :: [.failureCount 1] ∧
    (withQueue [.credentialWrite 7 5 none 3] home).store.queue = .credentialWrite 7 5 none 3 :: [] ∧
    (withQueue [.credentialWithdraw 0 none 3] home).store.queue = .credentialWithdraw 0 none 3 :: [] ∧
    (withQueue [.failureCount 2] home).store.queue = .failureCount 2 :: [] ∧
    (withQueue [.lockPolicy .frozen none 3] home).store.queue = .lockPolicy .frozen none 3 :: [] ∧
    (withQueue [.append entry0] home).store.queue = .append entry0 :: [] ∧
    (withQueue [.trim 1 3] home).store.queue = .trim 1 3 :: [] := ⟨rfl, rfl, rfl, rfl, rfl, rfl, rfl⟩

def dueAgain : State := { home with agent := { home.agent with restart := .due } }

theorem test_witness_HotStart :
    dueAgain.agent.restart = .due ∧ dueAgain.store.queue = [] ∧ home.agent.restart ≠ .due ∧
    (withQueue [.failureCount 1] dueAgain).store.queue ≠ [] ∧ asleep.part.awake = false ∧ home.part.awake = true := by
  decide

/-! ### Bus Ports -/

def dataFrame : BusFrame := { id := .std 5, code := 8, data := [1, 2, 3, 4, 5, 6, 7, 8], remote := false }
def remoteFrame : BusFrame := { id := .std 5, code := 8, data := [], remote := true }
def fullRx : State := home.setPort .E { home.port .E with rx := List.replicate 32 (onE 1 []) }

theorem test_witness_ReceivedFrame :
    home.part.awake = true ∧ ((withdrawn .E home).port .E).status = .withdrawn ∧ (home.port .E).status = .active ∧
    remoteFrame.remote = true ∧ dataFrame.remote = false ∧ (home.port .E).rx.length < 32 ∧
    32 ≤ (fullRx.port .E).rx.length ∧ fullRx.part.awake = true ∧ (fullRx.port .E).status = .active := by decide

def reply0 : OutFrame := replyFrame home 0 0x22 0xE5
def mirror0 : OutFrame := offered (onE 0x200 [1]) .mirror 0 .plain
def request0 : OutFrame := released (offered (fromTool [0, 0x22]) (.exchange 0) 1 .lastRequest)

/-- The head of port C is a request's last frame, and its exchange waits for its sending. -/
def sending : State :=
  withOut .C [request0] (withList [.channel { exch with timer := .pendingSend }] home)

theorem test_witness_Transmission :
    sending.part.awake = true ∧ (sending.port .C).status = .active ∧ (sending.port .C).out = request0 :: [] ∧
    request0.released = true ∧ (sending.port .C).fault + 8 < 128 ∧ request0.origin = .exchange 0 ∧
    request0.mark = .lastRequest ∧
    ownedExchange sending request0.owner = some { exch with timer := .pendingSend } ∧
    ((withOut .W [mirror0] home).port .W).out = mirror0 :: [] ∧ mirror0.origin = .mirror ∧
    ((withOut .W [reply0] home).port .W).out = reply0 :: [] ∧ reply0.origin = .reply 0 := by decide

/-- Port C one failed attempt short of withdrawal: a score of 120. -/
def failing : State := sending.setPort .C { sending.port .C with fault := 120 }

theorem test_witness_FailedAttempt :
    failing.part.awake = true ∧ exchangeLaw failing ∧ (failing.port .C).status = .active ∧
    (failing.port .C).out = request0 :: [] ∧ request0.released = true ∧ 128 ≤ (failing.port .C).fault + 8 := by decide

/-- The queues of C and W one attempt short of withdrawal, with frames of an exchange of a window on C, and on W of a
management exchange and of a side answer. -/
def failingC : State :=
  withWindow window0 (withList [.channel { exch with window := some 0 }] failing)
def replyPart : OutFrame := offered (onE 0x6F8 [0, 1]) (.management .W .exchange) 3 .plain
def sidePart : OutFrame := offered (onE 0x6F8 [0, 2]) (.management .W .side) 5 .plain
def failingW : State :=
  let s := withList [.management (req .W [1])] (withOut .W [replyPart, sidePart] home)
  { s.setPort .W { s.port .W with fault := 120 } with
    agent := { s.agent with sideW := .sending 5 paceDue [1, 2] none } }

theorem test_witness_FlushedFrames :
    exchangeLaw failingC ∧ request0 ∈ (failingC.port .C).out ∧
    ownedExchange failingC request0.owner = some { exch with window := some 0 } ∧ 128 ≤ (failingC.port .C).fault + 8 ∧
    exchangeLaw failingW ∧ (failingW.port .W).out = replyPart :: [sidePart] ∧ 128 ≤ (failingW.port .W).fault + 8 ∧
    sideOf failingW .W = .sending 5 paceDue [1, 2] none := by decide

theorem test_witness_Recovery :
    ∀ p, ((withdrawn p home).port p).status = .withdrawn ∧ (withdrawn p home).part.awake = true := by
  intro p; cases p <;> decide

def atDebounce (raw tooldet : Bool) (n : Nat) : State :=
  { home with lines := { home.lines with raw := raw, tooldet := tooldet, debounce := n } }

theorem test_witness_Lines :
    home.part.awake = true ∧ home.lines.ignon = true ∧ home.lines.ignon ≠ false ∧ (∀ w, home.window w = none) ∧
    true = home.lines.tooldet ∧ (false ≠ (atDebounce true true 198).lines.tooldet ∧
      (atDebounce true true 198).lines.debounce + 1 < 200) ∧
    ((atDebounce false false 199).lines.tooldet = false ∧ 200 ≤ (atDebounce false false 199).lines.debounce + 1) ∧
    ((atDebounce true false 199).lines.tooldet = false ∧ (atDebounce true false 199).lines.raw = true) ∧
    home.lines.raw = home.lines.tooldet := by decide

def threeGrants : State := withGrants [grant0, grant1, grant2] home

theorem test_witness_PresenceLoss :
    threeGrants.part.awake = true ∧ threeGrants.lines.tooldet = true ∧ grantNumbersDistinct threeGrants ∧
    200 ≤ ({ threeGrants with lines := (atDebounce true true 199).lines } : State).lines.debounce + 1 ∧
    ({ threeGrants with lines := (atDebounce false true 1).lines } : State).lines.raw = false ∧
    (∃ g ∈ threeGrants.grants.grants, g.state = .checking) ∧ ¬windowOpen threeGrants ∧
    (∀ g ∈ threeGrants.grants.grants, granting g → g.reservation = true) ∧
    threeGrants.store.queue.length + threeGrants.grants.grants.length ≤ 16 := by decide

/-- One grant, bound to a window that has a range and a next address. -/
theorem test_witness_PresenceLossInAWindow : ∀ s : State,
    s = withWindow window0 (withGrants [{ grant0 with binding := .bound 0 }] home) →
    s.part.awake = true ∧ s.lines.tooldet = true ∧ grantNumbersDistinct s ∧
    s.grants.grants = [{ grant0 with binding := .bound 0 }] ∧ grant0.state = .active ∧ grant0.reservation = true ∧
    s.window 0 = some window0 ∧ window0.range = some (0x10000, 0x1000) ∧ window0.run.isSome = true ∧
    1 ≤ window0.reservations ∧ linkedExchange s 0 = none ∧ s.store.queue.length + 2 ≤ 16 := by
  intro s h; subst h; decide

def quietPart : State := { State.reset with part := { State.reset.part with quiet := 0 } }

theorem test_witness_Sleep :
    quietPart.part.awake = true ∧ quietPart.lines.ignon = false ∧ quietPart.lines.tooldet = false ∧
    quietPart.grants.grants = [] ∧ quietPart.exchanges = [] ∧
    (∀ p, (quietPart.port p).rx = [] ∧ (quietPart.port p).out = []) ∧ quietPart.store.queue = [] ∧
    quietPart.part.quiet = 0 ∧ home.part.awake = true ∧ home.lines.ignon = true := by
  refine ⟨rfl, rfl, rfl, rfl, rfl, ?_, rfl, rfl, rfl, rfl⟩
  intro p; cases p <;> decide

/-! ### The Load Meter -/

def waiting0 : OutFrame := { request0 with released := false }

/-- A head of cost 75 on a bucket that covers it exactly, and on one a centibit short. -/
def meterAt (n : Nat) : State := (withOut .C [waiting0] home).setCredit .C n

theorem test_witness_HeadRelease :
    (meterAt 7500).part.awake = true ∧ ((meterAt 7500).port .C).out = waiting0 :: [] ∧
    ((meterAt 7500).port .C).status = .active ∧ waiting0.released = false ∧
    frameCost waiting0.frame * 100 ≤ (meterAt 7500).credit .C ∧
    (meterAt 7499).credit .C < frameCost waiting0.frame * 100 := by decide

/-- The refill of port C is 250 x 10 centibits: 5000 is just enough, 4999 is not. -/
theorem test_witness_MeterRefill :
    frameCost waiting0.frame * 100 ≤ min (480 * 100) ((meterAt 5000).credit .C + 250 * 10) ∧
    min (480 * 100) ((meterAt 4999).credit .C + 250 * 10) < frameCost waiting0.frame * 100 ∧
    rateKbit ((meterAt 5000).port .C).rate = 250 ∧ shareOf (meterAt 5000).tables.ports .C = 10 := by decide

/-! ### Frame Router, Condition Monitor and Mirror List -/

theorem toolSide (s : State) (f : Frame) (rest : List Frame) (ha : s.part.awake = true)
    (hf : s.ports.w.rx = f :: rest) (hi : f.id = .std 0x700) (ht : s.tables = tables0) : ToolSide s 0 f rest := by
  have hc : ∀ d, s.channel d = tables0.channels.get d := by intro d; rw [State.channel, ht]
  constructor
  · exact ha
  · exact hf
  · rw [hi, ht]; decide
  · rw [hc]; decide
  · rw [hc, hi]; decide
  · intro d; rw [hc, hi]; revert d; decide

theorem controllerSide (s : State) (f : Frame) (rest : List Frame) (ha : s.part.awake = true)
    (hf : s.ports.c.rx = f :: rest) (hi : f.id = .std 0x708) (ht : s.tables = tables0) : ControllerSide s 0 f rest := by
  have hc : ∀ d, s.channel d = tables0.channels.get d := by intro d; rw [State.channel, ht]
  constructor
  · exact ha
  · rw [hc]; exact hf
  · rw [hc, hi, ht]; decide
  · rw [hc]; decide
  · rw [hc, hi]; decide
  · intro d; rw [hc, hc 0, hi]; revert d; decide

theorem vehicleSide (s : State) (f : Frame) (rest : List Frame) (ha : s.part.awake = true)
    (hf : s.ports.e.rx = f :: rest) (hi : f.id ≠ .std 0x718) (ht : s.tables = tables0) : VehicleSide s .E f rest := by
  have hc : ∀ d, s.channel d = tables0.channels.get d := by intro d; rw [State.channel, ht]
  constructor
  · exact ha
  · exact hf
  · simp
  · have : ∀ d, (tables0.channels.get d).live = true → (tables0.channels.get d).port = .E →
        (tables0.channels.get d).ids.response = .std 0x718 := by decide
    intro d; rw [hc]
    intro h1 h2 h3
    exact hi (h3.symm.trans (this d h1 h2))

theorem test_witness_DroppedFrames :
    (home.port .E).rx = [] ∧ (withRx .W (onE 1 []) home).ports.w.rx = onE 1 [] :: [] ∧
    (onE 1 []).id ≠ tables0.ports.wPair.request ∧
    (∀ d, (home.channel d).live = true → (home.channel d).ids.request ≠ (onE 1 []).id) ∧
    ControllerSide (withRx .C (fromEcu []) home) 0 (fromEcu []) [] ∧
    channelExchange (withRx .C (fromEcu []) home) 0 = none :=
  ⟨rfl, rfl, by decide, by decide, controllerSide _ _ _ rfl rfl rfl rfl, rfl⟩

def noTool (s : State) : State := { s with lines := { s.lines with tooldet := false } }

/-- A value at the last byte of a frame, one byte short, and the two bytes of a 16-bit value. -/
theorem test_witness_VehicleFrame :
    VehicleSide (noTool (withRx .E (onE 0x100 [0, 0, 0, 0, 0, 0, 0, 255]) home)) .E
      (onE 0x100 [0, 0, 0, 0, 0, 0, 0, 255]) [] ∧
    (onE 0x100 [0, 0, 0, 0, 0, 0, 0, 255]).data[speed.offset]? = some 255 ∧ speed.live = true ∧ speed.port = .E ∧
    speed.wide = false ∧ tables0.signals.get 0 = speed ∧ tables0.signals.get 1 = engine ∧
    ([0, 0, 0, 0, 0, 0, 0] : List Byte).length < speed.offset + 1 ∧ engine.wide = true ∧
    ([1, 2, 3, 4, 5, 6, 7, 8] : List Byte)[engine.offset + 1]? = some 8 ∧ (∀ w, home.window w = none) ∧
    (home.port .E).status = .active ∧
    VehicleSide (noTool (withRx .E (onE 0x100 [1]) (withdrawn .E home))) .E (onE 0x100 [1]) [] ∧
    ((noTool (withRx .E (onE 0x100 [1]) (withdrawn .E home))).port .E).status = .withdrawn :=
  by and_intros <;> first | decide | exact vehicleSide _ _ _ rfl rfl (by decide) rfl

def mirrorOf (f : Frame) (r : MirrorRun) : State := { withRx .E f home with mirror := put home.mirror 1 r }

theorem test_witness_MirrorList :
    VehicleSide (mirrorOf (onE 0x3FF [9]) .quiet) .E (onE 0x3FF [9]) [] ∧ hasRoom (mirrorOf (onE 0x3FF [9]) .quiet) .W ∧
    (∀ i, (tables0.signals.get i).live = true → (tables0.signals.get i).port = .E →
      (tables0.signals.get i).id ≠ (onE 0x3FF [9]).id) ∧
    home.lines.tooldet = true ∧ (noTool home).lines.tooldet = false ∧
    (∀ j, mirrorMatches (tables0.mirrors.get j) .E (onE 0x7FF []) = false) ∧
    (mirrorMatches (tables0.mirrors.get 0) .E (onE 0x200 []) = true ∧ (tables0.mirrors.get 0).pass = true ∧
      (tables0.mirrors.get 0).interval = 0 ∧ mirrorMatches (tables0.mirrors.get 3) .E (onE 0x200 []) = true) ∧
    (mirrorMatches (tables0.mirrors.get 2) .E (onE 0x400 []) = true ∧ (tables0.mirrors.get 2).pass = false) ∧
    (mirrorMatches (tables0.mirrors.get 1) .E (onE 0x3FF [9]) = true ∧ (tables0.mirrors.get 1).pass = true ∧
      (tables0.mirrors.get 1).interval ≠ 0 ∧
      ∀ j, j < 1 → mirrorMatches (tables0.mirrors.get j) .E (onE 0x3FF [9]) = false) ∧
    (mirrorOf (onE 0x3FF [9]) .quiet).mirror.get 1 = .quiet ∧
    (mirrorOf (onE 0x3FF [9]) (.timing 1)).mirror.get 1 = .timing 1 ∧
    (mirrorOf (onE 0x3FF [9]) (.holding 1 (onE 0x300 []))).mirror.get 1 = .holding 1 (onE 0x300 []) :=
  by and_intros <;> first | decide | exact vehicleSide _ _ _ rfl rfl (by decide) rfl

def fullW : State := withOut .W (List.replicate 32 mirror0) home

theorem test_witness_MirrorTimer :
    home.part.awake = true ∧ (setMirror 1 (.timing 0) home).mirror.get 1 = .timing 0 ∧
    (setMirror 1 (.holding 0 (onE 0x300 [])) home).mirror.get 1 = .holding 0 (onE 0x300 []) ∧ hasRoom home .W ∧
    ¬hasRoom fullW .W := by decide

/-! ### Exchanges -/

theorem test_witness_MessageHasOneSegmentedForm :
    (1 ≤ (List.replicate 1 (0 : Byte)).length ∧ (List.replicate 7 (0 : Byte)).length ≤ 7) ∧
    (8 ≤ (List.replicate 8 (0 : Byte)).length ∧ (List.replicate 448 (0 : Byte)).length ≤ 448) := by
  decide +kernel

def granted : State := withGrants [grant0] home

theorem test_witness_Admitted :
    admission home 0 0x22 (.unit [0x22]) = .pass .observe none ∧
    admission granted 0 0x31 (.lead 1 [0x31]) = .opening 0 1 0 ∧
    admission (withWindow window0 home) 0 0x36 (.unit [0x36]) = .linked .block 0 ∧
    admission home 0 0x31 (.lead 1 [0x31]) = .refuse .notGranted := by decide

def asked (data : List Byte) (s : State) : State := withRx .W (fromTool data) s

theorem test_witness_Refused :
    (∀ data, ToolSide (asked data home) 0 (fromTool data) []) ∧ hasRoom (asked [0, 0x22] home) .W ∧
    (fromTool [0, 0x7F]).data = byte 0 :: 0x7F :: [] ∧
    channelExchange (asked [0, 0x22] (withList [.channel exch] home)) 0 = some exch ∧
    channelExchange (asked [0, 0x22] home) 0 = none ∧
    ((asked [0, 0x22] (withdrawn .C home)).port (netPort (home.channel 0).port)).status = .withdrawn ∧
    ((asked [0, 0x22] home).port (netPort (home.channel 0).port)).status = .active ∧
    (0x7F ≤ (0x7F : Byte).toNat ∧ classOf home 0x7E = some { cls := .forbidden, role := none }) ∧
    (classOf home 0x36 = some { cls := .reprogram, role := some .block } ∧
      classOf home 0x37 = some { cls := .reprogram, role := some .closing } ∧ windowOn home 0 = none) :=
  by and_intros <;> first | decide | exact fun _ => toolSide _ _ _ rfl rfl rfl rfl

/-- A lead of count `k` for a code, and the states that differ in what admits it. -/
def leadOf (k : Nat) (code : Byte) : List Byte := [byte (64 + k), code, 1, 2, 3, 4, 5, 6]
def stale (s : State) : State := { s with signals := State.reset.signals }
def full126 (s : State) : State := { s with record := { s.record with kept := List.replicate 126 entry0 } }
def twoWindows (s : State) : State := setWindow 1 (some { window0 with channel := 1 }) (withWindow window0 s)

/-- Refusals of a lead: an Erase that is no lead of count 1, a class that needs a grant or a condition, and an Open. -/
theorem test_witness_RefusedLead :
    (∀ data s, s = home ∨ s = granted ∨ s = stale granted ∨ s = withWindow window0 granted ∨ s = twoWindows granted ∨
      s = full126 granted → ToolSide (asked data s) 0 (fromTool data) [] ∧ hasRoom (asked data s) .W ∧
        channelExchange (asked data s) 0 = none ∧
        ((asked data s).port (netPort ((asked data s).channel 0).port)).status = .active) ∧
    (fromTool (leadOf 63 0x38)).data = byte (64 + 63) :: 0x38 :: [1, 2, 3, 4, 5, 6] ∧
    classOf home 0x38 = some { cls := .reprogram, role := some .erase } ∧ windowOn (withWindow window0 granted) 0 ≠ none ∧
    (fromTool (leadOf 63 0x38)).data.head? ≠ some (byte 65) ∧
    classOf home 0x41 = some { cls := .reprogram, role := some .other } ∧
    classOpen (home.channel 0) .reprogram = false ∧ (policyOf home .reprogram).grantNeeded = true ∧
    (∀ g ∈ home.grants.grants, g.state ≠ .active) ∧
    (∃ g ∈ granted.grants.grants, g.state = .active ∧ g.channels.getLsbD 0 = true ∧
      g.classes &&& classBit .reprogram ≠ 0) ∧
    (policyOf (stale granted) .reprogram).required &&& ~~~(conditions (stale granted)) ≠ 0 ∧
    classOf home 0x31 = some { cls := .reprogram, role := some .opening } ∧
    (∃ g ∈ granted.grants.grants, coversOpen g 0) ∧ (∀ g ∈ home.grants.grants, ¬coversOpen g 0) ∧
    (policyOf granted .reprogram).required &&& ~~~(conditions granted) = 0 ∧
    (∀ w, (twoWindows granted).window w ≠ none) ∧ windowOn granted 0 = none ∧ granted.window 1 = none ∧
    (fromTool [0, 0x31]).data.head? ≠ some (byte 65) ∧ (fromTool (leadOf 1 0x31)).data.head? = some (byte 65) ∧
    126 < occupied (full126 granted) := by
  and_intros
  any_goals decide +kernel
  rintro data s (rfl | rfl | rfl | rfl | rfl | rfl) <;>
    exact ⟨toolSide _ _ _ rfl rfl rfl rfl, emptyHasRoom _ _ rfl rfl, rfl, rfl⟩

theorem test_witness_AdmittedUnit :
    exchangeLaw (asked [0, 0x22, 1] home) ∧ ToolSide (asked [0, 0x22, 1] home) 0 (fromTool [0, 0x22, 1]) [] ∧
    hasRoom (asked [0, 0x22, 1] home) .C ∧ classOf home 0x22 = some { cls := .observe, role := none } ∧
    classOpen (home.channel 0) .observe = true ∧ (policyOf home .observe).required &&& ~~~(conditions home) = 0 :=
  ⟨by decide, toolSide _ _ _ rfl rfl rfl rfl, by decide, by decide, by decide, by decide⟩

/-- The longest request's lead, and an Open's lead with the first window free and with the second alone free. -/
theorem test_witness_AdmittedLead :
    exchangeLaw (asked (leadOf 63 0x22) home) ∧ ToolSide (asked (leadOf 63 0x22) home) 0 (fromTool (leadOf 63 0x22)) [] ∧
    (∀ s, s = granted ∨ s = setWindow 0 (some { window0 with channel := 1 }) granted →
      exchangeLaw (asked (leadOf 1 0x31) s) ∧ ToolSide (asked (leadOf 1 0x31) s) 0 (fromTool (leadOf 1 0x31)) [] ∧
      grantNumbersDistinct s ∧ s.grants.grants = [] ++ grant0 :: [] ∧ windowOn s 0 = none ∧ occupied s + 2 ≤ 128 ∧
      channelExchange s 0 = none ∧ hasRoom s .C) ∧
    coversOpen grant0 0 ∧ granted.window 0 = none ∧
    (setWindow 0 (some { window0 with channel := 1 }) granted).window 0 ≠ none ∧
    (setWindow 0 (some { window0 with channel := 1 }) granted).window 1 = none := by
  refine ⟨by decide, toolSide _ _ _ rfl rfl rfl rfl, ?_, by decide, by decide, by decide, by decide⟩
  rintro s (rfl | rfl) <;>
    exact ⟨by decide, toolSide _ _ _ rfl rfl rfl rfl, by decide, rfl, by decide, by decide, by decide, by decide⟩

def answered (data : List Byte) (x : ChannelExchange) : State := withList [.channel x] (withRx .C (fromEcu data) home)

theorem test_witness_ReplyUnit :
    exchangeLaw (answered [0, 0xA2] exch) ∧ (∀ d x, ControllerSide (answered d x) 0 (fromEcu d) []) ∧
    hasRoom (answered [0, 0xA2] exch) .W ∧ channelExchange (answered [0, 0xA2] exch) 0 = some exch ∧
    exch.state = .awaiting ∧ exch.window = none ∧ exch.code.toNat ≤ 0x7E ∧
    (¬∃ more, ([0xA2] : List Byte) = byte 0xFF :: exch.code :: byte 0x2F :: more) ∧
    (∃ more, ([0xFF, 0x22, 0x2F] : List Byte) = byte 0xFF :: exch.code :: byte 0x2F :: more) ∧
    ({ exch with reloads := 63 } : ChannelExchange).reloads < 64 ∧
    64 ≤ ({ exch with reloads := 64 } : ChannelExchange).reloads :=
  ⟨by decide, fun _ _ => controllerSide _ _ _ rfl rfl rfl rfl, by decide, by decide, rfl, rfl, by decide,
    by rintro ⟨_, h⟩; simp [byte] at h, ⟨[], by decide⟩, by decide, by decide⟩

/-- A reply's lead of the highest count, and one that says still working. -/
theorem test_witness_ReplyLead :
    (fromEcu [127, 0xA2, 1, 2, 3, 4, 5, 6]).data = byte (64 + 63) :: [0xA2, 1, 2, 3, 4, 5, 6] ∧
    ([0xFF, 0x22, 0x2F, 0, 0, 0, 0] : List Byte) = byte 0xFF :: exch.code :: byte 0x2F :: [0, 0, 0, 0] ∧
    (¬∃ more, ([0xA2, 1, 2, 3, 4, 5, 6] : List Byte) = byte 0xFF :: exch.code :: byte 0x2F :: more) := by
  refine ⟨by decide, by decide, ?_⟩
  rintro ⟨_, h⟩; simp [byte] at h

/-- An exchange that passes follows: number 2 of 4 is expected, or the last one. -/
def followsAt (st : ExchState) (a : Allowance) (last : Nat) : ChannelExchange :=
  { exch with state := st, timer := .stopped, seg := { followsDue with allow := a, count := last } }

theorem test_witness_ReplyFollows :
    (∀ a n, exchangeLaw (answered [130, 1, 2, 3, 4, 5, 6, 7] (followsAt .replying a n)) ∧
      channelExchange (answered [130, 1, 2, 3, 4, 5, 6, 7] (followsAt .replying a n)) 0 = some (followsAt .replying a n) ∧
      (followsAt .replying a n).seg.phase = .followsDue ∧ (followsAt .replying a n).seg.next = 2 ∧
      (followsAt .replying a n).seg.count = n ∧ (followsAt .replying a n).seg.allow = a) ∧
    (fromEcu [130, 1, 2, 3, 4, 5, 6, 7]).data = byte (128 + 2) :: [1, 2, 3, 4, 5, 6, 7] ∧
    (fromEcu [130, 1]).data = byte (128 + 2) :: [1] ∧ (followsAt .replying .rest 2).form ≠ .stillWorking ∧
    ({ followsAt .replying .rest 2 with form := .stillWorking } : ChannelExchange).form = .stillWorking ∧
    (followsAt .replying .rest 2).window = none := by
  refine ⟨fun a n => ⟨?_, rfl, rfl, rfl, rfl, rfl⟩, by decide, by decide, by decide, rfl, rfl⟩
  exact oneExchange _ _ rfl rfl rfl

def passed (data : List Byte) (x : ChannelExchange) : State := asked data (withList [.channel x] home)

/-- The tool's pace frames for a reply: a proceed of 63 and of all the rest, a wait, and a refuse. -/
theorem test_witness_ToolPace : ∀ d, ToolSide (passed d { followsAt .replying .rest 4 with seg := paceDue }) 0 (fromTool d) []
    ∧ exchangeLaw (passed [192, 2, 0] { followsAt .replying .rest 4 with seg := paceDue }) ∧
    hasRoom (passed d { followsAt .replying .rest 4 with seg := paceDue }) .C ∧
    (fromTool [255, 0, 127]).data = 255 :: byte 0 :: 127 :: [] ∧ (127 : Byte).toNat ≤ 127 ∧ 192 ≤ (192 : Byte).toNat ∧
    (fromTool [193, 1, 0]).data = 193 :: byte 1 :: 0 :: [] ∧ (fromTool [192, 2, 0]).data = 192 :: byte 2 :: 0 :: [] ∧
    paceDue.phase = .paceDue ∧ (followsAt .replying .rest 4).window = none :=
  fun _ => ⟨toolSide _ _ _ rfl rfl rfl rfl, by decide, emptyHasRoom _ _ rfl rfl, by decide, by decide,
    by decide, by decide, by decide, rfl, rfl⟩

theorem test_witness_RequestFollows : ∀ d a n, ToolSide (passed d (followsAt .inbound a n)) 0 (fromTool d) [] ∧
    hasRoom (passed d (followsAt .inbound a n)) .C ∧
    channelExchange (passed d (followsAt .inbound a n)) 0 = some (followsAt .inbound a n) ∧
    (followsAt .inbound a n).role = none ∧ (fromTool [130, 7]).data = byte (128 + 2) :: [7] :=
  fun _ _ _ => ⟨toolSide _ _ _ rfl rfl rfl rfl, emptyHasRoom _ _ rfl rfl, rfl, rfl, by decide⟩

def inbound : ChannelExchange := { exch with state := .inbound, seg := paceDue, timer := .stopped }

/-- A proceed of allowance 0 and the longest gap. -/
theorem test_witness_Proceed :
    exchangeLaw (answered [192, 0, 127] inbound) ∧ hasRoom (answered [192, 0, 127] inbound) .W ∧
    ControllerSide (answered [192, 0, 127] inbound) 0 (fromEcu [192, 0, 127]) [] ∧
    (fromEcu [192, 0, 127]).data = 192 :: byte 0 :: 127 :: [] ∧ 192 ≤ (192 : Byte).toNat ∧
    (127 : Byte).toNat ≤ 127 ∧ channelExchange (answered [192, 0, 127] inbound) 0 = some inbound ∧
    inbound.state = .inbound ∧ inbound.seg.phase = .paceDue :=
  ⟨by decide, by decide, controllerSide _ _ _ rfl rfl rfl rfl, by decide, by decide, by decide, by decide, rfl, rfl⟩

/-- A wait and a refuse at the boundaries of their fields. -/
theorem test_witness_WaitAndRefuse : ∀ d, ControllerSide (answered d inbound) 0 (fromEcu d) [] ∧
    hasRoom (answered d inbound) .W ∧ exchangeLaw (answered d inbound) ∧ channelExchange (answered d inbound) 0 = some inbound ∧
    inbound.window = none ∧ paceFrame (fromEcu [192, 1, 127]) 192 1 127 ∧ paceFrame (fromEcu [255, 2, 0, 9]) 255 2 0 :=
  fun _ => ⟨controllerSide _ _ _ rfl rfl rfl rfl, emptyHasRoom _ _ rfl rfl, oneExchange _ _ rfl rfl rfl, rfl, rfl,
    ⟨⟨[], rfl⟩, by decide, by decide, by decide⟩, ⟨[9], rfl⟩, by decide, by decide, by decide⟩

theorem test_witness_ReplyTimer :
    exchangeLaw (withList [.channel exch] home) ∧ channelExchange (withList [.channel exch] home) 0 = some exch ∧
    exch.timer = .running 150 ∧ exch.window = none ∧ hasRoom (withList [.channel exch] home) .W ∧
    (∀ x, channelExchange sending 0 = some x → x.timer = .stopped ∨ x.timer = .pendingSend) := by
  refine ⟨by decide, by decide, rfl, rfl, by decide, ?_⟩
  intro x hx
  have : channelExchange sending 0 = some { exch with timer := .pendingSend } := by decide
  rw [this] at hx; cases hx; exact .inr rfl

def gathering : MgmtExchange :=
  { req .W [0x18, 1] with state := .receiving, seg := { followsDue with timer := some 0 } }
def replying : MgmtExchange :=
  { req .C [6] with id := 4, state := .answering, work := .ready (List.replicate 40 5), gapTimer := some 0,
                    seg := { followsDue with timer := some 0 } }
def sideSeg : Seg := { followsDue with timer := some 3 }
def side0 : Side := .sending 5 sideSeg (List.replicate 40 6) (some 0)

/-- Messages in flight on a channel, on both management channels and as side answers. -/
def inFlight : State :=
  { withList [.channel { exch with seg := paceDue }, .management gathering, .management replying] home with
    agent := { home.agent with sideW := side0, sideC := side0 } }

theorem test_witness_SegmentTimer :
    inFlight.part.awake = true ∧ exchangeLaw inFlight ∧
    channelExchange inFlight 0 = some { exch with seg := paceDue } ∧ paceDue.timer = some 7 ∧
    channelExchange (withList [.channel exch] home) 0 = some exch ∧ exch.seg.timer = none ∧
    mgmtExchange inFlight .W = some gathering ∧ gathering.seg.timer = some 0 ∧ gathering.state = .receiving ∧
    mgmtExchange inFlight .C = some replying ∧ replying.seg.timer = some 0 ∧ replying.state = .answering ∧
    inFlight.agent.sideW = side0 ∧ inFlight.agent.sideC = side0 ∧ sideSeg.timer = some 3 ∧ hasRoom inFlight .W := by
  decide

/-- A record that has the turn, with 3 of 4 follows to come, and one that is at the last of them. -/
def spending (a : Allowance) (n : Nat) : Seg := { followsDue with allow := a, next := n, timer := none }

/-- Of a 30-byte message from follow 2 on: a follow that spends the allowance gives the turn away with the timer stopped,
another starts the gap, and the last ends the message (R47, R48, R53). -/
theorem test_planFollows :
    planFollows (List.replicate 30 8) 6 1 { spending (.num 1) 2 with timer := some 9 } =
      ([(byte 130 :: List.replicate 7 8, .turn 6)],
        { spending (.num 0) 3 with phase := .paceDue, len := 7, turn := 6 }) ∧
    (planFollows (List.replicate 30 8) 6 1 (spending (.num 2) 2)).1 = [(byte 130 :: List.replicate 7 8, .spaced)] ∧
    planFollows (List.replicate 30 8) 6 1 (spending (.num 2) 4) =
      ([([byte 132, 8, 8], .last)], { spending (.num 2) 4 with len := 2 }) := by decide

/-- A lead sent only after its proceed was taken presets no timer; sent before, it does (R48; log 14). -/
theorem test_leadSentAfterProceed :
    ((Seg.fresh.lead 4 6).turnSent 6).timer = some 1000 ∧ (((Seg.fresh.lead 4 6).resume 0 20).turnSent 6).timer = none := by
  decide

def resending : ChannelExchange :=
  { exch with state := .outbound, role := some .block, window := some 0, seg := { followsDue with next := 3 },
              gapTimer := some 0 }
def resend : State :=
  withWindow { window0 with buffer := some 1 } (setBuffer 1 (List.replicate 30 8) (withList [.channel resending] home))

theorem test_witness_GapFollow :
    exchangeLaw inFlight ∧ exchangeLaw resend ∧ replying.work = .ready (List.replicate 40 5) ∧
    followsDue.phase = .followsDue ∧ followsDue.allow ≠ .num 0 ∧ followsDue.next < followsDue.count ∧
    replying.gapTimer = some 0 ∧ hasRoom inFlight .C ∧ sideOf inFlight .W = side0 ∧
    channelExchange resend 0 = some resending ∧ resending.seg.next + 1 = resending.seg.count ∧
    resend.window 0 = some { window0 with buffer := some 1 } ∧ hasRoom resend .C ∧
    (spending (.num 1) 4).next = (spending (.num 1) 4).count ∧ (spending (.num 1) 3).allow ≠ .num 0 ∧
    (spending (.num 63) 2).next < (spending (.num 63) 2).count := by decide

/-- A channel's exchange, a management exchange and a side answer in the record `g`, with their frame of a mark at the head
of port C, another frame behind it. -/
def sentFrom (o : Origin) (owner : Nat) (mark : Mark) (g : Seg) (st : ExchState) : State :=
  withOut .C [released (offered (fromTool [0, 0x22]) o owner mark), waiting0]
    (withWindow { window0 with buffer := some 1 }
      { withList [.channel { resending with state := st, seg := g }, .management { replying with seg := g }] home with
        agent := { home.agent with sideC := .sending 5 g [1] none } })

theorem test_witness_FrameSent : ∀ o owner mark g st, ∀ s : State, s = sentFrom o owner mark g st →
    s.part.awake = true ∧ (s.port .C).status = .active ∧
    (s.port .C).out = [released (offered (fromTool [0, 0x22]) o owner mark), waiting0] ∧
    ownedExchange s 1 = some { resending with state := st, seg := g } ∧ resending.window = some 0 ∧
    s.window 0 = some { window0 with buffer := some 1 } ∧ mgmtOwned s 4 = some { replying with seg := g } ∧
    replying.state = .answering ∧ s.agent.restart ≠ .answered 4 ∧ sideOf s .C = .sending 5 g [1] none ∧
    ownedExchange s 4 = none ∧ mgmtOwned s 1 = none ∧ followsDue.phase ≠ .none ∧ followsDue.turn = 0 ∧
    paceDue.phase ≠ .none ∧ { paceDue with turn := 6 }.turn ≠ 0 ∧
    (∃ q, exec (.headFrameRelease .C) s = .next q) := by
  rintro o owner mark g st s rfl
  and_intros <;> first | rfl | exact ⟨_, rfl⟩ | (intro h; cases h)

/-- A sender at its lead, with `k` follows to come. -/
def atLead (k : Nat) : Seg := { paceDue with count := k, next := 1, timer := none, turn := 4 }

/-- What a proceed offers: under a gap one, without one the allowance or what is left, to the limit of an empty queue. -/
theorem test_witness_turn :
    followsNow (resumed (atLead 63) 192 127) = 1 ∧ followsNow (resumed (atLead 63) 224 0) = 32 ∧
    followsNow (resumed (atLead 32) 192 0) = 32 ∧ followsNow (resumed (atLead 1) 255 0) = 1 ∧ roomFor home .C 32 ∧
    roomFor home .W 32 ∧ (atLead 63).phase = .paceDue ∧ 1 ≤ (atLead 1).next ∧ (atLead 1).next ≤ (atLead 1).count ∧
    (atLead 63).count ≤ 63 ∧ paceFrame (fromEcu [192, 0, 127]) 192 0 127 ∧ paceFrame (fromEcu [255, 2, 0]) 255 2 0 := by
  and_intros
  any_goals decide
  all_goals exact ⟨_, rfl⟩

/-- A block being re-sent, at the record `g`, and a controller's frame. -/
def resentTo (data : List Byte) (g : Seg) : State :=
  withRx .C (fromEcu data) (withGrants [{ grant0 with binding := .bound 0 }]
    (withWindow { window0 with buffer := some 1 } (setBuffer 1 (List.replicate 30 8)
      (withList [.channel { resending with seg := g }] home))))

theorem test_witness_BlockPace : ∀ d g, ∀ s : State, s = resentTo d g → exchangeLaw s ∧
    ControllerSide s 0 (fromEcu d) [] ∧ channelExchange s 0 = some { resending with seg := g } ∧
    s.window 0 = some { window0 with buffer := some 1 } ∧ hasRoom s .W ∧
    linkedExchange s 0 = some { resending with seg := g } ∧ window0.run.isSome = true ∧ window0.range.isSome = true ∧
    1 ≤ window0.reservations ∧ window0.channel = 0 ∧ window0.state = .active ∧ s.store.queue.length < 16 ∧
    grantNumbersDistinct s ∧ { grant0 with binding := .bound 0 } ∈ s.grants.grants ∧ grant0.number = window0.grant ∧
    grant0.state = .active ∧ grant0.classes &&& ~~~bitReprogram ≠ 0 ∧ Seg.fresh.phase ≠ .paceDue := by
  rintro d g s rfl
  exact ⟨oneExchange _ _ rfl rfl rfl, controllerSide _ _ _ rfl rfl rfl rfl, rfl, rfl, emptyHasRoom _ _ rfl rfl, rfl, rfl, rfl,
    by decide, rfl, rfl, Nat.zero_lt_succ _, List.nodup_singleton _, List.mem_singleton_self _, rfl, rfl, by decide, by decide⟩

/-! ### Download -/

theorem test_witness_Block :
    exchangeLaw (asked [0, 0x36, 1, 9, 9, 9, 9, 9] (withWindow window0 home)) ∧
    (∀ d, ToolSide (asked d (withWindow window0 home)) 0 (fromTool d) []) ∧
    hasRoom (asked [0, 0x36, 1, 9] (withWindow window0 home)) .C ∧
    windowOn (withWindow window0 home) 0 = some (0, window0) ∧ linkedExchange (withWindow window0 home) 0 = none ∧
    classOf home 0x36 = some { cls := .reprogram, role := some .block } ∧ (1 : Byte).toNat = 1 ∧
    (∀ b ∈ channelWriteBars home 0, ¬(0x10000 < b.2 ∧ b.1 < 0x10000 + 5)) ∧
    (∃ b ∈ channelWriteBars home 0, 0x100FB < b.2 ∧ b.1 < 0x100FB + 6) ∧
    (∃ b ∈ channelWriteBars home 0, 0x101FF < b.2 ∧ b.1 < 0x101FF + 1) ∧
    (∀ b ∈ channelWriteBars home 0, ¬(0x10200 < b.2 ∧ b.1 < 0x10200 + 5)) :=
  by and_intros <;> first | decide | exact fun _ => toolSide _ _ _ rfl rfl rfl rfl

/-- A window after 5 bytes were done with counter 1. -/
def run1 : WindowRun :=
  { bmax := 6, next := 0x10005, remaining := 0xFFB, expected := 2, erase := false,
    last := some { start := 0x10000, count := 5, counter := 1 } }
def window1 (st : WindowState) (next : Nat) : Window :=
  { window0 with state := st, run := some { run1 with next := next } }

/-- A Block's unit of counter `k`. -/
def blockUnit (k : Byte) (bytes : List Byte) (v : Window) : State :=
  asked (byte 0 :: 0x36 :: k :: bytes) (withWindow v home)

/-- A Block being staged, whose last follow is the one expected. -/
def staged : ChannelExchange :=
  { exch with code := 0x36, role := some .block, window := some 0, state := .staging, timer := .stopped,
              seg := { followsDue with next := 1, count := 1, gap := 0 } }
def blockLast (tail : List Byte) (v : Window) : State :=
  asked (byte 129 :: tail) (withWindow { v with buffer := some 1 } (setBuffer 1 [0x36, 2, 9, 9, 9, 9, 9]
    (withList [.channel staged] home)))

/-- As a unit of up to 5 data bytes, the empty one included, and as the last follow of a lead. -/
theorem test_witness_BlockCompletes (st : WindowState) (h : st = .active ∨ st = .suspended) (next : Nat) :
    (∀ k bytes, BlockCompletes (blockUnit k bytes (window1 st next)) 0 (fromTool (byte 0 :: 0x36 :: k :: bytes)) [] 0
      (window1 st next) { run1 with next := next } 0x36 k bytes) ∧
    BlockCompletes (blockLast [9] (window1 st next)) 0 (fromTool (byte 129 :: [9])) [] 0
      { window1 st next with buffer := some 1 } { run1 with next := next } 0x36 2 [9, 9, 9, 9, 9, 9] := by
  constructor
  · intro k bytes
    constructor
    · exact toolSide _ _ _ rfl rfl rfl rfl
    · exact noExchange _ rfl
    · exact emptyHasRoom _ _ rfl rfl
    · exact emptyHasRoom _ _ rfl rfl
    · rfl
    · exact h
    · rfl
    · exact .inl ⟨rfl, rfl, rfl, by show classOf home 0x36 = _; decide⟩
  · constructor
    · exact toolSide _ _ _ rfl rfl rfl rfl
    · exact oneExchange _ _ rfl rfl rfl
    · exact emptyHasRoom _ _ rfl rfl
    · exact emptyHasRoom _ _ rfl rfl
    · rfl
    · exact h
    · rfl
    · exact .inr ⟨staged, 1, [9], rfl, rfl, rfl, rfl, rfl, rfl, rfl, rfl, by decide, rfl, rfl, by decide, by decide, rfl⟩

/-- The judgements of such a block: a new one and a repeat that pass, clear of the bar and against it; one that is too
long, an empty one, and one of another counter. -/
theorem test_witness_BlockJudged :
    blockPasses run1 2 6 { start := 0x10005, count := 6, counter := 2, again := false } ∧
    blockPasses run1 1 5 { start := 0x10000, count := 5, counter := 1, again := true } ∧
    (∀ z ∈ channelWriteBars home 0, ¬(0x10005 < z.2 ∧ z.1 < 0x10005 + 6)) ∧
    (∃ z ∈ channelWriteBars home 0, 0x100FF < z.2 ∧ z.1 < 0x100FF + 6) ∧
    (window0.range = some (0x10000, 0x1000) ∧ 1 ≤ window0.reservations ∧
      occupied (blockUnit 2 [9] (window1 .active 0x10005)) < 128 ∧
      (blockUnit 2 [9] (window1 .active 0x10005)).store.queue.length + 2 ≤ 16) ∧
    ((2 : Byte).toNat = run1.expected ∧ run1.bmax < (List.replicate 7 (9 : Byte)).length) ∧
    ((3 : Byte).toNat ≠ run1.expected ∧ ∀ d, run1.last = some d → ¬((3 : Byte).toNat = d.counter ∧ 5 = d.count)) ∧
    (∀ d, run1.last = some d → ¬((1 : Byte).toNat = d.counter ∧ 4 = d.count)) := by
  refine ⟨.inl ⟨rfl, by decide, by decide, by decide, rfl⟩, .inr ⟨by decide, by decide, _, rfl, rfl, rfl, rfl⟩, by decide,
    by decide, ⟨rfl, by decide, by decide, by decide⟩, by decide, ⟨by decide, ?_⟩, ?_⟩ <;>
    (intro d h; cases h; decide)

/-- The lead of a Block while the window is ACTIVE and while it is SUSPENDED, with buffer 0 free and taken. -/
theorem test_witness_BlockLead :
    (∀ v, v = window0 ∨ v = { window0 with state := .suspended } →
      exchangeLaw (asked (leadOf 63 0x36) (withWindow v home)) ∧
      ToolSide (asked (leadOf 63 0x36) (withWindow v home)) 0 (fromTool (leadOf 63 0x36)) [] ∧
      channelExchange (asked (leadOf 63 0x36) (withWindow v home)) 0 = none ∧
      windowOn (withWindow v home) 0 = some (0, v) ∧ (v.state = .active ∨ v.state = .suspended)) ∧
    (∃ u y, (setWindow 1 (some { window0 with channel := 1, buffer := some 0 }) (withWindow window0 home)).window u =
      some y ∧ y.buffer = some 0) := by
  refine ⟨?_, 1, _, rfl, rfl⟩
  rintro v (rfl | rfl) <;>
    exact ⟨by decide, toolSide _ _ _ rfl rfl rfl rfl, by decide, by decide, by decide⟩

def stagedMid (st : ExchState) (data : List Byte) : State :=
  asked data (withWindow { window0 with buffer := some 1 }
    (withList [.channel { staged with state := st, seg := { staged.seg with count := 63, next := 62 } }] home))

/-- The last follow but one of the longest Block, and a frame of the tool's in STAGED_HOLD. -/
theorem test_witness_BlockFollow :
    exchangeLaw (stagedMid .staging [190, 1, 2, 3, 4, 5, 6, 7]) ∧
    (∀ st d, ToolSide (stagedMid st d) 0 (fromTool d) [] ∧ hasRoom (stagedMid st d) .W) ∧
    (fromTool [190, 1, 2, 3, 4, 5, 6, 7]).data = byte (128 + 62) :: [1, 2, 3, 4, 5, 6, 7] ∧
    staged.seg.phase = .followsDue ∧ staged.seg.allow = .rest ∧ (62 : Nat) < 63 ∧
    (stagedMid .staging []).window 0 = some { window0 with buffer := some 1 } ∧ 128 ≤ (128 : Byte).toNat ∧
    exchangeLaw (stagedMid .stagedHold [128]) := by
  refine ⟨by decide, fun st d => ⟨toolSide _ _ _ rfl rfl rfl rfl, emptyHasRoom _ _ rfl rfl⟩, by decide, rfl,
    rfl, by decide, by decide, by decide, by decide⟩

/-- A controller's frame while its Block is staged or held. -/
theorem test_witness_StagedLate : ∀ st d,
    channelExchange (answered d { staged with state := st }) 0 = some { staged with state := st } ∧
    ControllerSide (answered d { staged with state := st }) 0 (fromEcu d) [] :=
  fun _ _ => ⟨rfl, controllerSide _ _ _ rfl rfl rfl rfl⟩

/-- A SUSPENDED window that watches IGN and signal 0, IGN being off, with a held block or a lead that waits. -/
def dark (x : ChannelExchange) (start : Nat) : State :=
  { withWindow { window0 with state := .suspended, buffer := some 1, grace := some 1, hold := some 1,
                              inHand := some { start := start, count := 6, counter := 1, again := false } }
      (withList [.channel x] home) with
    lines := { home.lines with ignon := false }
    tables := { tables0 with policies := put tables0.policies 4 { grantNeeded := true, required := 17 } } }

theorem test_witness_Resume :
    (∀ x a, x = { staged with state := .stagedHold } ∨ x = { staged with seg := paceDue } → exchangeLaw (dark x a) ∧
      linkedExchange (dark x a) 0 = some x ∧ x.channel = window0.channel ∧ (dark x a).lines.ignon = false ∧
      (∀ u, u ≠ 0 → (dark x a).window u = none) ∧
      ((dark x a).tables.policies.get 4).required &&& ~~~(conditions (dark x a) ||| 16) = 0 ∧
      ((dark x a).tables.policies.get 4).required &&& ~~~(conditions (dark x a)) ≠ 0 ∧ hasRoom (dark x a) .W ∧
      hasRoom (dark x a) .C) ∧
    (∀ z ∈ channelWriteBars (dark staged 0) 0, ¬(0x10200 < z.2 ∧ z.1 < 0x10200 + 6)) ∧
    (∃ z ∈ channelWriteBars (dark staged 0) 0, 0x101FF < z.2 ∧ z.1 < 0x101FF + 6) ∧ window0.run ≠ none := by
  refine ⟨?_, by decide, by decide, by decide⟩
  rintro x a (rfl | rfl) <;>
    exact ⟨oneExchange _ _ rfl rfl rfl, rfl, rfl, rfl, fun | 0, h => absurd rfl h | 1, _ => rfl,
      by show (17 : BitVec 5) &&& ~~~(conditions (dark staged 0) ||| 16) = 0; decide,
      by show (17 : BitVec 5) &&& ~~~(conditions (dark staged 0)) ≠ 0; decide, emptyHasRoom _ _ rfl rfl,
      emptyHasRoom _ _ rfl rfl⟩

/-- A Close with one byte remaining, and with none. -/
theorem test_witness_Close : ∀ n s,
    s = asked [0, 0x37] (withWindow { window0 with run := some { run1 with remaining := n } } home) →
    exchangeLaw s ∧ ToolSide s 0 (fromTool [0, 0x37]) [] ∧ hasRoom s .W ∧ hasRoom s .C ∧ channelExchange s 0 = none ∧
    windowOn s 0 = some (0, { window0 with run := some { run1 with remaining := n } }) ∧
    classOf s 0x37 = some { cls := .reprogram, role := some .closing } ∧ window0.state = .active ∧
    ({ run1 with remaining := n } : WindowRun).remaining = n := by
  rintro n s rfl
  exact ⟨noExchange _ rfl, toolSide _ _ _ rfl rfl rfl rfl, emptyHasRoom _ _ rfl rfl,
    emptyHasRoom _ _ rfl rfl, rfl, rfl, by show classOf home 0x37 = _; decide, rfl, rfl⟩

/-- The last follow of a request of role `r` whose first bytes are `head`. -/
def lastOf (r : Role) (code : Byte) (head tail : List Byte) (v : Window) (g : Grant) : State :=
  asked (byte 129 :: tail) (withWindow v (withGrants [g] (withList [.channel { staged with
    code := code, role := some r, state := .inbound, gathered := head }] home)))

def pendingOpen : Window := { window0 with state := .openPending, range := none, run := none, reservations := 2 }
def pendingGrant : Grant := { grant0 with binding := .pending 0 }

theorem test_witness_LastFollow (r : Role) (code : Byte) (head tail : List Byte) (v : Window) (g : Grant)
    (hv : v.channel = 0) :
    exchangeLaw (lastOf r code head tail v g) ∧ ToolSide (lastOf r code head tail v g) 0 (fromTool (byte 129 :: tail)) [] ∧
    hasRoom (lastOf r code head tail v g) .W ∧ hasRoom (lastOf r code head tail v g) .C ∧
    (∃ x, channelExchange (lastOf r code head tail v g) 0 = some x ∧ linkedExchange (lastOf r code head tail v g) 0 = some x ∧
      x.state = .inbound ∧ x.window = some 0 ∧ x.seg.phase = .followsDue ∧ x.seg.next = 1 ∧ x.seg.count = 1 ∧
      x.role = some r ∧ x.gathered = head) ∧
    (lastOf r code head tail v g).window 0 = some v ∧ v.channel = 0 ∧ grantNumbersDistinct (lastOf r code head tail v g) ∧
    g ∈ (lastOf r code head tail v g).grants.grants ∧ (lastOf r code head tail v g).store.queue.length < 16 :=
  ⟨oneExchange _ _ rfl rfl rfl, toolSide _ _ _ rfl rfl rfl rfl, emptyHasRoom _ _ rfl rfl,
    emptyHasRoom _ _ rfl rfl, ⟨_, rfl, rfl, rfl, rfl, rfl, rfl, rfl, rfl, rfl⟩, rfl, hv,
    by show [g.number].Nodup; simp, List.mem_cons_self, by show (0 : Nat) < 16; decide⟩

/-- What the last follow of an Open or of an Erase can bring, at the edges of the window and of the bars: the messages as
their 7 bytes of the lead and the bytes of the last follow. -/
theorem test_witness_OpenAndErase :
    ([0x31, 5] ++ beBytes 4 0x10200 ++ [0] : List Byte).length = 7 ∧
    ([0x31, 5] ++ beBytes 4 0x10200 ++ [0]) ++ [0, 0xFE, 0] = 0x31 :: 5 :: (beBytes 4 0x10200 ++ beBytes 4 0xFE00) ∧
    ([0x31, 5] ++ beBytes 4 0x10200 ++ [0]) ++ [0, 0xFE, 1] = 0x31 :: 5 :: (beBytes 4 0x10200 ++ beBytes 4 0xFE01) ∧
    ([0x31, 5] ++ beBytes 4 0x10000 ++ [0]) ++ [0, 1, 1] = 0x31 :: 5 :: (beBytes 4 0x10000 ++ beBytes 4 0x101) ∧
    (let m := tables0.maps.get 0
     m.present = true ∧ m.base ≤ 0x10200 ∧ 0x10200 + 0xFE00 ≤ m.base + 2 ^ m.exponent ∧
      ¬0x10200 + 0xFE01 ≤ m.base + 2 ^ m.exponent) ∧
    (∃ z ∈ channelWriteBars home 0, 0x10000 < z.2 ∧ z.1 < 0x10000 + 0x101) ∧
    (∀ z ∈ channelWriteBars home 0, ¬(0x10200 < z.2 ∧ z.1 < 0x10200 + 0xFE00)) ∧
    pendingGrant.number = pendingOpen.grant ∧ pendingGrant.binding = .pending 0 ∧ pendingGrant.state = .active ∧
    (0x38 :: beBytes 4 0x10FFF ++ [0, 0] : List Byte) ++ [0, 1] = 0x38 :: (beBytes 4 0x10FFF ++ beBytes 4 1) ∧
    (0x38 :: beBytes 4 0x10FFF ++ [0, 0] : List Byte) ++ [0, 2] = 0x38 :: (beBytes 4 0x10FFF ++ beBytes 4 2) ∧
    0x10FFF + 1 ≤ 0x10000 + 0x1000 ∧ ¬0x10FFF + 2 ≤ 0x10000 + 0x1000 ∧
    (∃ r, window0.run = some r ∧ r.erase = true) ∧ run1.erase = false := by decide

/-- The region of `map0` is not barred for erasing; here it is. -/
theorem test_witness_EraseBarred : ∃ z ∈ eraseBars { map0 with
      regions := #v[{ live := true, start := 0x10100, length := 256, writeBar := false, eraseBar := true }, .fallback,
        .fallback] },
    0x101FF < z.2 ∧ z.1 < 0x101FF + 1 := by decide

def block0 : HandBlock := { start := 0x10000, count := 5, counter := 255, again := false }
def awaitingBlock : ChannelExchange := { exch with code := 0x36, role := some .block, window := some 0 }
def blockReply (b : HandBlock) : State :=
  withWindow { window0 with inHand := some b } (answered [0, 0xB6] awaitingBlock)

theorem test_witness_BlockReply :
    exchangeLaw (blockReply block0) ∧ ControllerSide (blockReply block0) 0 (fromEcu [0, 0xB6]) [] ∧
    hasRoom (blockReply block0) .W ∧ channelExchange (blockReply block0) 0 = some awaitingBlock ∧
    (blockReply block0).window 0 = some { window0 with inHand := some block0 } ∧ block0.count ≤ 0x1000 ∧
    (fromEcu [0, 0xB6]).data = byte 0 :: ((0x36 : Byte) + 0x80) :: [] ∧ block0.again = false ∧
    ({ block0 with again := true } : HandBlock).again = true :=
  ⟨by decide, controllerSide _ _ _ rfl rfl rfl rfl, by decide, by decide, by decide, by decide, by decide, rfl, rfl⟩

/-- The answer to an Open and to a Close of window 0. -/
def stepReply (data : List Byte) (r : Role) (code : Byte) (v : Window) (g : Grant) : State :=
  withWindow v (withGrants [g] (answered data { awaitingBlock with code := code, role := some r }))

def judgedOpen : Window := { pendingOpen with range := some (0x10000, 0x1000) }
def closingWindow : Window := { window0 with state := .closing }

theorem test_witness_OpenAndCloseReply :
    (∀ d r code v g, ControllerSide (stepReply d r code v g) 0 (fromEcu d) [] ∧
      (stepReply d r code v g).window 0 = some v ∧ (stepReply d r code v g).store.queue.length < 16) ∧
    (let x : ChannelExchange := { awaitingBlock with code := 0x31, role := some .opening }
     exchangeLaw (stepReply [0, 0xB1, 1, 0xBE] .opening 0x31 judgedOpen pendingGrant) ∧
      channelExchange (stepReply [0, 0xB1, 1, 0xBE] .opening 0x31 judgedOpen pendingGrant) 0 = some x ∧
      linkedExchange (stepReply [0, 0xB1, 1, 0xBE] .opening 0x31 judgedOpen pendingGrant) 0 = some x ∧
      x.state = .awaiting ∧ x.code.toNat ≤ 0x7E) ∧
    (fromEcu [0, 0xB1, 1, 0xBF]).data = byte 0 :: (0x31 + 0x80) :: 1 :: 0xBF :: [] ∧
    max 1 (min 446 ((1 : Byte).toNat * 256 + (0xBF : Byte).toNat)) = 446 ∧
    (fromEcu [0, 0xB1, 9]).data = byte 0 :: [(0x31 : Byte) + 0x80, 9] ∧
    ([0xFF, 0x31, 0x2E] : List Byte).head? ≠ some ((0x31 : Byte) + 0x80) ∧
    (¬∃ more, ([0xFF, 0x31, 0x2E] : List Byte) = byte 0xFF :: 0x31 :: byte 0x2F :: more) ∧
    judgedOpen.state = .openPending ∧ judgedOpen.run = none ∧ judgedOpen.range = some (0x10000, 0x1000) ∧
    pendingGrant.number = judgedOpen.grant ∧
    grantNumbersDistinct (stepReply [0, 0xB1, 1, 0xBE] .opening 0x31 judgedOpen pendingGrant) ∧
    (home.tables.policies.get 4).required &&& ~~~(conditions home) = 0 ∧
    (home.tables.policies.get 4).required &&& ~~~(conditions (stale home)) ≠ 0 ∧
    ([0xB7] : List Byte).head? = some ((0x37 : Byte) + 0x80) ∧ closingWindow.state = .closing ∧
    closingWindow.run.isSome = true ∧ grant0.classes &&& ~~~bitReprogram ≠ 0 ∧
    linkedExchange (stepReply [0, 0xB7] .closing 0x37 closingWindow { grant0 with binding := .bound 0 }) 0 =
      some { awaitingBlock with code := 0x37, role := some .closing } := by
  and_intros
  any_goals decide
  · exact fun _ _ _ _ _ => ⟨controllerSide _ _ _ rfl rfl rfl rfl, rfl, by show (0 : Nat) < 16; decide⟩
  · rintro ⟨_, h⟩; simp [byte] at h

def boundPart : State :=
  withWindow { window0 with grace := some 0 } (withGrants [{ grant0 with binding := .bound 0 }] home)

theorem test_witness_GraceAndIdle :
    boundPart.part.awake = true ∧ boundPart.window 0 = some { window0 with grace := some 0 } ∧
    (withWindow window0 home).window 0 = some window0 ∧ window0.grace = none ∧
    ({ window0 with idle := none } : Window).idle = none ∧ 1 ≤ window0.reservations ∧
    boundPart.store.queue.length < 16 ∧ linkedExchange boundPart 0 = none ∧ grantNumbersDistinct boundPart ∧
    { grant0 with binding := .bound 0 } ∈ boundPart.grants.grants ∧ grant0.number = window0.grant ∧
    grant0.classes &&& ~~~bitReprogram ≠ 0 ∧ ({ window0 with grace := some 0 } : Window).grace.isSome = true ∧
    window0.idle.isSome = true := by decide

def heldPart (st : ExchState) (g : Seg) : State :=
  withWindow { window0 with state := .suspended, hold := some 0, buffer := some 0 }
    (withList [.channel { awaitingBlock with state := st, seg := g }] home)

theorem test_witness_HoldAndStaleness :
    linkedExchange (heldPart .stagedHold .fresh) 0 = some { awaitingBlock with state := .stagedHold } ∧
    linkedExchange (heldPart .staging paceDue) 0 = some { awaitingBlock with state := .staging, seg := paceDue } ∧
    hasRoom (heldPart .staging paceDue) .W ∧ (home.signals.get 0).timer = some 200 ∧ (∀ w, home.window w = none) ∧
    ((withWindow window0 home).window 0 = some window0 ∧ window0.state = .active ∧
      condition (withWindow window0 home) 0 = true ∧
      (home.tables.policies.get 4).required.getLsbD 0 = true) ∧ (home.signals.get 3).timer = none := by decide

/-! ### Management -/

def answeringNow (m : Mgmt) : State := withList [.management { req m [6] with state := .answering }] home
def ready (reply : List Byte) : State := withList [.management { req .W [6] with work := .ready reply }] home
def withSide (x : Side) (s : State) : State := setSide .W x s

/-- A frame of management channel W, with the list of pending exchanges. -/
def mgmtFrame (data : List Byte) : Frame := { id := (mgmtPair home .W).request, data := data }
def mgmtAsked (data : List Byte) (l : List Exchange) : State := withRx .W (mgmtFrame data) (withList l home)

/-- A request of 30 bytes being gathered, whose follow `n` of 4 is expected. -/
def gathers (n : Nat) : MgmtExchange :=
  { req .W (List.replicate (7 * n) 0x18) with
    state := .receiving, seg := { followsDue with next := n, gap := 0 } }

theorem test_witness_MgmtFrames :
    (∀ d l, MgmtSide (mgmtAsked d l) .W (mgmtFrame d) [] ∧ hasRoom (mgmtAsked d l) .W ∧ sideOf (mgmtAsked d l) .W = .absent) ∧
    (∀ d, mgmtExchange (mgmtAsked d []) .W = none ∧ exchangeLaw (mgmtAsked d [])) ∧
    (∀ d n, mgmtExchange (mgmtAsked d [.management (gathers n)]) .W = some (gathers n) ∧
      exchangeLaw (mgmtAsked d [.management (gathers n)])) ∧
    (mgmtFrame [0, 1]).data = byte 0 :: [1] ∧ (mgmtFrame [127, 0x18, 1, 2, 3, 4, 5, 6]).data = byte (64 + 63) ::
      [0x18, 1, 2, 3, 4, 5, 6] ∧ 128 ≤ (128 : Byte).toNat ∧
    ([2] : List Byte).head? = some (byte 2) ∧ (0x10 : Byte) ≠ byte 2 ∧
    sideOf (withSide side0 (mgmtAsked [0, 2] [.management (gathers 2)])) .W ≠ .absent ∧
    ((gathers 2).state = .receiving ∧ (gathers 2).work = .unserved ∧ (gathers 2).buffer.head? = some (gathers 2).code ∧
      (mgmtFrame [130, 1, 2, 3, 4, 5, 6, 7]).data = byte (128 + 2) :: [1, 2, 3, 4, 5, 6, 7] ∧ (gathers 2).seg.next = 2 ∧
      (2 : Nat) ≠ (gathers 2).seg.count ∧ (gathers 2).seg.allow = .rest) ∧
    ((gathers 4).buffer.head? = some (gathers 4).code ∧ (mgmtFrame [132, 9]).data = byte (128 + 4) :: [9] ∧
      (gathers 4).seg.next = 4 ∧ 4 = (gathers 4).seg.count) ∧ (gathers 4).seg.next ≠ 3 ∧ (mgmtFrame []).data = [] ∧
    (∃ id seg msg gap, sideOf (withSide side0 (mgmtAsked [] [.management (req .W [1])])) .W = .sending id seg msg gap) := by
  and_intros
  any_goals decide
  · exact fun d l => ⟨⟨rfl, rfl, rfl, fun h => (by cases h)⟩, emptyHasRoom _ _ rfl rfl, rfl⟩
  · exact fun _ => ⟨rfl, noExchange _ rfl⟩
  · exact fun _ _ => ⟨rfl, oneMgmt _ _ rfl rfl rfl⟩
  · exact ⟨_, _, _, _, rfl⟩

/-- Requests that fit: every one of the shortest, the longest write of a table, and the proof; those that do not; and a
code that none has. -/
theorem test_witness_RequestJudged :
    (∀ k, requestFits (byte 0x18 :: byte (tableNumber k) :: List.replicate (2 + imageLength k) 0)) ∧
    requestFits (byte 0x11 :: List.replicate 8 0) ∧ requestMisfits (byte 0x11 :: List.replicate 7 0) ∧
    requestMisfits [byte 0x18] ∧ requestMisfits [byte 0x18, byte 6, 0] ∧ requestUnknown [byte 9] ∧
    home.agent.restart = .idle := by
  refine ⟨fun k => .inr ⟨k, _, rfl, by simp; omega⟩, .inl ⟨0x11, 9, _, by decide, rfl, by decide⟩,
    .inl ⟨0x11, 9, _, by decide, rfl, by decide⟩, .inr (.inr rfl), .inr (.inl ⟨.regionMap, _, rfl, by decide⟩),
    ⟨_, _, rfl, by decide, by decide⟩, rfl⟩

theorem test_witness_ReadyReply :
    exchangeLaw (ready [1]) ∧ mgmtExchange (ready [1]) .W = some { req .W [6] with work := .ready [1] } ∧
    sideOf (withSide side0 (ready [1])) .W = side0 ∧
    (∀ id seg msg gap, sideOf (ready [1]) .W ≠ .sending id seg msg gap) ∧ hasRoom (ready [1]) .W ∧
    (List.replicate 7 (1 : Byte)).length ≤ 7 ∧ 7 < (List.replicate 8 (1 : Byte)).length := by
  refine ⟨by decide, by decide, rfl, ?_, by decide, by decide, by decide⟩
  intro _ _ _ _ h; cases h

/-- A reply and a side answer being sent, at the record `g`, and a tool's frame. -/
def sentReply (g : Seg) : MgmtExchange :=
  { req .W [6] with state := .answering, work := .ready (List.replicate 40 5), seg := g }

theorem test_witness_ReplyPace : ∀ d g, ∀ s : State, s = mgmtAsked d [.management (sentReply g)] → exchangeLaw s ∧
    MgmtSide s .W (mgmtFrame d) [] ∧ mgmtExchange s .W = some (sentReply g) ∧
    (∀ id seg msg left, sideOf s .W ≠ .sending id seg msg left) ∧ roomFor s .W 32 ∧
    sideOf (withSide (.sending 5 g [1] none) s) .W = .sending 5 g [1] none ∧
    MgmtSide (withSide (.sending 5 g [1] none) s) .W (mgmtFrame d) [] ∧
    paceFrame (mgmtFrame [192, 0, 127]) 192 0 127 ∧ paceFrame (mgmtFrame [255, 2, 0]) 255 2 0 := by
  rintro d g s rfl
  refine ⟨oneMgmt _ _ rfl rfl rfl, ⟨rfl, rfl, rfl, fun h => by cases h⟩, rfl, (fun _ _ _ _ h => by cases h), ⟨rfl, ?_⟩, rfl,
    ⟨rfl, rfl, rfl, fun h => by cases h⟩, ⟨⟨[], rfl⟩, ?_⟩, ⟨[], rfl⟩, ?_⟩
  · exact Nat.le_of_eq rfl
  all_goals decide

theorem test_witness_SideAnswer :
    sideOf (withSide (.waiting [byte 2]) (answeringNow .W)) .W = .waiting [byte 2] ∧
    mgmtExchange (withSide (.waiting [byte 2]) (answeringNow .W)) .W = some { req .W [6] with state := .answering } ∧
    hasRoom (withSide (.waiting [byte 3]) home) .W ∧ mgmtExchange (withSide (.waiting [byte 3]) home) .W = none ∧
    sideOf (withSide (.waiting [byte 3]) home) .W = .waiting [byte 3] := by decide

theorem test_witness_Reads :
    RequestWaits (ask .W [byte 1] home) .W 0x01 (req .W [byte 1]) ∧
    RequestWaits (ask .C [byte 2] home) .C 0x02 (req .C [byte 2]) ∧
    RequestWaits (ask .W [byte 3] home) .W 0x03 (req .W [byte 3]) :=
  ⟨waits _ _ _ _ rfl, waits _ _ _ _ rfl, waits _ _ _ _ rfl⟩

theorem test_witness_Lists :
    RequestWaits (ask .W [byte 4, byte 2] home) .W 0x04 (req .W [byte 4, byte 2]) ∧
    RequestWaits (ask .W [byte 4, byte 3] home) .W 0x04 (req .W [byte 4, byte 3]) ∧
    RequestWaits (ask .C [byte 5] home) .C 0x05 (req .C [byte 5]) ∧
    RequestWaits (ask .C [byte 6] home) .C 0x06 (req .C [byte 6]) ∧
    (∀ k n c, RequestWaits (ask .W [byte 7, byte (tableNumber k), byte n, byte c] home) .W 0x07
      (req .W [byte 7, byte (tableNumber k), byte n, byte c])) ∧
    entryIndex .serviceClassMap 0 = none ∧ entryIndex .serviceClassMap 126 = some 125 ∧
    home.signals.get 1 = { raw := none, available := true, fresh := false, timer := none } ∧
    (∃ y : ChannelExchange, y.seg.allow = .rest ∧ y.timer = .running 150) ∧
    entryIndex .mirrorList 31 = some 31 ∧ entryIndex .mirrorList 32 = none ∧ entryIndex .regionMap 15 = some 15 :=
  ⟨waits _ _ _ _ rfl, waits _ _ _ _ rfl, waits _ _ _ _ rfl, waits _ _ _ _ rfl, fun _ _ _ => waits _ _ _ _ rfl,
    by decide, by decide, by decide, ⟨{ exch with seg := followsDue }, rfl, rfl⟩, by decide, by decide, by decide⟩

theorem test_witness_RecordRead :
    RequestWaits (ask .C [byte 8, byte 255] home) .C 0x08 (req .C [byte 8, byte 255]) ∧
    min 14 (min 255 (List.replicate 15 entry0).length) = 14 ∧ min 14 (min 0 (List.replicate 15 entry0).length) = 0 :=
  ⟨waits _ _ _ _ rfl, by decide, by decide⟩

/-! ### Management: grants -/

def liveSlot (s : State) : State :=
  { s with grants := { s.grants with slots := put s.grants.slots 1 { state := .live, key := 7 } } }
def withChallenge (s : State) : State :=
  { s with grants := { s.grants with challenge := some {
      slot := 1, channels := 1, classes := 1, duration := 60, value := 9, validity := 30000 } } }
def lockedOut (s : State) : State :=
  { s with grants := { s.grants with lockout := some 600000, failures := 3 } }

/-- The bytes of an Access Request for slot 1, every channel, MANAGE, and 65535 s. -/
def accessBytes : List Byte := [byte 0x10, byte 1] ++ beBytes 2 65535 ++ [byte 63] ++ beBytes 2 65535

theorem test_witness_AccessRequest :
    (∀ s, s.part.awake = true → RequestWaits (ask .W accessBytes s) .W 0x10 (req .W accessBytes)) ∧
    (noTool home).lines.tooldet = false ∧ (lockedOut home).grants.lockout ≠ none ∧
    (withChallenge home).grants.challenge ≠ none ∧ home.lines.tooldet = true ∧ home.grants.lockout = none ∧
    home.grants.challenge = none ∧ (∀ g ∈ granted.grants.grants, g.state ≠ .checking ∧ g.state ≠ .recording) ∧
    ((liveSlot home).grants.slots.get 1).state = .live ∧ granted.grants.grants.length < 8 ∧
    occupied (full126 home) + 2 ≤ 128 := by
  and_intros <;> first | decide +kernel | exact fun s h => waits .W 0x10 _ s h

theorem test_witness_AccessProof :
    (∀ s, s.part.awake = true → RequestWaits (ask .W (byte 0x11 :: [1, 2, 3, 4, 5, 6, 7, 8]) s) .W 0x11
      (req .W (byte 0x11 :: [1, 2, 3, 4, 5, 6, 7, 8]))) ∧
    home.grants.challenge = none ∧ (withChallenge granted).grants.challenge ≠ none ∧
    126 < occupied (full126 (withChallenge granted)) ∧ occupied (full126 (withChallenge home)) + 2 ≤ 128 := by
  and_intros <;> first | decide +kernel | exact fun s h => waits .W 0x11 _ s h

/-- Each check of R91 at its edge: a slot that does not exist, one that is not LIVE, an empty set and a class that does
not exist, the 8th grant held, and free room of 1. -/
theorem test_witness_AccessChecks :
    (∃ g ∈ threeGrants.grants.grants, inProof g) ∧ (∀ g ∈ granted.grants.grants, ¬inProof g) ∧ (8 : Nat) ≤ 8 ∧
    (home.grants.slots.get 7).state ≠ .live ∧ ((liveSlot home).grants.slots.get 1).state = .live ∧ (64 : Nat) ≤ 64 ∧
    8 ≤ (liveSlot (withGrants (List.replicate 8 grant0) home)).grants.grants.length ∧
    (∀ g ∈ (withGrants (List.replicate 8 grant0) home).grants.grants, ¬inProof g) ∧
    126 < occupied (full126 (liveSlot granted)) ∧
    (∀ b s, s.part.awake = true → RequestWaits (ask .C (byte 0x10 :: b) s) .C 0x10 (req .C (byte 0x10 :: b))) := by
  and_intros <;> first | decide +kernel | exact fun b s h => waits .C 0x10 _ s h

/-- A digest over the message 1, 2, 3 under the key of slot 1. -/
def digest0 (tag : List Byte) : DigestRun :=
  { grant := 2, discarded := false, message := [1, 2, 3], slot := 1, tag := tag }
def rightTag : List Byte := (hmacSha256 (beBytes 16 (7 : BitVec 128).toNat) [1, 2, 3]).take 8
def digesting (d : DigestRun) (n : Nat) : State :=
  let s := liveSlot (withGrants [grant0, grant2] home)
  { s with grants := { s.grants with digest := some d, failures := n } }

theorem test_witness_Digest :
    (∀ d n, (digesting d n).part.awake = true ∧ (digesting d n).grants.digest = some d ∧
      grantNumbersDistinct (digesting d n)) ∧ occupied (digesting (digest0 []) 0) + 2 ≤ 128 ∧
    (digesting (digest0 []) 0).store.queue.length + 3 ≤ 16 ∧
    ((digesting (digest0 []) 0).grants.slots.get 1).key = 7 ∧ (digest0 rightTag).tag = rightTag ∧
    grant2 ∈ (digesting (digest0 rightTag) 0).grants.grants ∧ grant2.number = (digest0 rightTag).grant ∧
    (digesting (digest0 []) 1).grants.failures ≤ 1 ∧ (digesting (digest0 []) 2).grants.failures = 2 ∧
    ({ digest0 [] with discarded := true } : DigestRun).discarded = true := by
  refine ⟨fun d n => ⟨rfl, rfl, by show ([0, 2] : List Nat).Nodup; decide⟩, ?_, ?_, ?_,
    by simp only [digest0], ?_, rfl, ?_, rfl, rfl⟩ <;> decide +kernel

/-- A match with a count that is not 0, with free room of 1, and with a full queue. -/
theorem test_witness_DigestEnds :
    (∀ s, s = digesting (digest0 rightTag) 2 ∨ s = full126 (digesting (digest0 rightTag) 2) ∨
      s = withQueue (List.replicate 16 (.failureCount 1)) (digesting (digest0 rightTag) 2) → s.part.awake = true ∧
      s.grants.digest = some (digest0 rightTag) ∧ grantNumbersDistinct s ∧ grant2 ∈ s.grants.grants ∧
      s.grants.failures ≠ 0 ∧ (s.grants.slots.get 1).key = 7) ∧
    grant2.reservation = false ∧ grant2.number = (digest0 rightTag).grant ∧ (digest0 rightTag).discarded = false ∧
    126 < occupied (full126 (digesting (digest0 rightTag) 2)) ∧
    (full126 (digesting (digest0 rightTag) 2)).store.queue.length < 16 ∧
    occupied (withQueue (List.replicate 16 (.failureCount 1)) (digesting (digest0 rightTag) 2)) + 2 ≤ 128 := by
  refine ⟨?_, rfl, rfl, rfl, by decide +kernel, by decide +kernel, by decide +kernel⟩
  rintro s (rfl | rfl | rfl) <;>
    exact ⟨rfl, rfl, by show ([0, 2] : List Nat).Nodup; decide, .tail _ (.head _), by decide, by decide +kernel⟩

theorem test_wrongTag : (digest0 []).tag ≠ rightTag := by decide +kernel

theorem test_witness_ExtendAndRevoke :
    grantNumbersDistinct threeGrants ∧ grant0 ∈ threeGrants.grants.grants ∧ grant0.number < 8 ∧ grant0.state = .active ∧
    grant0.extensions < 3 ∧ grant0.reservation = true ∧ grant0.binding = .none ∧ threeGrants.store.queue.length < 16 ∧
    threeGrants.lines.tooldet = true ∧ threeGrants.grants.lockout = none ∧
    RequestWaits (ask .W ([byte 0x12, byte 0] ++ beBytes 2 65535) threeGrants) .W 0x12
      (req .W ([byte 0x12, byte 0] ++ beBytes 2 65535)) ∧
    (∀ n : Nat, RequestWaits (ask .C [byte 0x13, byte n] threeGrants) .C 0x13 (req .C [byte 0x13, byte n])) ∧
    (∀ y ∈ threeGrants.grants.grants, y.number ≠ 254) :=
  ⟨by decide, by decide, by decide, rfl, by decide, rfl, rfl, by decide, rfl, rfl, waits _ _ _ _ rfl,
    fun _ => waits _ _ _ _ rfl, by decide⟩

def lastSecond (b : Binding) : Grant := { grant0 with remaining := 1, binding := b }
def fullQueue : State := withQueue (List.replicate 16 (.failureCount 1)) (lockedOut home)

theorem test_witness_GrantTimers :
    home.part.awake = true ∧ (lockedOut home).grants.lockout = some 600000 ∧ (lockedOut home).grants.failures = 3 ∧
    (lockedOut home).store.queue.length < 16 ∧ 16 ≤ fullQueue.store.queue.length ∧
    ({ home with grants := { home.grants with lamp := .toggling true 0 } } : State).grants.lamp = .toggling true 0 ∧
    grantNumbersDistinct threeGrants ∧ grant0 ∈ threeGrants.grants.grants ∧ grant0.number = (0 : Fin 8).val ∧
    grant0.seconds = some 1000 ∧ 1 < grant0.remaining ∧ (lastSecond (.bound 0)).remaining ≤ 1 ∧
    (lastSecond .none).binding = .none ∧ (lastSecond .none).reservation = true ∧
    lastSecond .none ∈ (withGrants [lastSecond .none, grant1] home).grants.grants := by decide

/-! ### Management: the store -/

theorem test_witness_StoreRequests :
    granted.store.queue.length < 8 ∧ manageGrant granted = some grant0 ∧ granted.lines.stlock = false ∧
    granted.tables.ports.lock ≠ .frozen ∧ (granted.grants.slots.get 7).state = .empty ∧
    (∀ i, (home.grants.slots.get i).state ≠ .live) ∧ manageGrant home = none ∧
    ((liveSlot granted).grants.slots.get 1).state = .live ∧
    entryValid (.policy 4 { grantNeeded := true, required := 3 }) ∧
    (granted.tables.ports.lock = .line ∧ granted.lines.stlock = false) ∧
    clashes (storedTables granted) (.policy 4 { grantNeeded := true, required := 3 }) = false ∧
    LockPolicy.frozen ≠ granted.tables.ports.lock ∧ min 65535 (full126 home).record.kept.length ≠ 0 ∧
    (∀ b rest, RequestWaits (ask .W (byte b :: rest) granted) .W b (req .W (byte b :: rest))) ∧
    (List.replicate 16 (1 : Byte)).length = 16 := by
  and_intros <;> first | decide +kernel | (unfold entryValid; decide) | exact fun _ _ => waits _ _ _ _ rfl

/-- A port that is sending its head keeps its rate, an idle WITHDRAWN one takes the new one. -/
theorem test_witness_PortSettingsWritten : ∀ p, p = { tables0.ports with rateC := .kbit500, rateE := .kbit125 } →
    settingsRate p .C ≠ settingsRate sending.tables.ports .C ∧ (sending.port .C).status = .active ∧
    (sending.port .C).out = request0 :: [] ∧ request0.released = true ∧
    ((withdrawn .E sending).port .E).status = .withdrawn ∧ settingsRate p .E ≠ settingsRate sending.tables.ports .E ∧
    p.lock = sending.tables.ports.lock ∧ entryValid (.portSettings p) := by
  rintro p rfl
  and_intros <;> decide +kernel

/-- The last mirror position is written; a reload of the Class Policy finds its image failing. -/
theorem test_witness_WorkingTables :
    manageGrant granted ≠ none ∧ entryValid (.mirror 31 (watch 5 5 true 1000)) ∧
    clashes granted.tables (.mirror 31 (watch 5 5 true 1000)) = false ∧
    entryInUse granted (.mirror 31 (watch 5 5 true 1000)) = false ∧
    loosens granted (.mirror 31 (watch 5 5 true 1000)) = false ∧ (∀ w, granted.window w = none) ∧
    (entryInUse granted (.map 0 map0) = false ∧ loosens granted (.map 0 map0) = false) ∧
    (∀ c, channelExchange granted c = none) ∧ reloadInUse granted .mirrorList = false ∧
    reloadClash granted .portSettings = false ∧
    (storedImage granted .mirrorList).check = checkWord (storedImage granted .mirrorList).entries ∧
    (storedImage damaged .classPolicy).check ≠ checkWord (storedImage damaged .classPolicy).entries ∧
    RequestWaits (ask .W [byte 0x19, byte 5] granted) .W 0x19 (req .W [byte 0x19, byte 5]) :=
  by and_intros <;> first | decide +kernel | (unfold entryValid; decide) | exact waits _ _ _ _ rfl

def restarting : State :=
  { withList [.management { req .W [0x1F] with work := .awaitRestart }] home with
    agent := { home.agent with restart := .taken 3 } }

theorem test_witness_Restart :
    (exchangeLaw (ask .W [byte 0x1F] granted) ∧ grantNumbersDistinct granted ∧ granted.store.queue = [] ∧
      (∀ g ∈ granted.grants.grants, g.state ≠ .checking) ∧ manageGrant (ask .W [byte 0x1F] granted) ≠ none) ∧
    RequestWaits (ask .W [byte 0x1F] granted) .W 0x1F (req .W [byte 0x1F]) ∧ exchangeLaw restarting ∧
    restarting.agent.restart = .taken 3 ∧
    mgmtExchange restarting .W = some { req .W [0x1F] with work := .awaitRestart } ∧ restarting.store.queue = [] ∧
    (withQueue [.failureCount 1] restarting).store.queue ≠ [] ∧ sideOf (withSide side0 restarting) .W = side0 ∧
    sideOf restarting .W = .absent ∧ hasRoom restarting .W :=
  ⟨by decide, waits _ _ _ _ rfl, by decide, rfl, by decide, rfl, by decide, rfl, rfl, by decide⟩

/-- A port without room for the Restart's reply; the reply at the head of W's queue, one attempt short of withdrawal;
and a tool's frame while the reply's unit waits there. -/
theorem test_witness_RestartReply : ∀ r s d x, r = offered (onE 0x6F8 [0, 0x9F]) (.management .W .exchange) 3 .last →
    s = withOut .W [r] { home with agent := { home.agent with restart := .answered 3 } } →
    x = { req .W [0x1F] with state := .answering, work := .ready [0x9F] } →
    (¬hasRoom (withOut .W (List.replicate 32 mirror0) restarting) .W ∧
      exchangeLaw (withOut .W (List.replicate 32 mirror0) restarting)) ∧
    (s.part.awake = true ∧ s.agent.restart = .answered 3 ∧ (s.port .W).status = .active ∧ (s.port .W).out = r :: [] ∧
      r.origin = .management .W .exchange ∧ r.owner = 3) ∧
    128 ≤ ((s.setPort .W { s.port .W with fault := 120 }).port .W).fault + 8 ∧
    (exchangeLaw (mgmtAsked d [.management x]) ∧ MgmtSide (mgmtAsked d [.management x]) .W (mgmtFrame d) [] ∧
      mgmtExchange (mgmtAsked d [.management x]) .W = some x ∧ x.seg.phase = .none ∧
      sideOf (mgmtAsked d [.management x]) .W = .absent) ∧
    (mgmtFrame [192, 2, 127]).data = 192 :: 2 :: 127 :: [] ∧ 192 ≤ (192 : Byte).toNat ∧ (127 : Byte).toNat ≤ 127 := by
  rintro r s d x rfl rfl rfl
  exact ⟨by decide, by decide, by decide, ⟨oneMgmt _ _ rfl rfl rfl, ⟨rfl, rfl, rfl, fun h => (by cases h)⟩, rfl, rfl, rfl⟩,
    by decide⟩

def opened1 : Entry := { entry0 with detail := .grantOpened 1 0x31 600, grant := some 1 }

/-- The proof of grant 1 waits for its GRANT_OPENED entry. -/
def deciding : State :=
  withQueue [.append opened1, .failureCount 0]
    (withList [.management { req .W [0x11] with work := .awaitProof 1 }] threeGrants)

/-- The grant of `opened1` has a close cause by the time its entry is kept. -/
def causedPart : State :=
  withQueue [.append opened1] (withGrants [grant0, { grant1 with cause := some .presence }]
    (withList [.management { req .W [0x11] with work := .awaitProof 1 }] home))

theorem test_witness_RecordOperations :
    deciding.part.awake = true ∧ deciding.store.queue = .append opened1 :: [.failureCount 0] ∧
    opened1.detail = .grantOpened 1 0x31 600 ∧ opened1.grant = some 1 ∧
    grantNumbersDistinct deciding ∧ grant1 ∈ deciding.grants.grants ∧ grant1.state = .recording ∧ grant1.cause = none ∧
    mgmtExchange deciding .W = some { req .W [0x11] with work := .awaitProof 1 } ∧ exchangeLaw deciding ∧
    causedPart.store.queue = .append opened1 :: [] ∧ grantNumbersDistinct causedPart ∧
    { grant1 with cause := some .presence } ∈ causedPart.grants.grants ∧ grant1.reservation = true ∧
    exchangeLaw causedPart ∧ (∀ a b c, entry0.detail ≠ .grantOpened a b c) ∧
    (withQueue [.append entry0, .trim 1 3] home).store.queue = .append entry0 :: [.trim 1 3] ∧
    (withQueue [.failureCount 2] home).store.queue = .failureCount 2 :: [] ∧
    (withQueue [.trim 126 3] (full126 home)).store.queue = .trim 126 3 :: [] ∧
    126 ≤ (full126 home).record.kept.length := by
  and_intros <;> first | decide +kernel | exact fun _ _ _ h => (by cases h)

/-- What a completed operation leaves may be followed by each kind of beginning: none, a table write that passes its
second comparison, one that fails it, and a trim. -/
theorem test_witness_Begun :
    Begun home home ∧
    Begun (withQueue [.tableEntry (.mirror 0 (watch 5 5 true 0)) none 3] home)
      (withQueue [.tableEntry (.mirror 0 (watch 5 5 true 0)) none 3] home) ∧
    (∃ t, Begun (withQueue [.trim 200 3] (full126 home)) t ∧ t.store.queue = [.trim 126 3]) := by
  refine ⟨.asOffered _ rfl, .write _ _ _ _ _ rfl (by decide +kernel), _, .trim _ _ _ _ rfl, by decide +kernel⟩

def writing (r : StoreRequest) : State := withQueue [r] (ask .W [byte 0x18] threeGrants)

theorem test_witness_TableAndCredential :
    (∀ r, (writing r).part.awake = true ∧ (writing r).store.queue = r :: []) ∧
    occupied (writing (.tableEntry (.map 0 map0) (some (0, 1)) 3)) < 128 ∧
    (storedImage home .regionMap).entries.length = tableSize .regionMap ∧
    windowOn (writing (.tableEntry (.map 0 map0) (some (0, 1)) 3)) 0 = none ∧
    windowOn (withWindow window0 home) 0 ≠ none ∧ (∀ p, TableEntry.map 0 map0 ≠ .portSettings p) ∧
    (storedImage home .portSettings).entries.length = 1 ∧ portSettingsValid (storedTables home).ports ∧
    entryValid (.portSettings tables0.ports) ∧
    (∃ g ∈ threeGrants.grants.grants, g.slot = 1) ∧ (∀ g ∈ threeGrants.grants.grants, g.slot ≠ 2) ∧
    (∀ g ∈ threeGrants.grants.grants, g.binding = .none) ∧
    grantNumbersDistinct (writing (.credentialWithdraw 1 (some 0) 3)) := by
  and_intros
  any_goals decide +kernel
  · exact fun r => ⟨rfl, rfl⟩
  · exact fun p h => (by cases h)

end Sys2Proof.Tests
end

section
/-! The one segmented form of a message the gateway sends (R39): how the control byte of a unit, a lead and a follow
is read back, the count of follows, and the message put together from its pieces. -/

namespace Sys2Proof.Machine

open Sys2Proof

/-! ### Message frames read back (R37, R38) -/

/-- The number a byte is made of is the byte's value while it fits. -/
theorem byte_toNat {n : Nat} (h : n < 256) : (byte n).toNat = n := by
  rw [byte, BitVec.toNat_ofNat, Nat.mod_eq_of_lt h]

/-- A unit of at least one message byte is well formed, whatever message it is read against. -/
theorem readSsx_unitData {msg : List Byte} (h : 1 ≤ msg.length) (c : Nat) : readSsx c (unitData msg) = .unit msg := by
  have hctl : (byte 0).toNat = 0 := byte_toNat (by decide)
  have hlen : ¬((0 : Nat) % 64 ≠ 0 ∨ msg.length = 0) := by omega
  simp only [unitData, readSsx, hctl, Nat.zero_div, if_true, if_neg hlen]

/-- A lead is well formed with a count of 1 to 63 and exactly 7 message bytes. -/
theorem readSsx_lead {k : Nat} {bytes : List Byte} (h1 : 1 ≤ k) (h63 : k ≤ 63) (hlen : bytes.length = 7) (c : Nat) :
    readSsx c (byte (64 + k) :: bytes) = .lead k bytes := by
  have hctl : (byte (64 + k)).toNat = 64 + k := byte_toNat (by omega)
  have hkind : (64 + k) / 64 = 1 := by omega
  have hfield : (64 + k) % 64 = k := by omega
  have hform : ¬(bytes.length ≠ 7 ∨ k = 0) := by omega
  simp only [readSsx, hctl, hkind, hfield, Nat.one_ne_zero, if_false, if_true, if_neg hform]

/-- A follow is well formed if it carries 7 message bytes, or fewer (but some) as the last of its message. -/
theorem readSsx_follow {c i : Nat} {bytes : List Byte} (h63 : i ≤ 63) (hsome : 1 ≤ bytes.length)
    (hfull : i < c → bytes.length = 7) : readSsx c (byte (128 + i) :: bytes) = .follow i bytes := by
  have hctl : (byte (128 + i)).toNat = 128 + i := byte_toNat (by omega)
  have hkind : (128 + i) / 64 = 2 := by omega
  have hfield : (128 + i) % 64 = i := by omega
  have hform : ¬(bytes.length = 0 ∨ bytes.length < 7 ∧ i < c) := by omega
  simp only [readSsx, hctl, hkind, hfield, OfNat.ofNat_ne_zero, OfNat.ofNat_ne_one, if_false, if_true, if_neg hform]

/-! ### The count of follows and the pieces of a message (R39) -/

/-- `k` follows after the lead are enough for `n` bytes exactly when `k` is at least the count. -/
theorem followCount_le_iff {n k : Nat} : followCount n ≤ k ↔ n ≤ 7 * k + 7 := by
  rw [followCount]; omega

theorem followCount_pos {n : Nat} (h : 8 ≤ n) : 1 ≤ followCount n := by
  rw [followCount]; omega

/-- Before the last follow there are still bytes left for it. -/
theorem seven_mul_followCount_lt {n : Nat} (h : 1 ≤ n) : 7 * followCount n < n := by
  rw [followCount]; omega

theorem followBytes_length (msg : List Byte) (i : Nat) : (followBytes msg i).length = min 7 (msg.length - 7 * i) := by
  rw [followBytes, List.length_take, List.length_drop]

/-- Every follow before the last is full. -/
theorem followBytes_length_of_lt {msg : List Byte} {i : Nat} (hi : i < followCount msg.length) :
    (followBytes msg i).length = 7 := by
  have hmore : ¬msg.length ≤ 7 * i + 7 := fun h => absurd (followCount_le_iff.2 h) (by omega)
  rw [followBytes_length]; omega

/-- The last follow carries what the lead and the full follows leave. -/
theorem followBytes_length_last (msg : List Byte) :
    (followBytes msg (followCount msg.length)).length = msg.length - 7 * followCount msg.length := by
  have hall : msg.length ≤ 7 * followCount msg.length + 7 := followCount_le_iff.1 le_rfl
  rw [followBytes_length]; omega

/-- Each follow up to the count carries at least one byte. -/
theorem followBytes_length_pos {msg : List Byte} {i : Nat} (h : 1 ≤ msg.length) (hi : i ≤ followCount msg.length) :
    1 ≤ (followBytes msg i).length := by
  have hleft := seven_mul_followCount_lt h
  rw [followBytes_length]; omega

/-- The lead's bytes and those of the first `k` follows are the first `7 + 7k` bytes of the message. -/
theorem lead_append_follows (msg : List Byte) (k : Nat) :
    msg.take 7 ++ (List.range k).flatMap (fun i => followBytes msg (i + 1)) = msg.take (7 * (k + 1)) := by
  induction k with
  | zero => simp
  | succ k ih =>
    calc msg.take 7 ++ (List.range (k + 1)).flatMap (fun i => followBytes msg (i + 1))
        = msg.take (7 * (k + 1)) ++ followBytes msg (k + 1) := by
          rw [List.range_succ, List.flatMap_append, ← List.append_assoc, ih, List.flatMap_singleton]
      _ = msg.take (7 * (k + 1 + 1)) := by rw [followBytes, Nat.mul_succ 7 (k + 1), List.take_add]

/-- Put in order, the lead and all its follows give the message back. -/
theorem lead_append_all_follows (msg : List Byte) :
    msg.take 7 ++ (List.range (followCount msg.length)).flatMap (fun i => followBytes msg (i + 1)) = msg := by
  rw [lead_append_follows]
  exact List.take_of_length_le (followCount_le_iff.1 le_rfl)

/-! ### The form of a message (R39) -/

/-- Settles O31. Up to 7 bytes the unit is read back at once. From 8 bytes on the form is that of `followCount`, which
by `followCount_le_iff` is the least count that is enough; every frame is well formed for it. -/
theorem messageHasOneSegmentedForm : Obligations.MessageHasOneSegmentedForm := by
  unfold Obligations.MessageHasOneSegmentedForm
  intro msg h1 h448
  refine ⟨fun _ => ⟨List.length_cons, readSsx_unitData h1⟩, fun h8 => ?_⟩
  have hpos : 1 ≤ followCount msg.length := followCount_pos h8
  have h63 : followCount msg.length ≤ 63 := followCount_le_iff.2 h448
  have hlead : (msg.take 7).length = 7 := List.length_take_of_le (by omega)
  refine ⟨followCount msg.length, rfl, hpos, h63, followCount_le_iff.1 le_rfl, fun j => followCount_le_iff.2, ?_,
    readSsx_lead hpos h63 hlead, fun i _ => followBytes_length_of_lt, followBytes_length_last msg, fun i _ hi => ?_,
    lead_append_all_follows msg⟩
  · rw [leadData, List.length_cons, hlead]
  · exact readSsx_follow (hi.trans h63) (followBytes_length_pos h1 hi) followBytes_length_of_lt

end Sys2Proof.Machine
end

section
/-! The Load Meter: the cost of a frame by its format and length (R132), what clamping keeps of a pace frame, and the
two outcomes of the release test at a head (R135). -/

namespace Sys2Proof.Machine

open Sys2Proof

/-! ### The cost of a frame (R132) -/

theorem frameCost_std (v : BitVec 11) (d : List Byte) :
    frameCost { id := .std v, data := d } = 47 + 8 * d.length + (34 + 8 * d.length - 1) / 4 := rfl

theorem frameCost_ext (v : BitVec 29) (d : List Byte) :
    frameCost { id := .ext v, data := d } = 67 + 8 * d.length + (54 + 8 * d.length - 1) / 4 := rfl

/-- The stuffing allowance adds 2 bit times to the 8 of each byte, so a byte costs 10. -/
theorem frameCost_std_linear (v : BitVec 11) (d : List Byte) :
    frameCost { id := .std v, data := d } = 55 + 10 * d.length := by
  rw [frameCost_std]; omega

theorem frameCost_ext_linear (v : BitVec 29) (d : List Byte) :
    frameCost { id := .ext v, data := d } = 80 + 10 * d.length := by
  rw [frameCost_ext]; omega

/-- Clamping writes over bytes 0 and 2 in place. -/
@[simp] theorem clampPace_length (ceiling least : Nat) (data : List Byte) (allowance gap : Nat) :
    (clampPace ceiling least data allowance gap).length = data.length := by
  rw [clampPace, List.length_set, List.length_set]

/-! ### The release test at a head (R135) -/

/-- With a head in the queue, the test releases it on an ACTIVE port whose credit covers it, and only once. -/
theorem releasable_iff_of_head {s : State} {n : Net} {f : OutFrame} {rest : List OutFrame}
    (hout : (s.port (netPort n)).out = f :: rest) :
    releasable s n = true ↔
      (s.port (netPort n)).status = .active ∧ f.released = false ∧ frameCost f.frame * 100 ≤ s.credit n := by
  simp [releasable, hout, and_assoc]

theorem testHead_of_releasable {s : State} {n : Net} {f : OutFrame} {rest : List OutFrame}
    (hout : (s.port (netPort n)).out = f :: rest) (hrel : releasable s n = true) :
    testHead n s = (s.setCredit n (s.credit n - frameCost f.frame * 100)).setPort (netPort n)
      { s.port (netPort n) with out := { f with released := true } :: rest } := by
  obtain ⟨hnot, _⟩ | ⟨f', rest', hout', _, _, _, _, htest⟩ := testHead_cases n s
  · exact absurd hrel (by simp [hnot])
  · obtain ⟨rfl, rfl⟩ := List.cons.inj (hout.symm.trans hout')
    exact htest

/-- An empty queue, and one whose head does not qualify, is left with its credit. -/
theorem testHead_of_head_left {s : State} {n : Net}
    (hleft : ∀ f rest, (s.port (netPort n)).out = f :: rest → f.released = true ∨
      (s.port (netPort n)).status = .withdrawn ∨ s.credit n < frameCost f.frame * 100) :
    testHead n s = s := by
  obtain ⟨_, htest⟩ | ⟨f, rest, hout, hactive, hfresh, hcover, _, _⟩ := testHead_cases n s
  · exact htest
  · obtain hrel | hdown | hshort := hleft f rest hout
    · exact absurd hrel (by simp [hfresh])
    · exact absurd hdown (by simp [hactive])
    · exact absurd hcover hshort.not_ge

/-! ### HEAD_FRAME_RELEASE -/

/-- On an AWAKE part the row is the release test. -/
theorem exec_headFrameRelease {s : State} (hawake : s.part.awake = true) (n : Net) :
    exec (.headFrameRelease n) s = .next (testHead n s) := by
  have harm : exec (.headFrameRelease n) s = .next (whenAwake s (testHead n)) := rfl
  rw [harm, whenAwake, if_pos hawake]

/-- Settles O25. The costs are linear in the length by `frameCost_std_linear` and `frameCost_ext_linear`; the row is
the release test, which charges a head that `releasable_iff_of_head` admits and leaves every other. -/
theorem headReleaseChargesTheFrameCost : Obligations.HeadReleaseChargesTheFrameCost := by
  unfold Obligations.HeadReleaseChargesTheFrameCost
  refine ⟨fun v d => ⟨frameCost_std v d, frameCost_std_linear v d⟩,
    fun v d => ⟨frameCost_ext v d, frameCost_ext_linear v d⟩,
    fun a g x y d => clampPace_length a g d x y, fun n s hawake => ?_⟩
  rw [exec_headFrameRelease hawake]
  refine ⟨fun f rest hout hactive hfresh hcover => ?_, fun hleft => ?_⟩
  · have hrel : releasable s n = true := (releasable_iff_of_head hout).2 ⟨hactive, hfresh, hcover⟩
    rw [testHead_of_releasable hout hrel]
  · rw [testHead_of_head_left hleft]

end Sys2Proof.Machine
end

section
/-! What a step is made of. The updates that the Exchange Tracker, the Download Inspector, the Grant Unit and the
Management Agent share, as one relation `Move`, each with what its users know of it; a `Course` is a run of them. The
laws of the state are proved once per kind of move, and every command's effect is shown once to be a course of moves. -/

namespace Sys2Proof.Machine

open Sys2Proof Sys2Proof.Safety

/-! ### The moves -/

/-- Two states that agree on everything the laws speak of; the numbering may have moved on. -/
structure Inert (s t : State) : Prop where
  pending   : t.pending = s.pending
  meter     : t.meter = s.meter
  tables    : t.tables = s.tables
  ports     : t.ports = s.ports
  kept      : t.record.kept = s.record.kept
  queue     : t.store.queue = s.store.queue
  entries   : t.store.entries = s.store.entries
  counted   : t.store.failures = s.store.failures
  images    : t.store.images = s.store.images
  table     : t.grants.grants = s.grants.grants
  challenge : t.grants.challenge = s.grants.challenge
  lockout   : t.grants.lockout = s.grants.lockout
  failures  : t.grants.failures = s.grants.failures
  digest    : t.grants.digest = s.grants.digest
  lamp      : t.grants.lamp = s.grants.lamp
  windows   : t.inspector.windows = s.inspector.windows
  overlays  : t.inspector.overlays = s.inspector.overlays
  exchanges : t.exchanges = s.exchanges
  stamp     : s.part.stamp ≤ t.part.stamp

/-- How the binding of a grant may change (R104): a window it is PENDING on ends, or becomes ACTIVE where `a` allows
it, and a window it is BOUND to ends. -/
inductive Rebind (a : Bool) : Binding → Binding → Prop
  | same (b : Binding) : Rebind a b b
  | unbound (w : Fin 2) : Rebind a (.pending w) .none
  | bound (w : Fin 2) : a = true → Rebind a (.pending w) (.bound w)
  | ended (w : Fin 2) : Rebind a (.bound w) .ended

/-- How a grant in the table may change, its number and its reservation kept. -/
structure Regrant (a : Bool) (x y : Grant) : Prop where
  number      : y.number = x.number
  state       : y.state = x.state ∨ x.state = .active ∧ y.state = .held
  reservation : y.reservation = x.reservation
  range       : grantInRange x → grantInRange y
  binding     : Rebind a x.binding y.binding

/-- What a request that joins the store request queue is known to keep to; appends have moves of their own. -/
def RequestSound (s : State) : StoreRequest → Prop
  | .append _ => False
  | .failureCount _ => False
  | .tableEntry e _ _ => entryValid e ∧ clashes (storedTables s) e = false
  | _ => True

/-- One update of the state that its users share. `D` stands for what is known of the grants' numbers: where it holds,
a grant that is ended is one of the table. `a` allows a window to be reported ACTIVE. -/
inductive Move (D : Prop) (a : Bool) (s : State) : State → Prop
  | inert (t : State) : Inert s t → Move D a s t
  | ports (t : State) : t = { s with ports := t.ports } → (∀ p, portLaw (s.port p) → portLaw (t.port p)) → Move D a s t
  | release (n : Net) : Move D a s (testHead n s)
  | credit (n : Net) (v : Nat) : v ≤ ceilingOf s.tables.ports n → Move D a s (s.setCredit n v)
  | exchanges (t : State) :
      t = { s with exchanges := t.exchanges, part := { s.part with stamp := t.part.stamp } } →
      (exchangeLaw s → exchangeLaw t) → Move D a s t
  | push (r : StoreRequest) : RequestSound s r → Move D a s (pushStore r s)
  | append (d : Detail) (g : Option Nat) (k : Option (Fin 8)) (c : Option (Fin 16)) :
      Move D a s (appendEntry d g k c s)
  | window (w : Fin 2) (v x : Window) : s.window w = some v → x.channel = v.channel →
      x.reservations ≤ v.reservations → Move D a s (setWindow w (some x) s)
  | spend (w : Fin 2) (v x : Window) (d : Detail) (g : Option Nat) (k : Option (Fin 8)) (c : Option (Fin 16)) :
      s.window w = some v → x.channel = v.channel → x.reservations + 1 ≤ v.reservations →
      Move D a s (writeEntry d g k c (setWindow w (some x) s))
  | windowGone (w : Fin 2) (v x : Window) : s.window w = some v → x.channel = v.channel →
      Move D a s (removeWindow w x s)
  | grant (n : Nat) (f : Grant → Grant) : (∀ x, findGrant s n = some x → Regrant a x (f x)) →
      Move D a s (updateGrant n f s)
  | grantClosed (g : Grant) (cause : CloseCause) :
      (D → ∃ h ∈ s.grants.grants, h.number = g.number ∧ h.reservation = g.reservation ∧ h.state ≠ .checking) →
      Move D a s (grantClose g cause s)
  | checkingEnds (g : Grant) : (D → g ∈ s.grants.grants ∧ g.state = .checking) →
      Move D a s { dropGrant g.number s with grants := { (dropGrant g.number s).grants with
        digest := s.grants.digest.map (fun d => { d with discarded := true }) } }
  | challengeGone : Move D a s { s with grants := { s.grants with challenge := none } }
  | challengeIssued (ch : Challenge) : s.grants.lockout = none → proofInProgress s = false →
      s.grants.grants.length < 8 → 60 ≤ ch.duration → ch.duration ≤ 14400 →
      Move D a s { s with grants := { s.grants with challenge := some ch } }

/-- A run of moves. -/
abbrev Course (D : Prop) (a : Bool) : State → State → Prop := Relation.ReflTransGen (fun s t => Move D a s t)

variable {D : Prop} {a : Bool} {s t u : State}

theorem Move.course (h : Move D a s t) : Course D a s t := .single h

theorem Inert.course (h : Inert s t) : Course D a s t := .single (.inert t h)

/-- A property that every move keeps is kept by every course. -/
theorem Course.keeps {P : State → Prop} (hP : ∀ {s t}, Move D a s t → P s → P t) (h : Course D a s t) (hs : P s) :
    P t := by
  induction h with
  | refl => exact hs
  | tail _ hm ih => exact hP hm ih

/-- A relation between the ends of a course that every move keeps. -/
theorem Course.relates {R : State → State → Prop} (hr : ∀ s, R s s) (ht : ∀ {s t u}, R s t → R t u → R s u)
    (hR : ∀ {s t}, Move D a s t → R s t) (h : Course D a s t) : R s t := by
  induction h with
  | refl => exact hr _
  | tail _ hm ih => exact ht ih (hR hm)

end Sys2Proof.Machine
end

section
/-! The course each shared operation takes: the plain updates and offers, the ends of windows, exchanges and grants. -/

namespace Sys2Proof.Machine

open Sys2Proof Sys2Proof.Safety

variable {D : Prop} {a : Bool} {s t : State}

/-! ### The Pending Exchange List under its law (R55) -/

/-- The list holds a record of a channel exchange's number, for the same channel. -/
def Holds (s : State) (x : ChannelExchange) : Prop :=
  ∃ y, Exchange.channel y ∈ s.exchanges ∧ y.id = x.id ∧ y.channel = x.channel

/-- The same of a management exchange. -/
def HoldsMgmt (s : State) (x : MgmtExchange) : Prop :=
  ∃ y, Exchange.management y ∈ s.exchanges ∧ y.id = x.id ∧ y.chan = x.chan

theorem Holds.of_channel {c : Fin 16} {x : ChannelExchange} (h : channelExchange s c = some x) : Holds s x :=
  ⟨x, (channelExchange_some h).1, rfl, rfl⟩

theorem Holds.of_owned {n : Nat} {x : ChannelExchange} (h : ownedExchange s n = some x) : Holds s x :=
  ⟨x, (ownedExchange_some h).1, rfl, rfl⟩

theorem Holds.of_linked {w : Fin 2} {x : ChannelExchange} (h : linkedExchange s w = some x) : Holds s x :=
  ⟨x, (linkedExchange_some h).1, rfl, rfl⟩

theorem HoldsMgmt.of_mgmt {m : Mgmt} {x : MgmtExchange} (h : mgmtExchange s m = some x) : HoldsMgmt s x :=
  ⟨x, (mgmtExchange_some h).1, rfl, rfl⟩

theorem HoldsMgmt.of_owned {n : Nat} {x : MgmtExchange} (h : mgmtOwned s n = some x) : HoldsMgmt s x :=
  ⟨x, (mgmtOwned_some h).1, rfl, rfl⟩

/-- The list's law, kind by kind. -/
theorem exchangeLaw_iff : exchangeLaw s ↔ ((channelRecords s).map (·.channel)).Nodup ∧
    ((mgmtRecords s).map (·.chan)).Nodup ∧ (s.exchanges.map Exchange.number).Nodup ∧
    ∀ e ∈ s.exchanges, e.number < s.part.stamp := by
  rw [exchangeLaw, pendingChannels_eq, pendingMgmt_eq, pendingIds_eq]
  simp

/-- A list whose records have the keys of the old one keeps the law. -/
theorem exchangeLaw_of_keys (hc : (channelRecords t).map (·.channel) = (channelRecords s).map (·.channel))
    (hm : (mgmtRecords t).map (·.chan) = (mgmtRecords s).map (·.chan))
    (hn : t.exchanges.map Exchange.number = s.exchanges.map Exchange.number) (hp : s.part.stamp ≤ t.part.stamp)
    (h : exchangeLaw s) : exchangeLaw t := by
  rw [exchangeLaw_iff] at h ⊢
  rw [hc, hm, hn]
  obtain ⟨h1, h2, h3, h4⟩ := h
  refine ⟨h1, h2, h3, fun e he => ?_⟩
  obtain ⟨e', he', hk⟩ := List.mem_map.1 (hn ▸ List.mem_map_of_mem he : e.number ∈ s.exchanges.map Exchange.number)
  exact hk ▸ (h4 e' he').trans_le hp

/-- A list with records taken out keeps the law. -/
theorem exchangeLaw_of_sublist (hl : List.Sublist t.exchanges s.exchanges) (hp : s.part.stamp ≤ t.part.stamp)
    (h : exchangeLaw s) : exchangeLaw t := by
  rw [exchangeLaw_iff] at h ⊢
  obtain ⟨h1, h2, h3, h4⟩ := h
  exact ⟨((hl.filterMap asChannel).map _).nodup h1, ((hl.filterMap asMgmt).map _).nodup h2, (hl.map _).nodup h3,
    fun e he => (h4 e (hl.subset he)).trans_le hp⟩

theorem exchangeLaw_setChannel {x : ChannelExchange} (hx : Holds s x) (h : exchangeLaw s) :
    exchangeLaw (setChannelExchange x s) := by
  obtain ⟨y, hy, hid, hch⟩ := hx
  refine exchangeLaw_of_keys (s := s) ?_ (by rw [mgmtRecords_setChannel]) ?_ le_rfl h
  · rw [channelRecords_setChannel h, List.map_map]
    refine List.map_congr_left fun z hz => ?_
    by_cases hzx : z.id = x.id
    · have : z = y := List.inj_on_of_nodup_map (channelRecords_distinct h).2 hz (by simpa using hy) (hzx.trans hid.symm)
      simp [this, hid, hch]
    · simp [hzx]
  · exact modifyFirst_map _ _ _ (fun e he => by cases e <;> simp_all [isChannel, Exchange.number]) _

theorem exchangeLaw_setMgmt {x : MgmtExchange} (hx : HoldsMgmt s x) (h : exchangeLaw s) :
    exchangeLaw (setMgmtExchange x s) := by
  obtain ⟨y, hy, hid, hch⟩ := hx
  refine exchangeLaw_of_keys (s := s) (by rw [channelRecords_setMgmt]) ?_ ?_ le_rfl h
  · rw [mgmtRecords_setMgmt h, List.map_map]
    refine List.map_congr_left fun z hz => ?_
    by_cases hzx : z.id = x.id
    · have : z = y := List.inj_on_of_nodup_map (mgmtRecords_distinct h).2 hz (by simpa using hy) (hzx.trans hid.symm)
      simp [this, hid, hch]
    · simp [hzx]
  · exact modifyFirst_map _ _ _ (fun e he => by cases e <;> simp_all [isMgmt, Exchange.number]) _

theorem exchangeLaw_answer (n : Nat) (reply : List Byte) (h : exchangeLaw s) : exchangeLaw (answer n reply s) := by
  refine exchangeLaw_of_keys (s := s) ?_ ?_ ?_ le_rfl h
  · simp only [channelRecords, List.map_filterMap]
    exact modifyFirst_filterMap _ _ _ (fun e _ => by cases e <;> rfl) _
  · simp only [mgmtRecords, List.map_filterMap]
    exact modifyFirst_filterMap _ _ _ (fun e _ => by cases e <;> rfl) _
  · exact modifyFirst_map _ _ _ (fun e _ => by cases e <;> rfl) _

theorem exchangeLaw_unlink (w : Fin 2) (h : exchangeLaw s) : exchangeLaw (unlink w s) := by
  refine exchangeLaw_of_keys (s := s) ?_ ?_ ?_ le_rfl h
  · simp only [channelRecords, unlink, List.filterMap_map, List.map_filterMap]
    refine List.filterMap_congr fun e _ => ?_
    cases e with
    | channel x => by_cases hx : x.window = some w <;> simp [asChannel, hx]
    | management x => rfl
  · simp only [mgmtRecords, unlink, List.filterMap_map, List.map_filterMap]
    refine List.filterMap_congr fun e _ => ?_
    cases e with
    | channel x => by_cases hx : x.window = some w <;> simp [asMgmt, hx]
    | management x => rfl
  · simp only [unlink, List.map_map]
    refine List.map_congr_left fun e _ => ?_
    cases e with
    | channel x => by_cases hx : x.window = some w <;> simp [Exchange.number, hx]
    | management x => rfl

theorem exchangeLaw_joinList {x : ChannelExchange} (hid : x.id = s.part.stamp) (hf : channelExchange s x.channel = none)
    (h : exchangeLaw s) : exchangeLaw (joinList x s) := by
  rw [channelExchange_eq, List.find?_eq_none] at hf
  rw [exchangeLaw_iff] at h ⊢
  obtain ⟨h1, h2, h3, h4⟩ := h
  have hc : channelRecords (joinList x s) = channelRecords s ++ [x] := by simp [channelRecords, asChannel]
  have hm : mgmtRecords (joinList x s) = mgmtRecords s := by simp [mgmtRecords, asMgmt]
  rw [hc, hm, joinList_exchanges, joinList_part]
  refine ⟨?_, h2, ?_, ?_⟩
  · simp only [List.map_append, List.map_cons, List.map_nil]
    exact List.Nodup.append h1 (List.nodup_singleton _) (by simpa using hf)
  · simp only [List.map_append, List.map_cons, List.map_nil]
    refine List.Nodup.append h3 (List.nodup_singleton _) ?_
    simp only [List.disjoint_singleton, List.mem_map, not_exists, not_and, Exchange.number, hid]
    exact fun e he hk => (h4 e he).ne hk
  · simp only [List.mem_append, List.mem_singleton]
    rintro e (he | rfl)
    · exact (h4 e he).trans (Nat.lt_succ_self _)
    · exact hid ▸ Nat.lt_succ_self _

theorem exchangeLaw_joinMgmt {x : MgmtExchange} (hid : x.id = s.part.stamp) (hf : mgmtExchange s x.chan = none)
    (h : exchangeLaw s) : exchangeLaw (joinMgmt x s) := by
  rw [mgmtExchange_eq, List.find?_eq_none] at hf
  rw [exchangeLaw_iff] at h ⊢
  obtain ⟨h1, h2, h3, h4⟩ := h
  have hc : channelRecords (joinMgmt x s) = channelRecords s := by simp [channelRecords, asChannel]
  have hm : mgmtRecords (joinMgmt x s) = mgmtRecords s ++ [x] := by simp [mgmtRecords, asMgmt]
  rw [hc, hm, joinMgmt_exchanges, joinMgmt_part]
  refine ⟨h1, ?_, ?_, ?_⟩
  · simp only [List.map_append, List.map_cons, List.map_nil]
    exact List.Nodup.append h2 (List.nodup_singleton _) (by simpa using hf)
  · simp only [List.map_append, List.map_cons, List.map_nil]
    refine List.Nodup.append h3 (List.nodup_singleton _) ?_
    simp only [List.disjoint_singleton, List.mem_map, not_exists, not_and, Exchange.number, hid]
    exact fun e he hk => (h4 e he).ne hk
  · simp only [List.mem_append, List.mem_singleton]
    rintro e (he | rfl)
    · exact (h4 e he).trans (Nat.lt_succ_self _)
    · exact hid ▸ Nat.lt_succ_self _

/-! ### The plain updates -/

theorem course_setChannel {x : ChannelExchange} (hx : Holds s x) : Course D a s (setChannelExchange x s) :=
  .single (.exchanges _ rfl (exchangeLaw_setChannel hx))

theorem course_setMgmt {x : MgmtExchange} (hx : HoldsMgmt s x) : Course D a s (setMgmtExchange x s) :=
  .single (.exchanges _ rfl (exchangeLaw_setMgmt hx))

theorem course_answer (n : Nat) (reply : List Byte) (s : State) : Course D a s (answer n reply s) :=
  .single (.exchanges _ rfl (exchangeLaw_answer n reply))

theorem course_dropChannel (n : Nat) (s : State) : Course D a s (dropChannelExchange n s) :=
  .single (.exchanges _ rfl (exchangeLaw_of_sublist List.eraseP_sublist le_rfl))

theorem course_closeMgmt (n : Nat) (s : State) : Course D a s (closeMgmt n s) :=
  .single (.exchanges _ rfl (exchangeLaw_of_sublist List.eraseP_sublist le_rfl))

theorem course_joinList {x : ChannelExchange} (hid : x.id = s.part.stamp) (hf : channelExchange s x.channel = none) :
    Course D a s (joinList x s) :=
  .single (.exchanges _ rfl (exchangeLaw_joinList hid hf))

theorem course_joinMgmt {x : MgmtExchange} (hid : x.id = s.part.stamp) (hf : mgmtExchange s x.chan = none) :
    Course D a s (joinMgmt x s) :=
  .single (.exchanges _ rfl (exchangeLaw_joinMgmt hid hf))

theorem course_nextStamp (s : State) : Course D a s (nextStamp s) :=
  Inert.course (by constructor <;> first | rfl | exact Nat.le_succ _)

theorem course_nextDraw (s : State) : Course D a s (nextDraw s) := Inert.course (by constructor <;> rfl)

theorem course_setBuffer (b : Fin 2) (bytes : List Byte) (s : State) : Course D a s (setBuffer b bytes s) :=
  Inert.course (by constructor <;> rfl)

theorem course_raise (f : Attention → Attention) (s : State) : Course D a s (raise f s) :=
  Inert.course (by constructor <;> rfl)

theorem course_setSide (m : Mgmt) (x : Side) (s : State) : Course D a s (setSide m x s) :=
  Inert.course (by cases m <;> constructor <;> rfl)

theorem course_mgmtFrameGone (n : Nat) (s : State) : Course D a s (mgmtFrameGone n s) :=
  Inert.course (by constructor <;> rfl)

/-- Put a record in its place, then take a new stamp. -/
theorem course_setStamp {x : ChannelExchange} (hx : Holds s x) :
    Course D a s (nextStamp (setChannelExchange x s)) := (course_setChannel hx).trans (course_nextStamp _)

theorem course_setMgmtStamp {x : MgmtExchange} (hx : HoldsMgmt s x) :
    Course D a s (nextStamp (setMgmtExchange x s)) := (course_setMgmt hx).trans (course_nextStamp _)

/-! ### Ports (R4 to R6) -/

/-- A change of one port that keeps its law. -/
theorem course_setPort {p : Port} {x : PortState} (h : portLaw (s.port p) → portLaw x) :
    Course D a s (s.setPort p x) := by
  refine .single (.ports _ (by cases p <;> rfl) fun q hq => ?_)
  rw [setPort_port]
  split
  · next e => exact h (e ▸ hq)
  · exact hq

/-- A change of one port's counters that keeps them in range. -/
theorem course_count (p : Port) {f : Counters → Counters} (h : ∀ c, countersInRange c → countersInRange (f c))
    (s : State) : Course D a s (s.count p f) :=
  course_setPort fun ⟨h1, h2, h3, h4, h5, h6, h7⟩ => ⟨h1, h2, h3, h _ h4, h5, h6, h7⟩

theorem saturate_le (n : Nat) : saturate n ≤ 65535 := Nat.min_le_left _ _

theorem countersInRange_addDiscarded (n : Nat) (c : Counters) (h : countersInRange c) :
    countersInRange (c.addDiscarded n) := by
  obtain ⟨h1, h2, h3, h4, h5, h6, h7⟩ := h
  exact ⟨h1, h2, h3, h4, h5, saturate_le _, h7⟩

theorem countersInRange_addUnroutable (c : Counters) (h : countersInRange c) : countersInRange c.addUnroutable := by
  obtain ⟨h1, h2, h3, h4, h5, h6, h7⟩ := h
  exact ⟨h1, h2, saturate_le _, h4, h5, h6, h7⟩

theorem countersInRange_addLate (c : Counters) (h : countersInRange c) : countersInRange c.addLate := by
  obtain ⟨h1, h2, h3, h4, h5, h6, h7⟩ := h
  exact ⟨h1, h2, h3, saturate_le _, h5, h6, h7⟩

theorem course_testPort (p : Port) (s : State) : Course D a s (testPort p s) := by
  cases p
  · exact .refl
  · exact .single (.release .E)
  · exact .single (.release .C)

/-- A frame that joins a queue with room is behind its head, and so waits unreleased (R135). -/
theorem portLaw_joins {x : PortState} {f : OutFrame} (hf : f.released = false) (ha : x.status = .active)
    (hl : x.out.length < 32) (h : portLaw x) : portLaw { x with out := x.out ++ [f] } := by
  obtain ⟨h1, h2, h3, h4, h5, h6, h7⟩ := h
  refine ⟨h1, by simpa using hl, fun g hg => ?_, h4, h5, fun hw => absurd hw (by simp [ha]), h7⟩
  cases hx : x.out with
  | nil => simp [hx] at hg
  | cons y ys =>
    simp only [hx, List.cons_append, List.tail_cons, List.mem_append, List.mem_singleton] at hg
    obtain hg | rfl := hg
    · exact h3 g (by simpa [hx] using hg)
    · exact hf

theorem course_offerState (p : Port) {f : OutFrame} (hf : f.released = false) (s : State) :
    Course D a s (offerState p f s) := by
  unfold offerState
  split
  · next h =>
    refine (course_setPort fun hp => ?_).trans (course_testPort p _)
    obtain ⟨ha, hl⟩ : (s.port p).status = .active ∧ (s.port p).out.length < 32 := by
      unfold offerResult at h
      split at h
      · cases h
      · next ha => split at h <;> [exact ⟨ha, ‹_›⟩; cases h]
    exact portLaw_joins hf ha hl hp
  · exact course_count p (countersInRange_addDiscarded 1) s

theorem course_gatewayReply (c : Fin 16) (code : Byte) (r : Nat) (s : State) :
    Course D a s (gatewayReply c code r s) := course_offerState .W rfl s

/-! ### Appends (R143, R144) -/

theorem course_appendEntry (d : Detail) (g : Option Nat) (k : Option (Fin 8)) (c : Option (Fin 16)) (s : State) :
    Course D a s (appendEntry d g k c s) := .single (.append d g k c)

theorem course_refuseTransfer (x : Window) (i n : Nat) (r : Reason) (s : State) :
    Course D a s (refuseTransfer x i n r s) := course_appendEntry _ _ _ _ s

/-- An entry into a reservation of an open window: the window gives the place up, and the entry takes it. -/
theorem course_spend {w : Fin 2} {v x : Window} (hw : s.window w = some v) (hc : x.channel = v.channel)
    (hr : x.reservations = v.reservations - 1) (d : Detail) (g : Option Nat) (k : Option (Fin 8))
    (c : Option (Fin 16)) :
    Course D a s (appendInto (decide (0 < v.reservations)) d g k c (setWindow w (some x) s)) := by
  by_cases h : 0 < v.reservations
  · simpa [h] using (Move.spend w v x d g k c hw hc (by omega)).course
  · simpa [h] using (Move.window w v x hw hc (by omega)).course.trans (course_appendEntry d g k c _)

/-! ### Windows (R112) -/

theorem course_setWindow {w : Fin 2} {v x : Window} (hw : s.window w = some v)
    (hc : x.channel = v.channel) (hr : x.reservations = v.reservations) : Course D a s (setWindow w (some x) s) :=
  .single (.window w v x hw hc hr.le)

theorem window_put (w : Fin 2) (x : Option Window) (s : State) : (setWindow w x s).window w = x := by simp

/-- What offers, appends and exchanges leave alone. -/
@[simp] theorem closeLinked_inspector (w : Fin 2) (r : Reason) (s : State) :
    (closeLinked w r s).inspector = s.inspector := by
  unfold closeLinked
  split
  · rw [gatewayReply_touches]; rfl
  · rfl

@[simp] theorem appendInto_inspector (b : Bool) (d : Detail) (g : Option Nat) (k : Option (Fin 8))
    (c : Option (Fin 16)) (s : State) : (appendInto b d g k c s).inspector = s.inspector := by
  unfold appendInto appendEntry writeEntry
  repeat' split
  all_goals rfl

@[simp] theorem appendInto_grants (b : Bool) (d : Detail) (g : Option Nat) (k : Option (Fin 8))
    (c : Option (Fin 16)) (s : State) : (appendInto b d g k c s).grants = s.grants := by
  unfold appendInto appendEntry writeEntry
  repeat' split
  all_goals rfl

@[simp] theorem appendInto_exchanges (b : Bool) (d : Detail) (g : Option Nat) (k : Option (Fin 8))
    (c : Option (Fin 16)) (s : State) : (appendInto b d g k c s).exchanges = s.exchanges := by
  unfold appendInto appendEntry writeEntry
  repeat' split
  all_goals rfl

theorem window_of_inspector {w : Fin 2} (h : t.inspector = s.inspector) : t.window w = s.window w := by
  simp [State.window, h]

/-! ### The ends of windows and grants (R104, R116, R117) -/

/-- The grant found under a number is closed. -/
theorem course_closeFound {n : Nat} {x y : Grant} {f : Grant → Grant} (hx : findGrant s n = some x)
    (hf : f x = y) (hn : y.number = x.number) (hst : y.state ≠ .checking) (hr : y.reservation = x.reservation)
    (cause : CloseCause) : Course D a (updateGrant n f s) (grantClose x cause (updateGrant n f s)) := by
  refine .single (.grantClosed x cause fun _ => ⟨y, ?_, hn, hr, hst⟩)
  have hx' : s.grants.grants.find? (fun g => g.number == n) = some x := hx
  obtain ⟨l, r, e, hl⟩ := (List.find?_eq_some_iff_append.1 hx').2
  have hp := (List.find?_eq_some_iff_append.1 hx').1
  have : modifyFirst (fun g => g.number == n) f s.grants.grants = l ++ y :: r := by
    rw [e, modifyFirst_append_miss f (fun z hz => by simpa using hl z hz)]
    simp only [modifyFirst, hp, if_true, hf]
  simp [updateGrant, setGrants, this]

theorem course_reportActive (g : Nat) (w : Fin 2) (s : State) : Course D true s (reportActive g w s) := by
  refine .single (.grant g _ fun x _ => ?_)
  split
  · next h => exact ⟨rfl, .inl rfl, rfl, id, h ▸ .bound w rfl⟩
  · exact ⟨rfl, .inl rfl, rfl, id, .same _⟩

theorem course_reportEndedUnactivated (g : Nat) (w : Fin 2) (s : State) :
    Course D a s (reportEndedUnactivated g w s) := by
  unfold reportEndedUnactivated
  split
  · next x hx =>
    split
    · next hb =>
      have hu : Course D a s (updateGrant g (fun y => { y with binding := .none }) s) :=
        .single (.grant g _ fun y hy => by
          obtain rfl : x = y := Option.some.inj (hx.symm.trans hy)
          exact ⟨rfl, .inl rfl, rfl, id, hb ▸ .unbound w⟩)
      split
      · next hst => exact hu.trans (course_closeFound hx rfl rfl (by simp [hst]) rfl _)
      · exact hu
    · exact .refl
  · exact .refl

theorem course_reportEndedActive (g : Nat) (w : Fin 2) (s : State) : Course D a s (reportEndedActive g w s) := by
  unfold reportEndedActive
  dsimp only
  split
  · next x hx =>
    split
    · next hb =>
      have hu : Course D a s (updateGrant g (fun y => { y with
          binding := .ended, classes := x.classes &&& ~~~bitReprogram }) s) :=
        .single (.grant g _ fun y hy => by
          obtain rfl : x = y := Option.some.inj (hx.symm.trans hy)
          exact ⟨rfl, .inl rfl, rfl, id, hb ▸ .ended w⟩)
      split
      · next hst => exact hu.trans (course_closeFound hx rfl rfl (by simp [hst]) rfl _)
      · split
        · next hst => exact hu.trans (course_closeFound hx rfl rfl (by simp [hst.1]) rfl _)
        · exact hu
    · exact .refl
  · exact .refl

/-- Ends of one window: `x` is the window as it stands, but for what it has reserved. -/
theorem course_removeWindow {w : Fin 2} {v x : Window} (hw : s.window w = some v) (hc : x.channel = v.channel) :
    Course D a s (removeWindow w x s) := .single (.windowGone w v x hw hc)

/-- The end of a window, entered into one of its reservations where it has one (R116, R117). -/
theorem appendEnded_eq (w : Fin 2) (x : Window) (o : Outcome) (c : EndCause) (s : State) :
    appendEnded w x o c s = raiseDownloadEnded (appendInto (decide (0 < x.reservations))
      (.downloadEnded (x.range.getD (0, 0)).1 (x.range.getD (0, 0)).2 (endRemaining x) o c) (some x.grant) (some x.slot)
      (some x.channel) (setWindow w (some { x with reservations := x.reservations - 1 }) s)) := rfl

theorem appendEnded_window (w : Fin 2) (x : Window) (o : Outcome) (c : EndCause) (s : State) :
    (appendEnded w x o c s).window w = some { x with reservations := x.reservations - 1 } := by
  refine (window_of_inspector ?_).trans (window_put w (some { x with reservations := x.reservations - 1 }) s)
  exact appendInto_inspector _ _ _ _ _ _

theorem course_appendEnded {w : Fin 2} {x : Window} (hw : s.window w = some x) (o : Outcome) (c : EndCause) :
    Course D a s (appendEnded w x o c s) := by
  rw [appendEnded_eq]
  exact (course_spend (x := { x with reservations := x.reservations - 1 }) hw rfl rfl _ _ _ _).trans (course_raise _ _)

theorem course_endActive {w : Fin 2} {x : Window} (hw : s.window w = some x) (o : Outcome) (c : EndCause)
    (tell : Bool) : Course D a s (endActive w x o c tell s) := by
  have h : Course D a s (removeWindow w x (appendEnded w x o c s)) :=
    (course_appendEnded hw o c).trans (course_removeWindow (appendEnded_window w x o c s) rfl)
  unfold endActive
  dsimp only
  split
  · exact h.trans (course_reportEndedActive _ _ _)
  · exact h

theorem course_endPendingSilent {w : Fin 2} {v x : Window} (hw : s.window w = some v) (hc : x.channel = v.channel)
    (tell : Bool) : Course D a s (endPendingSilent w x tell s) := by
  unfold endPendingSilent
  dsimp only
  split
  · exact (course_removeWindow hw hc).trans (course_reportEndedUnactivated _ _ _)
  · exact course_removeWindow hw hc

theorem course_endPending {w : Fin 2} {x : Window} (hw : s.window w = some x) (o : Outcome) (c : EndCause)
    (tell : Bool) : Course D a s (endPending w x o c tell s) := by
  unfold endPending
  split
  · exact (course_appendEnded hw o c).trans (course_endPendingSilent (appendEnded_window w x o c s) rfl tell)
  · exact course_endPendingSilent hw rfl tell

theorem course_endAborted {w : Fin 2} {x : Window} (hw : s.window w = some x) (c : EndCause) (tell : Bool) :
    Course D a s (endAborted w x c tell s) := by
  unfold endAborted
  split
  · exact course_endActive hw _ _ _
  · exact course_endPending hw _ _ _

theorem course_closeLinked (w : Fin 2) (r : Reason) (s : State) : Course D a s (closeLinked w r s) := by
  unfold closeLinked
  split
  · exact (course_dropChannel _ _).trans (course_gatewayReply _ _ _ _)
  · exact .refl

theorem closeLinked_window (w u : Fin 2) (r : Reason) (s : State) : (closeLinked w r s).window u = s.window u :=
  window_of_inspector (closeLinked_inspector w r s)

theorem course_abortWindow (w : Fin 2) (r : Reason) (c : EndCause) (tell : Bool) (s : State) :
    Course D a s (abortWindow w r c tell s) := by
  unfold abortWindow
  split
  · next x hx =>
    exact (course_closeLinked w r s).trans (course_endAborted ((closeLinked_window w w r s).trans hx) c tell)
  · exact .refl

theorem course_suspendTest (w : Fin 2) (s : State) : Course D a s (suspendTest w s) := by
  unfold suspendTest
  split
  · next x hx =>
    split
    · exact course_setWindow hx (by rfl) (by rfl)
    · exact .refl
  · exact .refl

theorem course_leaveWindow (w : Fin 2) (s : State) : Course D a s (leaveWindow w s) := by
  unfold leaveWindow
  split
  · next x hx => exact course_setWindow hx (by rfl) (by rfl)
  · exact .refl

theorem course_reopenWindow {w : Fin 2} {x : Window} (hw : s.window w = some x) : Course D a s (reopenWindow w x s) :=
  (course_setWindow (x := ({ x with state := .active } : Window).unlinked) hw rfl rfl).trans (course_suspendTest w _)

/-! ### Closes of exchanges, and offers on their behalf (R65, R66) -/

theorem course_inspectorClosed (x : ChannelExchange) (c : Closing) (s : State) :
    Course D a s (inspectorClosed x c s) := by
  unfold inspectorClosed
  split
  · exact .refl
  · split
    · exact .refl
    · next v hv =>
      repeat' split
      all_goals with_reducible first
        | exact course_endPendingSilent hv rfl _
        | exact course_endPending hv _ _ _
        | exact course_endActive hv _ _ _
        | exact course_reopenWindow hv
        | exact course_leaveWindow _ _

theorem course_closeExchange (x : ChannelExchange) (c : Closing) (s : State) : Course D a s (closeExchange x c s) := by
  unfold closeExchange
  dsimp only
  split
  · exact ((course_dropChannel _ _).trans (course_inspectorClosed _ _ _)).trans (course_gatewayReply _ _ _ _)
  · exact (course_dropChannel _ _).trans (course_inspectorClosed _ _ _)

theorem course_closeDownload (x : ChannelExchange) (r : Reason) (s : State) : Course D a s (closeDownload x r s) := by
  unfold closeDownload
  dsimp only
  split
  · exact ((course_dropChannel _ _).trans (course_leaveWindow _ _)).trans (course_gatewayReply _ _ _ _)
  · exact (course_dropChannel _ _).trans (course_gatewayReply _ _ _ _)

@[simp] theorem offerState_exchanges (p : Port) (f : OutFrame) (s : State) :
    (offerState p f s).exchanges = s.exchanges := by rw [offerState_touches]

@[simp] theorem offerState_inspector (p : Port) (f : OutFrame) (s : State) :
    (offerState p f s).inspector = s.inspector := by rw [offerState_touches]

theorem Holds.moved {x y : ChannelExchange} (h : Holds s x) (e : t.exchanges = s.exchanges)
    (hid : y.id = x.id) (hch : y.channel = x.channel) : Holds t y := by
  unfold Holds; rw [e, hid, hch]; exact h

theorem HoldsMgmt.moved {x y : MgmtExchange} (h : HoldsMgmt s x) (e : t.exchanges = s.exchanges)
    (hid : y.id = x.id) (hch : y.chan = x.chan) : HoldsMgmt t y := by
  unfold HoldsMgmt; rw [e, hid, hch]; exact h

/-- A record put in its place stands there. -/
theorem Holds.set {x : ChannelExchange} (h : Holds s x) : Holds (setChannelExchange x s) x := by
  obtain ⟨z, hz, hid, -⟩ := h
  have hp : isChannel x.id (.channel z) = true := by simp [isChannel, hid]
  refine ⟨x, ?_, rfl, rfl⟩
  rw [setChannelExchange_exchanges]
  generalize Exchange.channel z = e, s.exchanges = l at hz hp
  induction l with
  | nil => cases hz
  | cons b l ih =>
    by_cases hb : isChannel x.id b = true
    · simp [modifyFirst, hb]
    · obtain rfl | he := List.mem_cons.1 hz
      · exact absurd hp hb
      · simp only [modifyFirst, hb]
        exact List.mem_cons_of_mem _ (ih he)

/-- A frame is offered for an exchange; with it accepted, what follows starts from the list as it was. -/
theorem course_offerThen (x : ChannelExchange) (p : Port) {f : OutFrame} (hf : f.released = false)
    {go : State → State} (h : ∀ t, t.exchanges = s.exchanges → Course D a t (go t)) :
    Course D a s (offerThen x p f go s) := by
  unfold offerThen
  split
  · exact (course_offerState p hf s).trans (h _ (by simp))
  · exact (course_offerState p hf s).trans (course_closeExchange _ _ _)

theorem course_offerAll (x : ChannelExchange) (p : Port) {go : State → State} :
    ∀ (l : List OutFrame) {s : State}, (∀ f ∈ l, f.released = false) →
      (∀ t, t.exchanges = s.exchanges → Course D a t (go t)) → Course D a s (offerAll x p go l s)
  | [], s, _, h => h s rfl
  | f :: l, s, hl, h => course_offerThen x p (hl f (by simp)) fun t ht =>
      course_offerAll x p l (fun g hg => hl g (by simp [hg])) fun u hu => h u (hu.trans ht)

end Sys2Proof.Machine
end

section
/-! The course of what a frame brings about: download blocks, the Exchange Tracker, the Management Agent and the Frame
Router, and the ends of grants. -/

namespace Sys2Proof.Machine

open Sys2Proof Sys2Proof.Safety

variable {D : Prop} {a : Bool} {s t : State}

/-! ### Download blocks and the watched conditions (R118 to R121, R125) -/

theorem course_sendBlock {x : ChannelExchange} (hx : Holds s x) (v : Window) : Course D a s (sendBlock x v s) :=
  course_offerThen _ _ rfl fun _ ht => course_setStamp (hx.moved ht (by rfl) (by rfl))

theorem course_checkBlock (w : Fin 2) {x : ChannelExchange} (hx : Holds s x) (v : Window) :
    Course D a s (checkBlock w x v s) := by
  unfold checkBlock
  split
  · split
    · exact (course_refuseTransfer _ _ _ _ _).trans (course_abortWindow _ _ _ _ _)
    · exact course_sendBlock hx v
  · exact .refl

theorem course_sendFollows (n : Nat) {x : ChannelExchange} (hx : Holds s x) : Course D a s (sendFollows n x s) := by
  unfold sendFollows
  split
  · refine course_offerAll _ _ _ (fun f hf => ?_) fun _ ht => course_setStamp (hx.moved ht (by rfl) (by rfl))
    obtain ⟨g, -, rfl⟩ := List.mem_map.1 hf
    rfl
  · exact .refl

theorem course_blockSent {x : ChannelExchange} (hx : Holds s x) : Course D a s (blockSent x s) := by
  unfold blockSent
  dsimp only
  split
  · split
    · next v hv => exact .trans (course_setWindow hv (by rfl) (by rfl)) (course_setChannel (hx.moved (by rfl) (by rfl) (by rfl)))
    · exact course_setChannel (hx.moved (by rfl) (by rfl) (by rfl))
  · exact course_setChannel (hx.moved (by rfl) (by rfl) (by rfl))

theorem course_sendProceed {x : ChannelExchange} (hx : Holds s x) : Course D a s (sendProceed x s) :=
  course_offerThen _ _ rfl fun _ ht => course_setStamp (hx.moved ht (by rfl) (by rfl))

theorem course_sendWait (x : ChannelExchange) (s : State) : Course D a s (sendWait x s) :=
  course_offerThen _ _ rfl fun _ _ => .refl

theorem course_resumeWindow {w : Fin 2} {x : Window} (hw : s.window w = some x) :
    Course D a s (resumeWindow w x s) := by
  unfold resumeWindow
  dsimp only
  split
  · next e he =>
    split
    · exact .trans (course_setWindow hw (by rfl) (by rfl)) (.trans (course_setWindow (window_put _ _ _) (by rfl) (by rfl))
        (course_checkBlock w ((Holds.of_linked he).moved (by rfl) (by rfl) (by rfl)) _))
    · split
      · exact .trans (course_setWindow hw (by rfl) (by rfl)) (.trans (course_setWindow (window_put _ _ _) (by rfl) (by rfl))
          (course_sendProceed ((Holds.of_linked he).moved (by rfl) (by rfl) (by rfl))))
      · exact course_setWindow hw (by rfl) (by rfl)
  · exact course_setWindow hw (by rfl) (by rfl)

theorem course_testWindow (w : Fin 2) (s : State) : Course D a s (testWindow w s) := by
  unfold testWindow
  split
  · next x hx =>
    split
    · split
      · exact course_resumeWindow hx
      · exact .refl
    · exact course_suspendTest _ _
  · exact .refl

theorem course_testWindows (s : State) : Course D a s (testWindows s) :=
  (course_testWindow 0 s).trans (course_testWindow 1 _)

theorem course_reportConditions (c : BitVec 5) (s : State) : Course D a s (reportConditions c s) := by
  unfold reportConditions
  split
  · exact .refl
  · exact course_testWindows s

theorem course_takeBlock {w : Fin 2} {x : ChannelExchange} {v : Window} (hx : Holds s x) (hw : s.window w = some v)
    (b : HandBlock) : Course D a s (takeBlock w x v b s) := by
  unfold takeBlock
  dsimp only
  split
  · exact .trans (course_setWindow hw (by rfl) (by rfl)) (course_setChannel (hx.moved (by rfl) (by rfl) (by rfl)))
  · exact .trans (course_setWindow hw (by rfl) (by rfl)) (course_checkBlock _ (hx.moved (by rfl) (by rfl) (by rfl)) _)

theorem course_refuseBlock (x : ChannelExchange) (r : Reason) (s : State) : Course D a s (refuseBlock x r s) :=
  course_closeDownload _ _ _

theorem course_judgeBlock {x : ChannelExchange} (hx : Holds s x) : Course D a s (judgeBlock x s) := by
  unfold judgeBlock
  split
  · exact .refl
  · split
    · exact .refl
    · next v hv =>
      dsimp only
      repeat' split
      all_goals with_reducible first
        | exact course_refuseBlock _ _ _
        | exact (course_refuseTransfer _ _ _ _ _).trans (course_refuseBlock _ _ _)
        | exact course_takeBlock hx hv _

theorem course_stageFirst {x : ChannelExchange} {w : Fin 2} {v : Window} (hx : Holds s x) (hw : s.window w = some v)
    (first : Ssx) : Course D a s (stageFirst x w v first s) := by
  unfold stageFirst
  dsimp only
  split
  · exact .trans (course_setWindow hw (by rfl) (by rfl)) (.trans (course_setBuffer _ _ _) (course_judgeBlock (hx.moved (by rfl) (by rfl) (by rfl))))
  · next count msg =>
    have hy : Holds (setBuffer (freeBuffer s) msg s) { x with seg := x.seg.lead count 0 } := hx.moved (by rfl) (by rfl) (by rfl)
    split
    · exact .trans (course_setBuffer _ _ _) (.trans (course_setChannel hy) (.trans (course_setWindow hw (by rfl) (by rfl))
        (course_sendWait _ _)))
    · exact .trans (course_setBuffer _ _ _) (.trans (course_setChannel hy) (.trans (course_setWindow hw (by rfl) (by rfl))
        (course_sendProceed (hy.set.moved (by rfl) (by rfl) (by rfl)))))
  · exact .refl

theorem course_stagingFrame {x : ChannelExchange} (hx : Holds s x) (f : Ssx) : Course D a s (stagingFrame x f s) := by
  have hj : ∀ {u : State}, u.exchanges = s.exchanges → Course D a u (judgeBlock { x with seg := x.seg.reset }
      (setChannelExchange { x with seg := x.seg.reset } u)) := fun hu =>
    .trans (course_setChannel (hx.moved hu (by rfl) (by rfl))) (course_judgeBlock (Holds.set (hx.moved hu (by rfl) (by rfl))))
  unfold stagingFrame
  dsimp only
  repeat' split
  all_goals with_reducible first
    | exact course_closeExchange _ _ _
    | exact hj rfl
    | exact .trans (course_setBuffer _ _ _) (hj rfl)
    | exact course_setChannel (hx.moved (by rfl) (by rfl) (by rfl))
    | exact .trans (course_setBuffer _ _ _) (course_setChannel (hx.moved (setBuffer_exchanges _ _ _) (by rfl) (by rfl)))

/-! ### The Exchange Tracker (chapter 4) -/

theorem course_passLast {x : ChannelExchange} (hx : Holds s x) (data : List Byte) : Course D a s (passLast x data s) :=
  course_offerThen _ _ rfl fun _ ht => course_setChannel (hx.moved ht (by rfl) (by rfl))

theorem course_judgeClose {x : ChannelExchange} (hx : Holds s x) (data : List Byte) :
    Course D a s (judgeClose x data s) := by
  unfold judgeClose
  split
  · exact course_passLast hx _
  · split
    · exact course_passLast hx _
    · next v hv =>
      split
      · exact course_closeDownload _ _ _
      · exact .trans (course_setWindow hv (by rfl) (by rfl)) (course_passLast (hx.moved (by rfl) (by rfl) (by rfl)) _)

theorem course_refuseOpen {w : Fin 2} {v : Window} (hw : s.window w = some v) (msg : List Byte) (r : Reason)
    (range : Bool) : Course D a s (refuseOpen w v msg r range s) := by
  have hl : (closeLinked w r s).window w = some v := (closeLinked_window w w r s).trans hw
  unfold refuseOpen
  dsimp only
  split
  · refine .trans (course_closeLinked _ _ _) (.trans (course_spend hl (by rfl) (by rfl) _ _ _ _)
      (course_endPendingSilent (v := { v with reservations := v.reservations - 1 }) ?_ rfl _))
    exact (window_of_inspector (appendInto_inspector _ _ _ _ _ _)).trans (window_put _ _ _)
  · exact .trans (course_closeLinked _ _ _) (course_endPendingSilent hl rfl _)

theorem course_judgeOpen {x : ChannelExchange} (hx : Holds s x) (msg data : List Byte) :
    Course D a s (judgeOpen x msg data s) := by
  unfold judgeOpen
  split
  · exact course_passLast hx _
  · split
    · exact course_passLast hx _
    · next v hv =>
      split
      · exact course_refuseOpen hv _ _ _
      · exact .trans (course_setWindow hv (by rfl) (by rfl)) (course_passLast (hx.moved (by rfl) (by rfl) (by rfl)) _)

theorem course_judgeErase {x : ChannelExchange} (hx : Holds s x) (msg data : List Byte) :
    Course D a s (judgeErase x msg data s) := by
  unfold judgeErase
  dsimp only
  repeat' split
  all_goals with_reducible first
    | exact course_passLast hx _
    | exact course_closeDownload _ _ _
    | exact (course_refuseTransfer _ _ _ _ _).trans (course_closeDownload _ _ _)
    | exact (course_refuseTransfer _ _ _ _ _).trans (course_abortWindow _ _ _ _ _)

theorem course_lastRequestFrame {x : ChannelExchange} (hx : Holds s x) (msg data : List Byte) :
    Course D a s (lastRequestFrame x msg data s) := by
  unfold lastRequestFrame
  split
  · exact course_judgeOpen hx _ _
  · exact course_judgeClose hx _
  · exact course_judgeErase hx _ _
  · exact course_passLast hx _

theorem course_passFirst {x : ChannelExchange} (hx : Holds s x) (first : Ssx) (data : List Byte) :
    Course D a s (passFirst x first data s) := by
  unfold passFirst
  split
  · exact course_lastRequestFrame hx _ _
  · exact course_offerThen _ _ rfl fun _ ht => course_setStamp (hx.moved ht (by rfl) (by rfl))
  · exact .refl

theorem course_stopIdle (w : Fin 2) (s : State) : Course D a s (stopIdle w s) := by
  unfold stopIdle
  split
  · next v hv => exact course_setWindow hv (by rfl) (by rfl)
  · exact .refl

@[simp] theorem stopIdle_exchanges (w : Fin 2) (s : State) : (stopIdle w s).exchanges = s.exchanges := by
  unfold stopIdle; split <;> rfl

theorem Holds.joined (x : ChannelExchange) (s : State) : Holds (joinList x s) x := ⟨x, by simp, rfl, rfl⟩

theorem course_openStep {c : Fin 16} (hc : channelExchange s c = none) (code : Byte) (role : Role) (w : Fin 2)
    (first : Ssx) (data : List Byte) : Course D a s (openStep c code role w first data s) := by
  unfold openStep
  dsimp only
  generalize hy : freshExchange s.part.stamp c code .reprogram (some role) (some w)
    (if role = .block then .staging else .inbound) = y
  have hj : Course D a s (stopIdle w (joinList y s)) :=
    .trans (course_joinList (hy ▸ rfl) (hy ▸ hc)) (course_stopIdle _ _)
  have hh : Holds (stopIdle w (joinList y s)) y := (Holds.joined y s).moved (stopIdle_exchanges w _) (by rfl) (by rfl)
  split
  · split
    · next v hv => exact hj.trans (course_stageFirst hh hv _)
    · exact hj
  · exact hj.trans (course_passFirst hh _ _)

theorem course_requestFollow {x : ChannelExchange} (hx : Holds s x) (i : Nat) (msg data : List Byte) :
    Course D a s (requestFollow x i msg data s) := by
  unfold requestFollow
  dsimp only
  split
  · exact course_lastRequestFrame hx _ _
  · exact course_offerThen _ _ rfl fun _ ht => course_setStamp (hx.moved ht (by rfl) (by rfl))

theorem course_requestPace {x : ChannelExchange} (hx : Holds s x) (i code gap : Nat) (data : List Byte) :
    Course D a s (requestPace x i code gap data s) := by
  unfold requestPace
  dsimp only
  repeat' split
  · exact course_offerThen _ _ rfl fun _ ht => course_setStamp (hx.moved ht (by rfl) (by rfl))
  · exact course_offerThen _ _ rfl fun _ ht => course_setStamp (hx.moved ht (by rfl) (by rfl))
  · exact course_offerThen _ _ rfl fun _ _ => course_closeExchange _ _ _

theorem course_replyPace {x : ChannelExchange} (hx : Holds s x) (i code gap : Nat) (data : List Byte) :
    Course D a s (replyPace x i code gap data s) := by
  unfold replyPace
  dsimp only
  repeat' split
  · exact course_offerThen _ _ rfl fun _ ht => course_setStamp (hx.moved ht (by rfl) (by rfl))
  · exact course_offerThen _ _ rfl fun _ ht => course_setStamp (hx.moved ht (by rfl) (by rfl))
  · exact course_offerThen _ _ rfl fun _ _ => course_closeExchange _ _ _

/-- An Open is accepted: the one report that binds a grant to its window (R115). -/
theorem course_acceptOpen {w : Fin 2} {v : Window} (hw : s.window w = some v) (bmax : Nat) :
    Course D true s (acceptOpen w v bmax s) := by
  have h := course_spend (D := D) (a := true) (x := { v with
      state := .active
      run := some { bmax := bmax, next := (v.range.getD (0, 0)).1, remaining := (v.range.getD (0, 0)).2,
                    expected := 1, last := none, erase := true }
      reservations := v.reservations - 1 }) hw rfl rfl
    (.downloadOpened (v.range.getD (0, 0)).1 (v.range.getD (0, 0)).2) (some v.grant) (some v.slot) (some v.channel)
  exact (h.trans (course_reportActive _ _ _)).trans (course_suspendTest _ _)

theorem course_blockAnswered {w : Fin 2} {v : Window} (hw : s.window w = some v) :
    Course D a s (blockAnswered w v s) := by
  unfold blockAnswered
  split
  · exact course_setWindow hw (by rfl) (by rfl)
  · exact .refl

theorem course_inspectReply (x : ChannelExchange) (form : ReplyForm) (msg data : List Byte) (s : State) :
    Course D true s (inspectReply x form msg data s).1 := by
  unfold inspectReply
  split
  · exact .refl
  · split
    · exact .refl
    · next v hv =>
      dsimp only
      repeat' split
      all_goals with_reducible first
        | exact .refl
        | exact .trans (course_closeLinked _ _ _) (course_endPending ((closeLinked_window _ _ _ _).trans hv) _ _ _)
        | exact course_acceptOpen hv _
        | exact course_endPendingSilent hv rfl _
        | exact course_endActive hv _ _ _
        | exact course_blockAnswered hv

theorem course_passReply {x : ChannelExchange} (hx : Holds s x) (form : ReplyForm) (first : Ssx) (data : List Byte) :
    Course D a s (passReply x form first data s) := by
  unfold passReply
  split
  · exact course_offerThen _ _ rfl fun _ ht => course_setStamp (hx.moved ht (by rfl) (by rfl))
  · exact course_offerThen _ _ rfl fun _ _ => course_closeExchange _ _ _

theorem course_takeReply {x : ChannelExchange} (hx : Holds s x) (first : Ssx) (msg data : List Byte) :
    Course D true s (takeReply x first msg data s) := by
  unfold takeReply
  dsimp only
  split
  · repeat' split
    · exact course_closeExchange _ _ _
    · exact course_passReply (hx.moved (by rfl) (by rfl) (by rfl)) _ _ _
    · exact course_offerThen _ _ rfl fun _ ht => course_setChannel (hx.moved ht (by rfl) (by rfl))
  · have h : Course D true s (inspectReply { x with timer := .stopped } (replyForm x.code msg) msg data
        (setChannelExchange { x with timer := .stopped } s)).1 :=
      .trans (course_setChannel (hx.moved (by rfl) (by rfl) (by rfl))) (course_inspectReply _ _ _ _ _)
    split
    · next e => rw [e] at h; exact h
    · next e =>
      rw [e] at h
      split
      · next y hy => exact h.trans (course_passReply (Holds.of_owned hy) _ _ _)
      · exact h

theorem course_replyFollow {x : ChannelExchange} (hx : Holds s x) (i : Nat) (msg data : List Byte) :
    Course D a s (replyFollow x i msg data s) := by
  unfold replyFollow
  dsimp only
  split
  · refine course_offerThen _ _ rfl fun t ht => ?_
    split
    · exact course_setChannel (hx.moved ht (by rfl) (by rfl))
    · exact course_closeExchange _ _ _
  · exact course_offerThen _ _ rfl fun _ ht => course_setStamp (hx.moved ht (by rfl) (by rfl))

theorem course_outboundPace {x : ChannelExchange} (hx : Holds s x) (i code gap : Nat) :
    Course D a s (outboundPace x i code gap s) := by
  unfold outboundPace blockRefused
  dsimp only
  split
  · exact course_sendFollows _ (hx.moved (by rfl) (by rfl) (by rfl))
  · split
    · exact course_setChannel (hx.moved (by rfl) (by rfl) (by rfl))
    · split
      · exact course_closeExchange _ _ _
      · split
        · exact course_closeExchange _ _ _
        · next v hv =>
          exact .trans (course_closeLinked _ _ _) (course_endActive ((closeLinked_window _ _ _ _).trans hv) _ _ _)

theorem course_toolPending {x : ChannelExchange} (hx : Holds s x) (data : List Byte) :
    Course D a s (toolPending x data s) := by
  unfold toolPending
  repeat' split
  all_goals with_reducible first
    | exact course_gatewayReply _ _ _ _
    | exact course_stagingFrame hx _
    | exact course_requestFollow hx _ _ _
    | exact course_replyPace hx _ _ _ _
    | exact course_closeExchange _ _ _

theorem course_dropLate (c : Fin 16) (s : State) : Course D a s (dropLate c s) :=
  course_count _ countersInRange_addLate s

theorem course_controllerFrame (c : Fin 16) (data : List Byte) (s : State) :
    Course D true s (controllerFrame c data s) := by
  unfold controllerFrame
  split
  · next x hx =>
    have hh := Holds.of_channel hx
    unfold controllerPending
    repeat' split
    all_goals with_reducible first
      | exact course_dropLate _ _
      | exact course_outboundPace hh _ _ _
      | exact course_requestPace hh _ _ _ _
      | exact course_takeReply hh _ _ _
      | exact course_replyFollow hh _ _ _
      | exact course_closeExchange _ _ _
  · exact course_dropLate _ _

end Sys2Proof.Machine
end

section
/-! The course of the Management Agent's and the Frame Router's work, and the one update that stands outside every course:
a window taken for an admitted Open. -/

namespace Sys2Proof.Machine

open Sys2Proof Sys2Proof.Safety

variable {D : Prop} {a : Bool} {s t : State}

/-! ### Management messages (R53, R152, R153) -/

theorem course_mgmtLost (m : Mgmt) (part : MgmtPart) (owner : Nat) (s : State) :
    Course D a s (mgmtLost m part owner s) := by
  cases part
  · exact (course_closeMgmt _ _).trans (course_mgmtFrameGone _ _)
  · exact course_setSide _ _ _
  · exact .refl

theorem course_offerMgmt (m : Mgmt) (part : MgmtPart) {f : OutFrame} (hf : f.released = false) {go : State → State}
    (h : ∀ t, t.exchanges = s.exchanges → Course D a t (go t)) : Course D a s (offerMgmt m part f go s) := by
  unfold offerMgmt
  split
  · exact (course_offerState _ hf s).trans (h _ (by simp))
  · exact (course_offerState _ hf s).trans (course_mgmtLost _ _ _ _)

theorem course_offerMgmtAll (m : Mgmt) (part : MgmtPart) {go : State → State} :
    ∀ (l : List OutFrame) {s : State}, (∀ f ∈ l, f.released = false) →
      (∀ t, t.exchanges = s.exchanges → Course D a t (go t)) → Course D a s (offerMgmtAll m part go l s)
  | [], s, _, h => h s rfl
  | f :: l, s, hl, h => course_offerMgmt m part (hl f (by simp)) fun t ht =>
      course_offerMgmtAll m part l (fun g hg => hl g (by simp [hg])) fun u hu => h u (hu.trans ht)

theorem course_looseRefusal (m : Mgmt) (id : Ident) (code : Byte) (r : Refuse) (s : State) :
    Course D a s (looseRefusal m id code r s) := course_offerMgmt _ _ rfl fun _ _ => .refl

theorem course_refuse (x : MgmtExchange) (r : Refuse) (s : State) : Course D a s (refuse x r s) := course_answer _ _ _

theorem course_accept (x : MgmtExchange) (fields : List Byte) (s : State) : Course D a s (accept x fields s) :=
  course_answer _ _ _

theorem course_judgeRequest (x : MgmtExchange) (s : State) : Course D a s (judgeRequest x s) := by
  unfold judgeRequest
  split
  · exact course_refuse _ _ _
  · exact .refl

theorem HoldsMgmt.joined (x : MgmtExchange) (s : State) : HoldsMgmt (joinMgmt x s) x := ⟨x, by simp, rfl, rfl⟩

theorem course_openUnit {m : Mgmt} (hm : mgmtExchange s m = none) (msg : List Byte) :
    Course D a s (openUnit m msg s) := (course_joinMgmt rfl hm).trans (course_judgeRequest _ _)

theorem course_openLead {m : Mgmt} (hm : mgmtExchange s m = none) (count : Nat) (msg : List Byte) :
    Course D a s (openLead m count msg s) :=
  (course_joinMgmt rfl hm).trans (course_offerMgmt _ _ rfl fun _ ht =>
    course_setMgmtStamp ((HoldsMgmt.joined (freshMgmt s m msg .receiving) s).moved ht (by rfl) (by rfl)))

theorem course_requestBroken (x : MgmtExchange) (s : State) : Course D a s (requestBroken x s) :=
  (course_closeMgmt _ _).trans (course_looseRefusal _ _ _ _ _)

theorem course_gatherFollow {x : MgmtExchange} (hx : HoldsMgmt s x) (i : Nat) (msg : List Byte) :
    Course D a s (gatherFollow x i msg s) := by
  unfold gatherFollow
  dsimp only
  split
  · split
    · exact .trans (course_setMgmt (hx.moved (by rfl) (by rfl) (by rfl))) (course_judgeRequest _ _)
    · exact course_setMgmt (hx.moved (by rfl) (by rfl) (by rfl))
  · exact course_requestBroken _ _

theorem course_beginReply {x : MgmtExchange} (hx : HoldsMgmt s x) (reply : List Byte) :
    Course D a s (beginReply x reply s) :=
  course_offerMgmt _ _ rfl fun _ ht => course_setMgmtStamp (hx.moved ht (by rfl) (by rfl))

theorem course_replyFollows (n : Nat) {x : MgmtExchange} (hx : HoldsMgmt s x) :
    Course D a s (replyFollows n x s) := by
  refine course_offerMgmtAll _ _ _ (fun f hf => ?_) fun _ ht => course_setMgmtStamp (hx.moved ht (by rfl) (by rfl))
  obtain ⟨g, -, rfl⟩ := List.mem_map.1 hf
  rfl

theorem course_answeringPace {x : MgmtExchange} (hx : HoldsMgmt s x) (i code gap : Nat) :
    Course D a s (answeringPace x i code gap s) := by
  unfold answeringPace
  split
  · split
    · exact course_replyFollows _ (hx.moved (by rfl) (by rfl) (by rfl))
    · split
      · exact course_setMgmt (hx.moved (by rfl) (by rfl) (by rfl))
      · exact course_closeMgmt _ _
  · exact course_closeMgmt _ _

theorem course_beginSide (m : Mgmt) (msg : List Byte) (s : State) : Course D a s (beginSide m msg s) :=
  ((course_nextStamp s).trans (course_nextStamp _)).trans
    (course_offerMgmt _ _ rfl fun _ _ => course_setSide _ _ _)

theorem course_sideFollows (n : Nat) (m : Mgmt) (id : Nat) (g : Seg) (msg : List Byte) (s : State) :
    Course D a s (sideFollows n m id g msg s) := by
  refine course_offerMgmtAll _ _ _ (fun f hf => ?_) fun _ _ => (course_setSide _ _ _).trans (course_nextStamp _)
  obtain ⟨g, -, rfl⟩ := List.mem_map.1 hf
  rfl

theorem course_sidePace (m : Mgmt) (id : Nat) (g : Seg) (msg : List Byte) (t : Option Nat) (i code gap : Nat)
    (s : State) : Course D a s (sidePace m id g msg t i code gap s) := by
  unfold sidePace
  split
  · split
    · exact course_sideFollows _ _ _ _ _ _
    · split <;> exact course_setSide _ _ _
  · exact course_setSide _ _ _

theorem course_mgmtPace (m : Mgmt) (p : Option (Nat × Nat × Nat)) (s : State) : Course D a s (mgmtPace m p s) := by
  unfold mgmtPace
  split
  · split
    · exact course_sidePace _ _ _ _ _ _ _ _ _
    · exact course_setSide _ _ _
  · split
    · exact .refl
    · next x hx =>
      split
      · exact course_requestBroken _ _
      · exact .refl
      · exact course_answeringPace (HoldsMgmt.of_mgmt hx) _ _ _
      · exact course_closeMgmt _ _

theorem course_mgmtBad (m : Mgmt) (k : BadKind) (s : State) : Course D a s (mgmtBad m k s) := by
  have hs : Course D a s (sideBad m k s) := by
    unfold sideBad
    split
    · exact course_setSide _ _ _
    · exact .refl
  refine hs.trans (show Course D a _ (exchangeBad m k (sideBad m k s)) from ?_)
  unfold exchangeBad
  split
  · exact .refl
  · split
    · exact course_requestBroken _ _
    · exact .refl
    · split
      · exact .refl
      · exact course_closeMgmt _ _

/-- A frame of a management channel (R52, R53, R56, R152, R153). -/
theorem course_mgmtFrame (m : Mgmt) (data : List Byte) (s : State) : Course D a s (mgmtFrame m data s) := by
  unfold mgmtFrame
  split
  · exact course_mgmtPace _ _ _
  · exact course_mgmtPace _ _ _
  · exact course_mgmtBad _ _ _
  · split
    · exact course_openUnit ‹_› _
    · split
      · exact course_setSide _ _ _
      · exact course_looseRefusal _ _ _ _ _
  · split
    · exact course_openLead ‹_› _ _
    · exact course_looseRefusal _ _ _ _ _
  · split
    · exact .refl
    · next x hx =>
      split
      · exact course_gatherFollow (HoldsMgmt.of_mgmt hx) _ _
      · exact .refl

/-! ### A window taken for an Open (R113) -/

/-- What an Open's admission has found: no window on its channel, a free window, and room for its two entries. -/
structure Takes (s : State) (c : Fin 16) (w : Fin 2) : Prop where
  free    : s.window w = none
  channel : windowOn s c = none
  room    : 2 ≤ freeRoom s

theorem judgeOpening_opening {c : Fin 16} {first : Ssx} {x : Grant} {g : Nat} {k : Fin 8} {w : Fin 2}
    (h : judgeOpening s c first x = .opening g k w) : Takes s c w := by
  unfold judgeOpening at h
  split at h
  · next hc hw =>
    split at h
    · cases h
    · split at h
      · cases h
      · next hr =>
        cases h
        refine ⟨?_, hc, by omega⟩
        unfold freeWindow at hw
        split at hw
        · next h0 => cases hw; exact h0
        · split at hw
          · next h1 => cases hw; exact h1
          · cases hw
  · cases h

theorem judgeClass_opening {c : Fin 16} {cls : ServiceClass} {role : Option Role} {first : Ssx} {g : Nat} {k : Fin 8}
    {w : Fin 2} (h : judgeClass s c cls role first = .opening g k w) : Takes s c w := by
  unfold judgeClass at h
  dsimp only at h
  split at h
  · cases h
  · split at h
    · cases h
    · split at h
      · exact judgeOpening_opening h
      · cases h

theorem judgeStep_ne_opening (c : Fin 16) (role : Role) (first : Ssx) (g : Nat) (k : Fin 8) (w : Fin 2) :
    judgeStep s c role first ≠ .opening g k w := by
  unfold judgeStep
  split
  · simp
  · split <;> simp

theorem judgeFirst_opening {c : Fin 16} {code : Byte} {first : Ssx} {g : Nat} {k : Fin 8} {w : Fin 2}
    (h : judgeFirst s c code first = .opening g k w) : Takes s c w := by
  unfold judgeFirst admission at h
  split at h
  · cases h
  · split at h
    · cases h
    · split at h
      · cases h
      · exact absurd h (judgeStep_ne_opening _ _ _ _ _ _)
      · exact absurd h (judgeStep_ne_opening _ _ _ _ _ _)
      · exact absurd h (judgeStep_ne_opening _ _ _ _ _ _)
      · exact judgeClass_opening h

/-- The effect of a command that may take a window: a course, or a window taken and then a course in which no window
becomes ACTIVE. -/
def TakesThen (D : Prop) (s t : State) : Prop :=
  ∃ c g k w, Takes s c w ∧ Course D false (takeWindow c g k w s) t

theorem effect_newRequest {c : Fin 16} (hc : channelExchange s c = none) (first : Ssx) (msg data : List Byte) :
    (∀ a, Course D a s (newRequest c first msg data s)) ∨ TakesThen D s (newRequest c first msg data s) := by
  unfold newRequest
  dsimp only
  split
  · exact .inl fun _ => course_gatewayReply _ _ _ _
  · exact .inl fun _ => .trans (course_joinList rfl hc) (course_passFirst (Holds.joined _ _) _ _)
  · exact .inl fun _ => course_openStep hc _ _ _ _ _
  · next g k w h =>
    have hj : Course D false (takeWindow c g k w s)
        (joinList (freshExchange s.part.stamp c (codeOf msg) .reprogram (some .opening) (some w) .inbound)
          (takeWindow c g k w s)) := course_joinList rfl hc
    exact .inr ⟨c, g, k, w, judgeFirst_opening h, hj.trans (course_passFirst (Holds.joined _ _) _ _)⟩

theorem effect_toolFrame (c : Fin 16) (data : List Byte) (s : State) :
    (∀ a, Course D a s (toolFrame c data s)) ∨ TakesThen D s (toolFrame c data s) := by
  unfold toolFrame
  split
  · next x hx => exact .inl fun _ => course_toolPending (Holds.of_channel hx) _
  · next hc =>
    split
    · exact effect_newRequest hc _ _ _
    · exact effect_newRequest hc _ _ _
    · exact .inl fun _ => .refl

/-! ### The Frame Router (chapter 2) -/

theorem course_offerSignals (n : Net) (f : Frame) (s : State) : Course D a s (offerSignals n f s) :=
  .trans (Inert.course (by constructor <;> rfl)) (course_reportConditions _ _)

theorem course_setMirror (i : Fin 32) (r : MirrorRun) (s : State) : Course D a s (setMirror i r s) :=
  Inert.course (by constructor <;> rfl)

theorem course_offerMirror (f : Frame) (s : State) : Course D a s (offerMirror f s) := course_offerState _ rfl _

theorem course_offerMirrors (n : Net) (f : Frame) (s : State) : Course D a s (offerMirrors n f s) := by
  unfold offerMirrors
  split
  · split
    · unfold mirrorFrame
      dsimp only
      repeat' split
      · exact .refl
      · exact course_offerMirror _ _
      · exact (course_offerMirror _ _).trans (course_setMirror _ _ _)
      · exact course_setMirror _ _ _
      · exact course_setMirror _ _ _
    · exact .refl
  · exact .refl

theorem course_mirrorExpired (i : Fin 32) (s : State) : Course D a s (mirrorExpired i s) := by
  unfold mirrorExpired
  split
  · exact .refl
  · exact course_setMirror _ _ _
  · exact (course_offerMirror _ _).trans (course_setMirror _ _ _)

theorem effect_classifyW (f : Frame) (s : State) :
    (∀ a, Course D a s (classifyW f s)) ∨ TakesThen D s (classifyW f s) := by
  unfold classifyW
  split
  · exact .inl fun _ => course_mgmtFrame _ _ _
  · split
    · exact effect_toolFrame _ _ _
    · exact .inl fun _ => course_count _ countersInRange_addUnroutable _

theorem course_classifyNet (n : Net) (f : Frame) (s : State) : Course D true s (classifyNet n f s) := by
  unfold classifyNet
  split
  · exact course_mgmtFrame _ _ _
  · split
    · exact course_controllerFrame _ _ _
    · exact (course_offerSignals _ _ _).trans (course_offerMirrors _ _ _)

/-- The Router takes a frame of a network (R23). -/
theorem course_routerTakes_net {p : Port} (hp : p ≠ .W) (s : State) : Course D true s (routerTakes p s) := by
  unfold routerTakes
  split
  · exact .refl
  · next f rest hrx =>
    have hpop : portLaw (s.port p) → portLaw { s.port p with rx := rest } := fun ⟨h1, h⟩ => by
      rw [hrx, List.length_cons] at h1
      exact ⟨(Nat.le_succ _).trans h1, h⟩
    refine .trans (course_setPort hpop) ?_
    cases p
    · exact absurd rfl hp
    · exact course_classifyNet _ _ _
    · exact course_classifyNet _ _ _

end Sys2Proof.Machine
end

section
/-! The course of the endings of grants, of the requests and of the rows of ports, lines and timers. -/

namespace Sys2Proof.Machine

open Sys2Proof Sys2Proof.Safety

variable {D : Prop} {a : Bool} {s t : State}

/-! ### The endings of grants (R96, R99, R102, R103) -/

@[simp] theorem appendEnded_table (w : Fin 2) (x : Window) (o : Outcome) (c : EndCause) (s : State) :
    (appendEnded w x o c s).grants = s.grants := by
  rw [appendEnded_eq]
  exact appendInto_grants _ _ _ _ _ _

@[simp] theorem resolveOverlay_grants (c : Fin 16) (s : State) : (resolveOverlay c s).grants = s.grants := by
  unfold resolveOverlay; split <;> rfl

@[simp] theorem removeWindow_table (w : Fin 2) (x : Window) (s : State) :
    (removeWindow w x s).grants.grants = s.grants.grants := by simp [removeWindow]

@[simp] theorem gatewayReply_grants (c : Fin 16) (code : Byte) (r : Nat) (s : State) :
    (gatewayReply c code r s).grants = s.grants := by rw [gatewayReply_touches]

@[simp] theorem closeLinked_grants (w : Fin 2) (r : Reason) (s : State) : (closeLinked w r s).grants = s.grants := by
  unfold closeLinked; split <;> simp

/-- The windows a grant is bound to end without a report to it, so the table is as it was (R104). -/
@[simp] theorem abortBound_table (g : Grant) (cause : CloseCause) (s : State) :
    (abortBound g cause s).grants.grants = s.grants.grants := by
  have h : ∀ w, (abortWindow w .notGranted (windowCause cause) false s).grants.grants = s.grants.grants := by
    intro w
    unfold abortWindow
    split
    · unfold endAborted endActive endPending endPendingSilent
      repeat' split
      all_goals simp_all
    · rfl
  unfold abortBound
  split
  · exact h _
  · exact h _
  · rfl
  · rfl

theorem course_abortBound (g : Grant) (cause : CloseCause) (s : State) : Course D a s (abortBound g cause s) := by
  unfold abortBound
  split
  · exact course_abortWindow _ _ _ _ _
  · exact course_abortWindow _ _ _ _ _
  · exact .refl
  · exact .refl

theorem course_answerProof (g : Nat) (reply : List Byte) (s : State) : Course D a s (answerProof g reply s) := by
  unfold answerProof
  split
  · split
    · exact course_answer _ _ _
    · exact .refl
  · exact .refl

@[simp] theorem answerProof_grants (g : Nat) (reply : List Byte) (s : State) :
    (answerProof g reply s).grants = s.grants := by
  unfold answerProof
  repeat' split
  all_goals rfl

/-- A RECORDING grant notes the first cause of its end (R96). -/
theorem regrant_cause (cause : CloseCause) (x : Grant) :
    Regrant a x (if x.cause = none then { x with cause := some cause } else x) := by
  split <;> exact ⟨rfl, .inl rfl, rfl, id, .same _⟩

theorem course_endGrant (cause : CloseCause) {g : Grant} (hg : D → g ∈ s.grants.grants) :
    Course D a s (endGrant cause g s) := by
  unfold endGrant
  split
  · next hc => exact .trans (.single (.checkingEnds g fun hD => ⟨hg hD, hc⟩)) (course_answerProof _ _ _)
  · exact .single (.grant _ _ fun x _ => regrant_cause cause x)
  · next hc _ =>
    exact .trans (course_abortBound _ _ _) (.single (.grantClosed g cause fun hD =>
      ⟨g, by simpa using hg hD, rfl, rfl, hc⟩))

theorem mem_modifyFirst_of_neg {α : Type} {p : α → Bool} {f : α → α} {l : List α} {x : α} (hx : x ∈ l)
    (hp : p x = false) : x ∈ modifyFirst p f l := by
  induction l with
  | nil => cases hx
  | cons y l ih =>
    obtain rfl | hx := List.mem_cons.1 hx
    · simp [modifyFirst, hp]
    · by_cases hy : p y = true
      · simp [modifyFirst, hy, hx]
      · simp [modifyFirst, hy, ih hx]

/-- The end of one grant leaves the others in the table. -/
theorem mem_endGrant (cause : CloseCause) {g h : Grant} (hh : h ∈ s.grants.grants) (hn : h.number ≠ g.number) :
    h ∈ (endGrant cause g s).grants.grants := by
  have hp : (h.number == g.number) = false := by simpa using hn
  unfold endGrant
  split
  · rw [answerProof_grants]
    exact (List.mem_eraseP_of_neg (by simp [hp])).2 hh
  · exact mem_modifyFirst_of_neg hh hp
  · simp only [grantClose, relamp_grants, appendInto_grants]
    exact (List.mem_eraseP_of_neg (by simp [hp])).2 (by simpa using hh)

/-- Grants of the table, each of its own number, end one after the other. -/
theorem course_endGrants (cause : CloseCause) {l : List Grant} {s : State}
    (h : D → (l.map (·.number)).Nodup ∧ ∀ g ∈ l, g ∈ s.grants.grants) : Course D a s (endGrants cause l s) := by
  induction l generalizing s with
  | nil => exact .refl
  | cons g l ih =>
    refine .trans (course_endGrant cause fun hD => (h hD).2 g (by simp)) (ih fun hD => ?_)
    obtain ⟨hn, hl⟩ := h hD
    rw [List.map_cons, List.nodup_cons] at hn
    exact ⟨hn.2, fun k hk => mem_endGrant cause (hl k (by simp [hk])) fun e => hn.1 (e ▸ List.mem_map_of_mem hk)⟩

theorem mem_endGrants (cause : CloseCause) {l : List Grant} {h : Grant} {s : State} (hh : h ∈ s.grants.grants)
    (hn : ∀ g ∈ l, h.number ≠ g.number) : h ∈ (endGrants cause l s).grants.grants := by
  induction l generalizing s with
  | nil => exact hh
  | cons g l ih => exact ih (mem_endGrant cause hh (hn g (by simp))) fun k hk => hn k (by simp [hk])

theorem course_presenceLost (hd : D → grantNumbersDistinct s) : Course D a s (presenceLost s) := by
  refine .trans (.single .challengeGone) (.trans (course_endGrants _ fun hD => ⟨(hd hD).sublist
    (List.filter_sublist.map _), fun g hg => (List.mem_filter.1 hg).1⟩)
    (course_endGrants _ fun hD => ⟨(hd hD).sublist (List.filter_sublist.map _), fun g hg => ?_⟩))
  obtain ⟨hg, hs⟩ := List.mem_filter.1 hg
  refine mem_endGrants _ hg fun k hk e => ?_
  obtain ⟨hk, hc⟩ := List.mem_filter.1 hk
  obtain rfl : g = k := List.inj_on_of_nodup_map (hd hD) hg hk e
  simp_all

theorem course_debounced (hd : D → grantNumbersDistinct s) : Course D a s (debounced s) := by
  have hi : Course D a s (clearMirrors { s with lines := { s.lines with
      tooldet := s.lines.raw, debounce := 0, tooldetChanged := true } }) := Inert.course (by constructor <;> rfl)
  unfold debounced
  dsimp only
  split
  · exact hi
  · exact hi.trans (course_presenceLost hd)

/-! ### Ports (chapter 1) -/

theorem portLaw_received {x : PortState} {f : Frame} (hl : x.rx.length < 32) (h : portLaw x) :
    portLaw { x with rx := x.rx ++ [f] } := ⟨by simpa using hl, h.2⟩

theorem countersInRange_addReceived (c : Counters) (h : countersInRange c) : countersInRange c.addReceived := by
  obtain ⟨h1, h2, h3, h4, h5, h6, h7⟩ := h
  exact ⟨saturate_le _, h2, h3, h4, h5, h6, h7⟩

theorem countersInRange_addOverrun (c : Counters) (h : countersInRange c) : countersInRange c.addOverrun := by
  obtain ⟨h1, h2, h3, h4, h5, h6, h7⟩ := h
  exact ⟨h1, saturate_le _, h3, h4, h5, h6, h7⟩

theorem countersInRange_addTransmitted (c : Counters) (h : countersInRange c) : countersInRange c.addTransmitted := by
  obtain ⟨h1, h2, h3, h4, h5, h6, h7⟩ := h
  exact ⟨h1, h2, h3, h4, saturate_le _, h6, h7⟩

theorem countersInRange_addWithdrawals (c : Counters) (h : countersInRange c) :
    countersInRange c.addWithdrawals := by
  obtain ⟨h1, h2, h3, h4, h5, h6, h7⟩ := h
  exact ⟨h1, h2, h3, h4, h5, h6, saturate_le _⟩

theorem course_presetQuiet (s : State) : Course D a s (presetQuiet s) := Inert.course (by constructor <;> rfl)

theorem course_receive (p : Port) (f : BusFrame) (s : State) : Course D a s (receive p f s) := by
  unfold receive
  dsimp only
  split
  · exact .refl
  · refine .trans (course_presetQuiet s) (.trans (course_count p countersInRange_addReceived _) ?_)
    split
    · exact course_count p countersInRange_addUnroutable _
    · unfold fifoOffer
      split
      · next hl => exact course_setPort (portLaw_received hl)
      · exact course_count p countersInRange_addOverrun _

theorem headEligible_some {p : Port} {x : PortState} {f : OutFrame} (h : headEligible p x = some f) :
    x.status = .active ∧ ∃ rest, x.out = f :: rest ∧ (p = .W ∨ f.released = true) := by
  unfold headEligible at h
  split at h
  · next ha ho =>
    split at h
    · next hr => cases h; exact ⟨ha, _, ho, hr⟩
    · cases h
  · cases h

/-- The frame behind a head that has been sent is not released yet. -/
theorem portLaw_afterSent {x : PortState} (ha : x.status = .active) (h : portLaw x) : portLaw x.afterSent := by
  obtain ⟨h1, h2, h3, h4, h5, h6, h7⟩ := h
  refine ⟨h1, ?_, fun f hf => h3 f (List.mem_of_mem_tail hf), countersInRange_addTransmitted _ h4,
    fun ha => (Nat.sub_le _ _).trans_lt (h5 ha), fun hw => absurd (ha.symm.trans hw) (by decide), h7⟩
  simp only [PortState.afterSent, List.length_tail]
  omega

theorem course_sentEffect (f : OutFrame) (s : State) : Course D a s (sentEffect f s) := by
  unfold sentEffect channelSent mgmtSent sideSent
  split
  · split
    · next x hx =>
      have hh := Holds.of_owned hx
      repeat' split
      all_goals first
        | exact .refl
        | exact course_setChannel (hh.moved (by rfl) (by rfl) (by rfl))
        | exact course_blockSent hh
    · exact .refl
  · split
    · next x hx =>
      have hh := Holds.of_owned hx
      repeat' split
      all_goals first
        | exact .refl
        | exact course_setChannel (hh.moved (by rfl) (by rfl) (by rfl))
        | exact course_blockSent hh
    · exact .refl
  · refine .trans ?_ (course_mgmtFrameGone _ _)
    split
    · next x hx =>
      have hh := HoldsMgmt.of_owned hx
      repeat' split
      all_goals first
        | exact .refl
        | exact course_setMgmt (hh.moved (by rfl) (by rfl) (by rfl))
        | exact course_closeMgmt _ _
    · exact .refl
  · repeat' split
    all_goals first
      | exact .refl
      | exact course_setSide _ _ _
  · exact .refl
  · exact .refl
  · exact .refl

theorem course_frameSent (p : Port) (s : State) : Course D a s (frameSent p s) := by
  unfold frameSent
  split
  · next f hf =>
    exact .trans (course_presetQuiet s) (.trans (course_setPort (portLaw_afterSent (headEligible_some hf).1))
      (.trans (course_testPort _ _) (course_sentEffect _ _)))
  · exact .refl

theorem setPort_setPort (p : Port) (x y : PortState) (s : State) : (s.setPort p x).setPort p y = s.setPort p y := by
  cases p <;> rfl

theorem course_flushed (p : Port) (f : OutFrame) (s : State) : Course D a s (flushed p f s) := by
  unfold flushed
  repeat' split
  all_goals first
    | exact .refl
    | exact course_closeExchange _ _ _
    | exact (course_closeMgmt _ _).trans (course_mgmtFrameGone _ _)
    | exact course_setSide _ _ _

theorem course_foldl {α : Type} {f : State → α → State} (h : ∀ s x, Course D a s (f s x)) (l : List α) (s : State) :
    Course D a s (l.foldl f s) := by
  induction l generalizing s with
  | nil => exact .refl
  | cons x l ih => exact (h s x).trans (ih _)

theorem course_closeDown (s : State) (id : Nat) : Course D a s (closeDown s id) := by
  unfold closeDown
  split
  · exact course_closeExchange _ _ _
  · exact .refl

theorem course_windowDown (p : Port) (w : Fin 2) (s : State) : Course D a s (windowDown p w s) := by
  unfold windowDown
  split
  · next v hv =>
    split
    · exact course_endAborted hv _ _
    · exact .refl
  · exact .refl

theorem course_raiseWithdrawn (p : Port) (s : State) : Course D a s (raiseWithdrawn p s) := by
  unfold raiseWithdrawn
  split <;> exact course_raise _ _

/-- A port with a failed attempt behind it is withdrawn from 128 on (R7, R8). -/
theorem portLaw_withdrawn {x : PortState} (k : Nat) (h : portLaw x) :
    portLaw { x with status := .withdrawn, out := [], recovery := some 100,
                     counters := x.counters.addDiscarded x.out.length, fault := k } := by
  obtain ⟨h1, h2, h3, h4, h5, h6, h7⟩ := h
  exact ⟨h1, Nat.zero_le _, by simp, countersInRange_addDiscarded _ _ h4, by simp, by simp, by simp⟩

theorem course_withdraw (p : Port) (n : Nat) (s : State) :
    Course D a s (withdraw p (s.setPort p { s.port p with fault := n })) := by
  unfold withdraw
  dsimp only
  rw [setPort_setPort, setPort_port_self]
  exact .trans (course_setPort (portLaw_withdrawn n)) (.trans (course_foldl (fun s f => course_flushed p f s) _ _)
    (.trans (course_count p countersInRange_addWithdrawals _) (.trans (course_foldl course_closeDown _ _)
      (.trans (course_windowDown _ _ _) (.trans (course_windowDown _ _ _) (course_raiseWithdrawn _ _))))))

theorem course_transmissionFailed (p : Port) (s : State) : Course D a s (transmissionFailed p s) := by
  unfold transmissionFailed
  split
  · dsimp only
    split
    · exact course_withdraw _ _ _
    · next h =>
      exact course_setPort fun ⟨h1, h2, h3, h4, _, h6⟩ => ⟨h1, h2, h3, h4, fun _ => Nat.lt_of_not_le h, h6⟩
  · exact .refl

theorem course_setCredit {n : Net} {v : Nat} (h : v ≤ ceilingOf s.tables.ports n) : Course D a s (s.setCredit n v) :=
  .single (.credit n v h)

theorem course_recover (p : Port) (s : State) : Course D a s (recover p s) := by
  unfold recover
  split
  · have hr : portLaw (s.port p) →
        portLaw { s.port p with status := .active, fault := 0, out := [], recovery := none } :=
      fun ⟨h1, _, _, h4, _⟩ => ⟨h1, Nat.zero_le _, by simp, h4, by simp, by simp, by simp⟩
    refine .trans (course_setPort hr) ?_
    generalize hu : s.setPort p { s.port p with status := .active, fault := 0, out := [], recovery := none } = u
    cases p
    · exact .refl
    · exact course_setCredit (n := .E) le_rfl
    · exact course_setCredit (n := .C) le_rfl
  · exact .refl

theorem course_refill (n : Net) (s : State) : Course D a s (refill n s) :=
  (course_setCredit (Nat.min_le_left _ _)).trans (.single (.release n))

end Sys2Proof.Machine
end

section
/-! The course of the requests, and of every command whose effect is a course. -/

namespace Sys2Proof.Machine

open Sys2Proof Sys2Proof.Safety

variable {D : Prop} {a : Bool} {s t : State}

/-! ### Entries read from their images are within their ranges (R159) -/

/-- The number that bytes spell, byte by byte. -/
theorem beNat_append_singleton (l : List Byte) (b : Byte) : beNat (l ++ [b]) = beNat l * 256 + b.toNat := by
  simp [beNat]

theorem beNat_lt (l : List Byte) : beNat l < 256 ^ l.length := by
  induction l using List.reverseRecOn with
  | nil => simp [beNat]
  | append_singleton l b ih =>
    rw [beNat_append_singleton, List.length_append, List.length_singleton, pow_succ]
    have := b.isLt
    omega

theorem fieldAt_lt (l : List Byte) (i k : Nat) : fieldAt l i k < 256 ^ k :=
  (beNat_lt _).trans_le (Nat.pow_le_pow_right (by decide) (List.length_take_le _ _))

theorem portSettingsValid_of_decode {b : List Byte} {e : PortSettings} (h : decodePortSettings b = some e) :
    portSettingsValid e := by
  unfold decodePortSettings at h
  dsimp only at h
  split at h
  · cases h
  · split at h
    · split at h
      · next hr => cases h; exact hr
      · cases h
    · cases h

theorem channelValid_of_decode {b : List Byte} {e : ChannelEntry} (h : decodeChannel b = some e) :
    channelValid e := by
  unfold decodeChannel at h
  dsimp only at h
  split at h
  · cases h
  · split at h
    · split at h
      · next hr =>
        cases h
        obtain ⟨-, -, h1, h2, h3, h4, h5, h6, h7, h8⟩ := hr
        exact ⟨h1, h2, h3, h4, h5, h6, h7, by simpa using h8⟩
      · cases h
    · cases h

theorem codeValid_of_decode {b : List Byte} {e : CodeEntry} (h : decodeCode b = some e) : codeValid e := by
  unfold decodeCode at h
  split at h
  · cases h
  · split at h
    · next c r _ _ =>
      split at h
      · next hr =>
        cases h
        show c = .reprogram ↔ r.isSome = true
        rw [← hr, decide_eq_true_eq]
      · cases h
    · cases h

theorem policyValid_of_decode {i : Fin 5} {b : List Byte} {e : PolicyEntry} (h : decodePolicy i b = some e) :
    policyValid i e := by
  unfold decodePolicy at h
  split at h
  · cases h
  · split at h
    · next g _ =>
      split at h
      · next hr =>
        cases h
        intro hi
        by_contra hg
        exact hr.2 ⟨hi, by simpa using hg⟩
      · cases h
    · cases h

theorem signalValid_of_decode {b : List Byte} {e : SignalEntry} (h : decodeSignal b = some e) : signalValid e := by
  unfold decodeSignal at h
  dsimp only at h
  split at h
  · cases h
  · split at h
    · next wide _ _ _ _ _ _ _ _ =>
      split at h
      · next hr =>
        cases h
        obtain ⟨h1, h2, h3, h4, h5, h6⟩ := hr
        have hlo := fieldAt_lt b 13 2
        have hhi := fieldAt_lt b 15 2
        refine ⟨h1, h2, h3, h4, ?_, ?_, h6⟩
        all_goals
          dsimp only
          split <;> simp_all
          omega
      · cases h
    · cases h

theorem mirrorValid_of_decode {b : List Byte} {e : MirrorEntry} (h : decodeMirror b = some e) : mirrorValid e := by
  unfold decodeMirror at h
  split at h
  · cases h
  · split at h
    · split at h
      · next hr => cases h; exact hr
      · cases h
    · cases h

theorem regionValid_of_decode {b : List Byte} {r : Region} (h : decodeRegion b = some r) : regionValid r := by
  unfold decodeRegion at h
  dsimp only at h
  split at h
  · split at h
    · next hr =>
      cases h
      refine ⟨fieldAt_lt b 1 4, fieldAt_lt b 5 4, fun hl => ?_⟩
      obtain rfl | ⟨h1, h2, h3, -, h5⟩ := hr
      · cases hl
      · exact ⟨h1, h2, h3, h5⟩
    · cases h
  · cases h

theorem mapValid_of_decode {b : List Byte} {m : RegionMap} (h : decodeMap b = some m) : mapValid m := by
  unfold decodeMap at h
  dsimp only at h
  split at h
  · cases h
  · split at h
    · next h0 h1 h2 =>
      split at h
      · next hr =>
        cases h
        obtain ⟨hl, hp⟩ := hr
        refine ⟨fieldAt_lt b 1 4, fieldAt_lt b 5 1, hl, fun hpr => ?_, fun i => ?_⟩
        · obtain rfl | hp := hp
          · cases hpr
          · exact hp
        · match i with
          | 0 => exact regionValid_of_decode h0
          | 1 => exact regionValid_of_decode h1
          | 2 => exact regionValid_of_decode h2
      · cases h
    · cases h

/-- An entry that is read is within the ranges of its table's rule. -/
theorem entryValid_of_read {k : TableId} {n : Nat} {b : List Byte} {e : TableEntry} (h : readEntry k n b = some e) :
    entryValid e := by
  cases k <;> simp only [readEntry] at h <;> split at h <;> try cases h
  all_goals
    obtain ⟨x, hx, rfl⟩ := Option.map_eq_some_iff.1 h
  · exact portSettingsValid_of_decode hx
  · exact channelValid_of_decode hx
  · exact codeValid_of_decode hx
  · exact policyValid_of_decode hx
  · exact signalValid_of_decode hx
  · exact mirrorValid_of_decode hx
  · exact mapValid_of_decode hx

end Sys2Proof.Machine
end

section
/-! Every command whose effect is a course of moves, and the course it takes. -/

namespace Sys2Proof.Machine

open Sys2Proof Sys2Proof.Safety

variable {D : Prop} {a : Bool} {s t : State}

/-! ### Requests (R154) -/

theorem servable_some {m : Mgmt} {code : Nat} {x : MgmtExchange} (h : servable s m code = some x) :
    mgmtExchange s m = some x := by
  unfold servable at h
  split at h
  · next y hy =>
    split at h
    · cases h; exact hy
    · cases h
  · cases h

/-- A request that is served takes the course its row gives it. -/
theorem course_serve {m : Mgmt} {code : Nat} {f : MgmtExchange → State → State}
    (h : ∀ x, HoldsMgmt s x → Course D a s (f x s)) : Course D a s (serve m code f s) := by
  unfold serve
  split
  · next x hx => exact h x (HoldsMgmt.of_mgmt (servable_some hx))
  · exact .refl

theorem course_whenAwake {f : State → State} (h : Course D a s (f s)) : Course D a s (whenAwake s f) := by
  unfold whenAwake
  split
  · exact h
  · exact .refl

theorem course_setWork {x : MgmtExchange} (hx : HoldsMgmt s x) (w : Work) : Course D a s (setWork x w s) :=
  course_setMgmt (hx.moved (by rfl) (by rfl) (by rfl))

theorem course_push {r : StoreRequest} (h : RequestSound s r) : Course D a s (pushStore r s) := .single (.push r h)

/-- A request that joins the store request queue waits for its operation. -/
theorem course_pushWork {x : MgmtExchange} (hx : HoldsMgmt s x) {r : StoreRequest} (h : RequestSound s r) :
    Course D a s (setWork x .awaitStore (pushStore r s)) := (course_push h).trans (course_setWork (hx.moved (by rfl) (by rfl) (by rfl)) _)

theorem clampDuration_range (n : Nat) : 60 ≤ clampDuration n ∧ clampDuration n ≤ 14400 := by
  unfold clampDuration; omega

theorem course_issueChallenge {n : Nat} (slot : Fin 8) (channels : BitVec 16) (classes : BitVec 6)
    (hl : s.grants.lockout = none) (hp : proofInProgress s = false) (hn : s.grants.grants.length < 8) :
    Course D a s (issueChallenge slot channels classes (clampDuration n) s) := by
  obtain ⟨h1, h2⟩ := clampDuration_range n
  refine .trans (.single (.challengeIssued ⟨slot, channels, classes, clampDuration n, drawChallenge s, 30000⟩ hl hp hn
    h1 h2)) (Inert.course ?_)
  constructor <;> rfl

theorem course_accessRequest (m : Mgmt) (x : MgmtExchange) (s : State) : Course D a s (accessRequest m x s) := by
  unfold accessRequest
  dsimp only
  repeat' split
  all_goals first
    | exact course_refuse _ _ _
    | skip
  next _ hl hb _ _ _ hn _ =>
    refine .trans (course_issueChallenge _ _ _ (by simpa using hl) ?_ (by omega)) (course_accept _ _ _)
    by_contra h
    exact hb (by simp [Bool.eq_true_of_not_eq_false h])

/-- The effect of an Access Proof: a course, or a digest started on the consumed challenge and then a course. -/
def StartsThen (D : Prop) (s t : State) : Prop :=
  ∃ ch tag, s.grants.challenge = some ch ∧ s.grants.lockout = none ∧
    Course D false (startDigest (freeNumber s.grants.grants) ch tag s) t

theorem effect_accessProof (m : Mgmt) {x : MgmtExchange} (hx : HoldsMgmt s x) :
    Course D true s (accessProof m x s) ∨ StartsThen D s (accessProof m x s) := by
  unfold accessProof
  dsimp only
  split
  · exact .inl (course_refuse _ _ _)
  · split
    · exact .inl (course_refuse _ _ _)
    · next hl =>
      split
      · exact .inl (course_refuse _ _ _)
      · next ch hch =>
        split
        · exact .inl ((Move.challengeGone).course.trans (course_refuse _ _ _))
        · exact .inr ⟨ch, _, hch, by simpa using hl, course_setWork (hx.moved (by rfl) (by rfl) (by rfl)) _⟩

theorem course_grantExtend (m : Mgmt) (x : MgmtExchange) (s : State) : Course D a s (grantExtend m x s) := by
  unfold grantExtend
  dsimp only
  repeat' split
  all_goals first
    | exact course_refuse _ _ _
    | skip
  next g hg _ he =>
    refine .trans (.single (.grant _ _ fun y hy => ?_)) (course_accept _ _ _)
    obtain rfl : g = y := Option.some.inj (hg.symm.trans hy)
    exact ⟨rfl, .inl rfl, rfl, fun ⟨h1, h2, h3, _, _⟩ => ⟨h1, h2, h3, Nat.min_le_left _ _, by
      show g.extensions + 1 ≤ 3
      omega⟩, .same _⟩

theorem course_grantRevoke (hd : D → grantNumbersDistinct s) (x : MgmtExchange) :
    Course D a s (grantRevoke x s) := by
  unfold grantRevoke
  dsimp only
  split
  · exact .trans (course_endGrants _ fun hD => ⟨hd hD, fun _ h => h⟩) (course_accept _ _ _)
  · split
    · exact course_refuse _ _ _
    · next g hg => exact .trans (course_endGrant _ fun _ => (findGrant_some hg).1) (course_accept _ _ _)

theorem course_credentialWrite (m : Mgmt) {x : MgmtExchange} (hx : HoldsMgmt s x) :
    Course D a s (credentialWrite m x s) := by
  unfold credentialWrite
  dsimp only
  repeat' split
  all_goals first
    | exact course_refuse _ _ _
    | exact course_pushWork hx trivial

theorem course_credentialWithdraw (m : Mgmt) {x : MgmtExchange} (hx : HoldsMgmt s x) :
    Course D a s (credentialWithdraw m x s) := by
  unfold credentialWithdraw
  dsimp only
  repeat' split
  all_goals first
    | exact course_refuse _ _ _
    | exact course_pushWork hx trivial

theorem writtenEntry_valid {b : List Byte} {e : TableEntry} (h : writtenEntry s b = some e) : entryValid e := by
  unfold writtenEntry at h
  split at h
  · cases h
  · split at h
    · next e' he =>
      split at h
      · cases h
      · cases h; exact entryValid_of_read he
    · cases h

theorem course_writeStored (m : Mgmt) {x : MgmtExchange} (hx : HoldsMgmt s x) : Course D a s (writeStored m x s) := by
  unfold writeStored
  repeat' split
  all_goals first
    | exact course_refuse _ _ _
    | skip
  next e he hc _ => exact course_pushWork hx ⟨writtenEntry_valid he, by simpa using hc⟩

theorem course_lockPolicyWrite (m : Mgmt) {x : MgmtExchange} (hx : HoldsMgmt s x) :
    Course D a s (lockPolicyWrite m x s) := by
  unfold lockPolicyWrite
  repeat' split
  all_goals first
    | exact course_refuse _ _ _
    | exact course_accept _ _ _
    | exact course_pushWork hx trivial

theorem course_recordAcknowledge (m : Mgmt) {x : MgmtExchange} (hx : HoldsMgmt s x) :
    Course D a s (recordAcknowledge m x s) := by
  unfold recordAcknowledge
  dsimp only
  repeat' split
  all_goals first
    | exact course_refuse _ _ _
    | exact course_accept _ _ _
    | exact course_pushWork hx trivial

theorem course_restartRequest (hd : D → grantNumbersDistinct s) (m : Mgmt) {x : MgmtExchange} (hx : HoldsMgmt s x) :
    Course D a s (restartRequest m x s) := by
  unfold restartRequest
  dsimp only
  split
  · exact course_refuse _ _ _
  · split
    · exact course_refuse _ _ _
    · exact .trans (.single .challengeGone) (.trans (course_setWork (hx.moved (by rfl) (by rfl) (by rfl)) _)
        (.trans (course_endGrants _ fun hD => ⟨hd hD, fun _ h => h⟩) (Inert.course (by constructor <;> rfl))))

theorem course_restartReply (s : State) : Course D a s (restartReply s) := by
  unfold restartReply
  split
  · split
    · split
      · next x hx =>
        split
        · exact .trans (Inert.course (by constructor <;> rfl)) (course_beginReply ((HoldsMgmt.of_owned hx).moved (by rfl) (by rfl) (by rfl)) _)
        · exact .refl
      · exact .refl
    · exact .refl
  · exact .refl

theorem course_managementReplyBegins (m : Mgmt) (s : State) : Course D a s (managementReplyBegins m s) := by
  unfold managementReplyBegins
  split
  · exact .refl
  · next x hx =>
    split
    · split
      · exact .refl
      · exact course_beginReply (HoldsMgmt.of_mgmt hx) _
    · exact .refl

theorem course_clearFlags (s : State) : Course D a s (clearFlags s) := Inert.course (by constructor <;> rfl)

theorem course_takeAttention (s : State) : Course D a s (takeAttention s) := Inert.course (by constructor <;> rfl)

theorem course_sideBegins (m : Mgmt) (s : State) : Course D a s (sideBegins m s) := by
  unfold sideBegins
  split
  · next request _ =>
    split
    · exact .refl
    · refine .trans ?_ (course_beginSide _ _ _)
      unfold sideServed
      repeat' split
      · exact .refl
      · exact course_clearFlags _
      · exact course_takeAttention _
  · exact .refl

theorem course_countersRead (x : MgmtExchange) (s : State) : Course D a s (countersRead x s) := by
  unfold countersRead; split <;> exact course_answer _ _ _

theorem course_tableRead (x : MgmtExchange) (s : State) : Course D a s (tableRead x s) := by
  unfold tableRead; split <;> exact course_answer _ _ _

/-! ### Timers (R48, R53, R64, R83, R100, R118, R125 to R127) -/

theorem course_segmentExpired (r : MessageRef) (s : State) : Course D a s (segmentExpired r s) := by
  unfold segmentExpired mgmtExpired
  repeat' split
  all_goals first
    | exact .refl
    | exact course_closeExchange _ _ _
    | exact course_requestBroken _ _
    | exact course_closeMgmt _ _
    | exact course_setSide _ _ _

theorem course_gapPassed (r : MessageRef) (s : State) : Course D a s (gapPassed r s) := by
  unfold gapPassed
  split
  · split
    · next x hx =>
      split
      · exact course_sendFollows _ (Holds.of_channel hx)
      · exact .refl
    · exact .refl
  · split
    · next x hx =>
      split
      · exact course_replyFollows _ (HoldsMgmt.of_mgmt hx)
      · exact .refl
    · exact .refl
  · repeat' split
    all_goals first
      | exact .refl
      | exact course_sideFollows _ _ _ _ _ _

theorem course_replyExpired (c : Fin 16) (s : State) : Course D a s (replyExpired c s) := by
  unfold replyExpired
  repeat' split
  all_goals first
    | exact .refl
    | exact course_closeExchange _ _ _

theorem course_graceExpired (w : Fin 2) (s : State) : Course D a s (graceExpired w s) := by
  unfold graceExpired
  repeat' split
  all_goals first
    | exact .refl
    | exact course_abortWindow _ _ _ _ _

theorem course_holdExpired (w : Fin 2) (s : State) : Course D a s (holdExpired w s) := by
  unfold holdExpired
  split
  · next v x hv hx =>
    split
    · refine .trans (course_setWindow (x := { v with hold := some 2000 }) hv (by rfl) (by rfl)) ?_
      dsimp only
      repeat' split
      · exact course_gatewayReply _ _ _ _
      · exact course_sendWait _ _
      · exact .refl
    · exact .refl
  · exact .refl

theorem course_idleExpired (w : Fin 2) (s : State) : Course D a s (idleExpired w s) := by
  unfold idleExpired
  split
  · next v hv =>
    split
    · exact course_endActive hv _ _ _
    · exact .refl
  · exact .refl

theorem course_signalStale (i : Fin 4) (s : State) : Course D a s (signalStale i s) := by
  unfold signalStale
  dsimp only
  split
  · exact .trans (Inert.course (by constructor <;> rfl)) (course_reportConditions _ _)
  · exact .refl

theorem course_ignonChanges (level : Bool) (s : State) : Course D a s (ignonChanges level s) := by
  unfold ignonChanges
  split
  · exact .refl
  · exact .trans (Inert.course (by constructor <;> rfl)) (course_reportConditions _ _)

theorem course_sampleTooldet (hd : D → grantNumbersDistinct s) (level : Bool) :
    Course D a s (sampleTooldet level s) := by
  unfold sampleTooldet
  dsimp only
  generalize (if level = s.lines.tooldet then 0 else s.lines.debounce + 1) = n
  split
  · exact .trans (Inert.course (by constructor <;> rfl)) (course_debounced hd)
  · exact Inert.course (by constructor <;> rfl)

theorem course_sleepTest (s : State) : Course D a s (sleepTest s) := by
  unfold sleepTest
  split
  · exact Inert.course (by constructor <;> rfl)
  · exact .refl

theorem find?_modifyFirst {α : Type} {p : α → Bool} {f : α → α} (h : ∀ x, p x = true → p (f x) = true) (l : List α) :
    (modifyFirst p f l).find? p = (l.find? p).map f := by
  induction l with
  | nil => rfl
  | cons x l ih => by_cases hx : p x <;> simp [modifyFirst, hx, ih, h]

theorem findGrant_updateGrant_same {n : Nat} {f : Grant → Grant} (h : ∀ x, (f x).number = x.number) (s : State) :
    findGrant (updateGrant n f s) n = (findGrant s n).map f :=
  find?_modifyFirst (fun x hx => by simpa [h x] using hx) _

theorem regrant_remaining (x : Grant) {n : Nat} (hn : n ≤ 14400) (k : Option Nat) :
    Regrant a x { x with remaining := n, seconds := k } :=
  ⟨rfl, .inl rfl, rfl, fun ⟨h1, h2, h3, _, h5⟩ => ⟨h1, h2, h3, hn, h5⟩, .same _⟩

/-- The end of a grant's seconds (R100): it is HELD while it is bound, and otherwise ends. -/
theorem course_secondOver (n : Nat) (s : State) : Course D a s (secondOver n s) := by
  unfold secondOver
  split
  · exact .refl
  · next g hg =>
    split
    · exact .refl
    · next hs =>
      have hact : g.state = .active := by
        by_contra h
        exact hs (.inl h)
      split
      · have h0 : Course D a s (updateGrant n (fun x => { x with remaining := 0 }) s) :=
          .single (.grant n _ fun y _ => regrant_remaining y (Nat.zero_le _) y.seconds)
        have hf : findGrant (updateGrant n (fun x => { x with remaining := 0 }) s) n =
            some { g with remaining := 0 } := 
              (findGrant_updateGrant_same (f := fun x => { x with remaining := 0 }) (fun _ => rfl) s).trans
                (by rw [hg]; rfl)
        have hend := course_endGrant (D := D) (a := a) (g := { g with remaining := 0 }) .expired
          fun _ => (findGrant_some hf).1
        refine h0.trans ?_
        unfold grantExpired
        dsimp only
        split
        · exact hend
        · exact hend
        · refine .single (.grant _ _ fun y hy => ?_)
          rw [(findGrant_some hg).2] at hy
          obtain rfl : { g with remaining := 0 } = y := Option.some.inj (hf.symm.trans hy)
          exact ⟨rfl, .inr ⟨hact, rfl⟩, rfl, fun ⟨h1, h2, h3, _, h5⟩ => ⟨h1, h2, h3, Nat.zero_le _, h5⟩, .same _⟩
      · refine .single (.grant n _ fun y hy => ?_)
        obtain rfl : g = y := Option.some.inj (hg.symm.trans hy)
        exact ⟨rfl, .inl rfl, rfl, fun ⟨h1, h2, h3, h4, h5⟩ => ⟨h1, h2, h3, (Nat.sub_le _ _).trans h4, h5⟩, .same _⟩

end Sys2Proof.Machine
end

section
/-! The commands whose whole effect is a course of moves. -/

namespace Sys2Proof.Machine

open Sys2Proof Sys2Proof.Safety

variable {D : Prop} {a : Bool} {s t : State}

/-- The commands that do more than a course of moves: the starts, the tool's frames (which may open a window), the
proofs, the writes and reloads of working tables, the completions of the digest and of store operations, the end of a lockout and
the lamp's toggle. -/
def beyondMoves : Instr → Bool
  | .coldStart _ | .hotStart _ | .wake _ _ | .routerTakesFrame .W | .accessProof _ | .tableWriteWorking _ | .tableReload _
  | .appendComplete _ | .failureCountWriteComplete _ | .tableEntryWriteComplete _ | .credentialWriteComplete _
  | .credentialWithdrawComplete _ | .lockPolicyWriteComplete _ | .trimComplete _ | .digestComplete | .lockoutExpiry
  | .acclmpToggle => true
  | _ => false

theorem course_transmissionLost (p : Port) (s : State) : Course D a s (transmissionLost p s) := by
  unfold transmissionLost
  split
  · exact course_presetQuiet _
  · exact .refl

theorem course_setRate (p : Port) (s : State) :
    Course D a s (s.setPort p { s.port p with rate := settingsRate s.tables.ports p }) := by
  have h : portLaw (s.port p) → portLaw { s.port p with rate := settingsRate s.tables.ports p } := id
  exact course_setPort h

theorem course_debounceCompletes (hd : D → grantNumbersDistinct s) : Course D a s (debounceCompletes s) := by
  unfold debounceCompletes
  split
  · exact .refl
  · exact course_debounced hd

theorem exec_course (c : Instr) (hc : beyondMoves c = false) (hd : D → grantNumbersDistinct s) :
    ∃ t, exec c s = .next t ∧ Course D true s t := by
  cases c with
  | coldStart _ => cases hc
  | hotStart _ => cases hc
  | wake _ _ => cases hc
  | routerTakesFrame p =>
    have hp : p ≠ .W := by rintro rfl; cases hc
    exact ⟨_, rfl, course_whenAwake (course_routerTakes_net hp s)⟩
  | accessProof _ => cases hc
  | tableWriteWorking _ => cases hc
  | tableReload _ => cases hc
  | appendComplete _ => cases hc
  | failureCountWriteComplete _ => cases hc
  | tableEntryWriteComplete _ => cases hc
  | credentialWriteComplete _ => cases hc
  | credentialWithdrawComplete _ => cases hc
  | lockPolicyWriteComplete _ => cases hc
  | trimComplete _ => cases hc
  | digestComplete => cases hc
  | lockoutExpiry => cases hc
  | acclmpToggle => cases hc
  | frameReceived p f => exact ⟨_, rfl, course_whenAwake (course_receive p f s)⟩
  | mirrorIntervalExpiry i => exact ⟨_, rfl, course_whenAwake (course_mirrorExpired i s)⟩
  | headFrameRelease n => exact ⟨_, rfl, course_whenAwake (Move.release n).course⟩
  | meterRefill => exact ⟨_, rfl, course_whenAwake (.trans (course_refill .E s) (course_refill .C _))⟩
  | frameSent p => exact ⟨_, rfl, course_whenAwake (course_frameSent p s)⟩
  | transmissionLost p => exact ⟨_, rfl, course_whenAwake (course_transmissionLost p s)⟩
  | transmissionFailed p => exact ⟨_, rfl, course_whenAwake (course_transmissionFailed p s)⟩
  | portRecovery p => exact ⟨_, rfl, course_whenAwake (course_recover p s)⟩
  | bitRateChangeEffect p => exact ⟨_, rfl, course_whenAwake (course_setRate p s)⟩
  | ignonChange level => exact ⟨_, rfl, course_whenAwake (course_ignonChanges level s)⟩
  | stlockChange level => exact ⟨_, rfl, course_whenAwake (Inert.course (by constructor <;> rfl))⟩
  | tooldetRawChange level => exact ⟨_, rfl, course_whenAwake (course_sampleTooldet hd level)⟩
  | tooldetDebounceComplete => exact ⟨_, rfl, course_whenAwake (course_debounceCompletes hd)⟩
  | quietTimerExpiry =>
    exact ⟨_, rfl, course_whenAwake (.trans (Inert.course (by constructor <;> rfl)) (course_sleepTest _))⟩
  | enterAsleep => exact ⟨_, rfl, course_whenAwake (course_sleepTest _)⟩
  | replyTimerExpiry c => exact ⟨_, rfl, course_whenAwake (course_replyExpired c s)⟩
  | segmentTimerExpiry r => exact ⟨_, rfl, course_whenAwake (course_segmentExpired r s)⟩
  | gapFollowOffer r => exact ⟨_, rfl, course_whenAwake (course_gapPassed r s)⟩
  | sideAnswerBegins m => exact ⟨_, rfl, course_whenAwake (course_sideBegins m s)⟩
  | managementReplyBegins m => exact ⟨_, rfl, course_whenAwake (course_managementReplyBegins m s)⟩
  | identityRead m => exact ⟨_, rfl, course_serve fun x _ => course_accept _ _ _⟩
  | statusRead m => exact ⟨_, rfl, course_serve fun x _ => (course_clearFlags s).trans (course_accept _ _ _)⟩
  | attentionRead m => exact ⟨_, rfl, course_serve fun x _ => (course_takeAttention s).trans (course_accept _ _ _)⟩
  | countersRead m => exact ⟨_, rfl, course_serve fun x _ => course_countersRead x s⟩
  | trafficList m => exact ⟨_, rfl, course_serve fun x _ => course_accept _ _ _⟩
  | grantList m => exact ⟨_, rfl, course_serve fun x _ => course_accept _ _ _⟩
  | tableRead m => exact ⟨_, rfl, course_serve fun x _ => course_tableRead x s⟩
  | recordRead m => exact ⟨_, rfl, course_serve fun x _ => course_accept _ _ _⟩
  | accessRequest m => exact ⟨_, rfl, course_serve fun x _ => course_accessRequest m x s⟩
  | grantExtend m => exact ⟨_, rfl, course_serve fun x _ => course_grantExtend m x s⟩
  | grantRevoke m => exact ⟨_, rfl, course_serve fun x _ => course_grantRevoke hd x⟩
  | credentialWrite m => exact ⟨_, rfl, course_serve fun x hx => course_credentialWrite m hx⟩
  | credentialWithdraw m => exact ⟨_, rfl, course_serve fun x hx => course_credentialWithdraw m hx⟩
  | tableWriteStored m =>
    refine ⟨_, rfl, course_serve fun x hx => ?_⟩
    split
    · exact course_writeStored m hx
    · exact .refl
  | lockPolicyWrite m => exact ⟨_, rfl, course_serve fun x hx => course_lockPolicyWrite m hx⟩
  | recordAcknowledge m => exact ⟨_, rfl, course_serve fun x hx => course_recordAcknowledge m hx⟩
  | restart m => exact ⟨_, rfl, course_serve fun x hx => course_restartRequest hd m hx⟩
  | restartReplyOffered => exact ⟨_, rfl, course_whenAwake (course_restartReply s)⟩
  | challengeValidityExpiry => exact ⟨_, rfl, course_whenAwake (Move.challengeGone).course⟩
  | grantSecondsTimerExpiry g => exact ⟨_, rfl, course_whenAwake (course_secondOver g.val s)⟩
  | graceTimerExpiry w => exact ⟨_, rfl, course_whenAwake (course_graceExpired w s)⟩
  | holdTimerExpiry w => exact ⟨_, rfl, course_whenAwake (course_holdExpired w s)⟩
  | idleTimerExpiry w => exact ⟨_, rfl, course_whenAwake (course_idleExpired w s)⟩
  | stalenessTimerExpiry i => exact ⟨_, rfl, course_whenAwake (course_signalStale i s)⟩
  | partTimeTick => exact ⟨_, rfl, Inert.course (by constructor <;> rfl)⟩

end Sys2Proof.Machine
end

section
/-! What the commands that do more than a course of moves are made of, the updates of the Store Controller, of the Digest
Unit and of the working copies, as one relation `Deed`; and the shape of the shared updates, by which the laws are read
off them. -/

namespace Sys2Proof.Machine

open Sys2Proof Sys2Proof.Safety

variable {D : Prop} {a : Bool} {s t : State}

/-! ### The shapes of the shared updates -/

/-- An append to the record takes at most a place in the queue, and moves the numbering mark and the unrecorded count. -/
theorem writeEntry_shape (d : Detail) (g : Option Nat) (k : Option (Fin 8)) (c : Option (Fin 16)) (s : State) :
    ∃ q m n, writeEntry d g k c s = { s with
      store := { s.store with queue := s.store.queue ++ q }
      record := { s.record with mark := m, unrecorded := n } } ∧ (q = [] ∨ ∃ e, q = [.append e]) := by
  by_cases h : s.store.queue.length < 16
  · exact ⟨_, _, _, writeEntry_room h d g k c, .inr ⟨_, rfl⟩⟩
  · refine ⟨[], s.record.mark, saturate (s.record.unrecorded + 1), (writeEntry_full (by omega) d g k c).trans ?_, .inl rfl⟩
    rw [List.append_nil]
    rfl

theorem appendEntry_shape (d : Detail) (g : Option Nat) (k : Option (Fin 8)) (c : Option (Fin 16)) (s : State) :
    ∃ q m n, appendEntry d g k c s = { s with
      store := { s.store with queue := s.store.queue ++ q }
      record := { s.record with mark := m, unrecorded := n } } ∧ (q = [] ∨ ∃ e, q = [.append e]) := by
  by_cases h : occupied s < 128
  · rw [appendEntry_room h]
    exact writeEntry_shape d g k c s
  · refine ⟨[], s.record.mark, saturate (s.record.unrecorded + 1), (appendEntry_full (by omega) d g k c).trans ?_, .inl rfl⟩
    rw [List.append_nil]
    rfl

theorem appendInto_shape (b : Bool) (d : Detail) (g : Option Nat) (k : Option (Fin 8)) (c : Option (Fin 16))
    (s : State) : ∃ q m n, appendInto b d g k c s = { s with
      store := { s.store with queue := s.store.queue ++ q }
      record := { s.record with mark := m, unrecorded := n } } ∧ (q = [] ∨ ∃ e, q = [.append e]) := by
  cases b
  · exact appendEntry_shape d g k c s
  · exact writeEntry_shape d g k c s

/-- The close of a grant takes it off the table with an entry, and brings the lamp up to date. -/
theorem grantClose_shape (g : Grant) (cause : CloseCause) (s : State) :
    ∃ q m n l, grantClose g cause s = { s with
      grants := { s.grants with grants := s.grants.grants.eraseP (fun x => x.number == g.number), lamp := l }
      store := { s.store with queue := s.store.queue ++ q }
      record := { s.record with mark := m, unrecorded := n } } ∧ (q = [] ∨ ∃ e, q = [.append e]) := by
  obtain ⟨q, m, n, h, hq⟩ := appendInto_shape g.reservation (.grantClosed cause) (some g.number) (some g.slot) none
    (dropGrant g.number s)
  refine ⟨q, m, n, (grantClose g cause s).grants.lamp, ?_, hq⟩
  unfold grantClose
  rw [h]
  rfl

/-- The maps once the overlay of a channel has been resolved (R111). -/
def resolvedMaps (s : State) (c : Fin 16) : Vector RegionMap 16 :=
  match s.inspector.overlays.get c with
  | some m => put s.tables.maps c m
  | none => s.tables.maps

/-- The overlays once that of a channel has been resolved. -/
def resolvedOverlays (s : State) (c : Fin 16) : Vector (Option RegionMap) 16 :=
  match s.inspector.overlays.get c with
  | some _ => put s.inspector.overlays c none
  | none => s.inspector.overlays

theorem resolveOverlay_eq (c : Fin 16) (s : State) : resolveOverlay c s = { s with
    tables := { s.tables with maps := resolvedMaps s c }
    inspector := { s.inspector with overlays := resolvedOverlays s c } } := by
  unfold resolveOverlay resolvedMaps resolvedOverlays
  split <;> simp_all

/-- The exchanges once the links to a window have been dropped. -/
abbrev unlinked (w : Fin 2) (s : State) : List Exchange := (unlink w s).exchanges

theorem removeWindow_shape (w : Fin 2) (x : Window) (s : State) : removeWindow w x s = { s with
    tables := { s.tables with maps := resolvedMaps s x.channel }
    inspector := { s.inspector with overlays := resolvedOverlays s x.channel, windows := put s.inspector.windows w none }
    exchanges := unlinked w s
    grants := { s.grants with lamp := (removeWindow w x s).grants.lamp } } := by
  unfold removeWindow
  rw [resolveOverlay_eq]
  rfl

/-! ### Deeds -/

/-- What a run of deeds may rest on: that the grants' numbers are distinct, the laws of the lockout and of the proof, that
no waiting write clashes, whether no store operation completes, whether a grant may become ACTIVE, and whether the lamp may
be toggled. -/
structure Known where
  distinct : Prop
  lockout  : Prop
  proof    : Prop
  apart    : Prop
  idle     : Prop
  opening  : Prop
  toggling : Prop := True

/-- The law of R19 over the two copies of the tables, without the operation in progress. -/
abbrev copiesApart (s : State) : Prop :=
  channelsApart s.tables.channels ∧ clearOfManagement s.tables ∧ channelsApart (storedTables s).channels

/-- Two states that agree but for the tables in both copies, what is laid over the maps, the credits, and the rates of
the ports. -/
structure SameUnits (s t : State) : Prop where
  pending   : t.pending = s.pending
  kept      : t.record.kept = s.record.kept
  queue     : t.store.queue = s.store.queue
  entries   : t.store.entries = s.store.entries
  counted   : t.store.failures = s.store.failures
  table     : t.grants.grants = s.grants.grants
  challenge : t.grants.challenge = s.grants.challenge
  lockout   : t.grants.lockout = s.grants.lockout
  failures  : t.grants.failures = s.grants.failures
  digest    : t.grants.digest = s.grants.digest
  lamp      : t.grants.lamp = s.grants.lamp
  windows   : t.inspector.windows = s.inspector.windows
  exchanges : t.exchanges = s.exchanges
  stamp     : t.part.stamp = s.part.stamp

/-- One update of a command that does more than a course of moves. -/
inductive Deed (k : Known) (a : Bool) (s : State) : State → Prop
  | move (t : State) : Move k.distinct a s t → Deed k a s t
  | content (t : State) : SameUnits s t → (creditLaw s → creditLaw t) → (∀ p, portLaw (s.port p) → portLaw (t.port p)) →
      (tablesLaw s → tablesLaw t) → (tablesLaw s → barLaw s → barLaw t) →
      (k.apart → tablesLaw s → copiesApart s → copiesApart t) → (k.idle → t.store.images = s.store.images) → Deed k a s t
  | popped (r : StoreRequest) (rest : List StoreRequest) : ¬k.idle → s.store.queue = r :: rest → Deed k a s (setQueue rest s)
  | clamped (n m id : Nat) (rest : List StoreRequest) : ¬k.idle → s.store.queue = .trim n id :: rest →
      Deed k a s (setQueue (.trim m id :: rest) s)
  | entryStored (e : Entry) (rest : List StoreRequest) : ¬k.idle → s.store.queue = .append e :: rest →
      Deed k a s (appendPassed e (setQueue rest s))
  | trimmed (n : Nat) : Deed k a s (removeOldest n s)
  | countStored (n : Nat) (rest : List StoreRequest) : ¬k.idle → s.store.queue = .failureCount n :: rest →
      Deed k a s (storeFailures n (setQueue rest s))
  | countPushed (n : Nat) : n ≤ 3 → Deed k a s (pushStore (.failureCount n) s)
  | digestOver : Deed k a s { s with grants := { s.grants with digest := none } }
  | proofDropped (n : Nat) :
      (k.proof → ∀ g ∈ s.grants.grants, g.number = n → g.state = .recording ∨ g.state = .checking ∧ s.grants.digest = none) →
      Deed k a s (dropGrant n s)
  | failed (n : Nat) : n ≤ 3 → s.grants.digest = none → (k.lockout → s.grants.lockout = none) →
      (k.proof → ∀ g ∈ s.grants.grants, ¬inProof g) →
      Deed k a s { s with grants := { s.grants with
        failures := n, lockout := if n = 3 then some 600000 else s.grants.lockout } }
  | cleared : (k.lockout → s.grants.lockout = none) → Deed k a s { s with grants := { s.grants with failures := 0 } }
  | lockoutEnds : Deed k a s { s with grants := { s.grants with lockout := none, failures := 0 } }
  | recording (n : Nat) (d : Detail) (g : Option Nat) (i : Option (Fin 8)) (c : Option (Fin 16)) :
      2 ≤ freeRoom s → (k.proof → ∀ g ∈ s.grants.grants, g.number = n → g.state = .checking ∧ s.grants.digest = none) →
      Deed k a s (updateGrant n (fun x => { x with state := .recording, reservation := true }) (writeEntry d g i c s))
  | opened (n now : Nat) : k.opening → (k.proof → ∀ g ∈ s.grants.grants, g.number = n → g.state = .recording) →
      Deed k a s (relamp (updateGrant n (fun x => { x with
        state := .active, remaining := x.granted, activation := some now, seconds := some 1000 }) s))

/-- A run of deeds. -/
abbrev Works (k : Known) (a : Bool) : State → State → Prop := Relation.ReflTransGen (fun s t => Deed k a s t)

variable {k : Known}

theorem Course.works (h : Course k.distinct a s t) : Works k a s t := 
  Relation.ReflTransGen.mono (fun _ _ hm => .move _ hm) _ _ h

theorem Deed.works (h : Deed k a s t) : Works k a s t := .single h

theorem Works.keeps {P : State → Prop} (hP : ∀ {s t}, Deed k a s t → P s → P t) (h : Works k a s t) (hs : P s) :
    P t := by
  induction h with
  | refl => exact hs
  | tail _ hm ih => exact hP hm ih

theorem Works.relates {R : State → State → Prop} (hr : ∀ s, R s s) (ht : ∀ {s t u}, R s t → R t u → R s u)
    (hR : ∀ {s t}, Deed k a s t → R s t) (h : Works k a s t) : R s t := by
  induction h with
  | refl => exact hr _
  | tail _ hm ih => exact ht ih (hR hm)

end Sys2Proof.Machine
end

section
/-! The laws of the credit, the ports, the exchange list and the windows, kept by every deed. -/

namespace Sys2Proof.Machine

open Sys2Proof Sys2Proof.Safety

variable {D : Prop} {a : Bool} {k : Known} {s t : State}

/-! ### The credit (R133) -/

theorem ceiling_iff (s : State) : creditLaw s ↔ ∀ n, s.credit n ≤ ceilingOf s.tables.ports n :=
  ⟨fun ⟨he, hc⟩ n => by cases n <;> assumption, fun h => ⟨h .E, h .C⟩⟩

theorem creditLaw_of (hm : t.meter = s.meter) (ht : t.tables.ports = s.tables.ports) (h : creditLaw s) :
    creditLaw t := by
  unfold creditLaw at *
  rwa [hm, ht]

theorem creditLaw_setCredit {n : Net} {v : Nat} (hv : v ≤ ceilingOf s.tables.ports n) (h : creditLaw s) :
    creditLaw (s.setCredit n v) := by
  obtain ⟨he, hc⟩ := h
  cases n
  · exact ⟨hv, hc⟩
  · exact ⟨he, hv⟩

theorem creditLaw_testHead (n : Net) (h : creditLaw s) : creditLaw (testHead n s) := by
  obtain ⟨_, e⟩ | ⟨f, rest, _, _, _, _, _, e⟩ := testHead_cases n s
  · rwa [e]
  · rw [e]
    have hv : s.credit n - frameCost f.frame * 100 ≤ ceilingOf s.tables.ports n :=
      (Nat.sub_le _ _).trans ((ceiling_iff s).1 h n)
    exact creditLaw_of (by simp) (by simp) (creditLaw_setCredit hv h)

theorem Move.creditLaw (hm : Move D a s t) (h : creditLaw s) : creditLaw t := by
  cases hm with
  | inert t hi => exact creditLaw_of hi.meter (by rw [hi.tables]) h
  | ports t e _ => rw [e]; exact h
  | release n => exact creditLaw_testHead n h
  | credit n v hv => exact creditLaw_setCredit hv h
  | exchanges t e _ => rw [e]; exact h
  | push r _ => exact h
  | append d g i c => obtain ⟨q, m, n, e, _⟩ := appendEntry_shape d g i c s; rw [e]; exact h
  | window w v x _ _ _ => exact h
  | spend w v x d g i c _ _ _ =>
    obtain ⟨q, m, n, e, _⟩ := writeEntry_shape d g i c (setWindow w (some x) s); rw [e]; exact h
  | windowGone w v x _ _ => rw [removeWindow_shape]; exact h
  | grant n f _ => exact h
  | grantClosed g cause _ => obtain ⟨q, m, n, l, e, _⟩ := grantClose_shape g cause s; rw [e]; exact h
  | checkingEnds g _ => exact h
  | challengeGone => exact h
  | challengeIssued ch _ _ _ _ _ => exact h

theorem Deed.creditLaw (hd : Deed k a s t) (h : creditLaw s) : creditLaw t := by
  cases hd with
  | move t hm => exact hm.creditLaw h
  | content t _ hc _ _ _ _ _ => exact hc h
  | recording n d g i c _ _ => obtain ⟨q, m, n', e, _⟩ := writeEntry_shape d g i c s; rw [e]; exact h
  | _ => exact h

/-! ### The ports (R2, R4, R7 to R10, R135) -/

theorem portsLaw_iff (s : State) : portsLaw s ↔ ∀ p, portLaw (s.port p) :=
  ⟨fun ⟨hw, he, hc⟩ p => by cases p <;> assumption, fun h => ⟨h .W, h .E, h .C⟩⟩

theorem portsLaw_testHead (n : Net) (h : portsLaw s) : portsLaw (testHead n s) := by
  obtain ⟨_, e⟩ | ⟨f, rest, hout, _, _, _, _, e⟩ := testHead_cases n s
  · rwa [e]
  · rw [e, portsLaw_iff]
    intro p
    rw [setPort_port]
    split
    · obtain ⟨h1, h2, h3, h4, h5, h6, h7⟩ := (portsLaw_iff s).1 h (netPort n)
      rw [hout] at h2 h3 h6
      exact ⟨h1, h2, h3, h4, h5, fun hw => absurd (h6 hw) (by simp), h7⟩
    · simpa using (portsLaw_iff s).1 h p

theorem Move.portsLaw (hm : Move D a s t) (h : portsLaw s) : portsLaw t := by
  cases hm with
  | inert t hi => unfold Safety.portsLaw; rw [hi.ports]; exact h
  | ports t e hp => exact (portsLaw_iff t).2 fun p => hp p ((portsLaw_iff s).1 h p)
  | release n => exact portsLaw_testHead n h
  | credit n v _ => cases n <;> exact h
  | exchanges t e _ => rw [e]; exact h
  | push r _ => exact h
  | append d g i c => obtain ⟨q, m, n, e, _⟩ := appendEntry_shape d g i c s; rw [e]; exact h
  | window w v x _ _ _ => exact h
  | spend w v x d g i c _ _ _ =>
    obtain ⟨q, m, n, e, _⟩ := writeEntry_shape d g i c (setWindow w (some x) s); rw [e]; exact h
  | windowGone w v x _ _ => rw [removeWindow_shape]; exact h
  | grant n f _ => exact h
  | grantClosed g cause _ => obtain ⟨q, m, n, l, e, _⟩ := grantClose_shape g cause s; rw [e]; exact h
  | checkingEnds g _ => exact h
  | challengeGone => exact h
  | challengeIssued ch _ _ _ _ _ => exact h

theorem Deed.portsLaw (hd : Deed k a s t) (h : portsLaw s) : portsLaw t := by
  cases hd with
  | move t hm => exact hm.portsLaw h
  | content t _ _ hp _ _ _ _ => exact (portsLaw_iff t).2 fun p => hp p ((portsLaw_iff s).1 h p)
  | recording n d g i c _ _ => obtain ⟨q, m, n', e, _⟩ := writeEntry_shape d g i c s; rw [e]; exact h
  | _ => exact h

/-! ### The Pending Exchange List (R55) -/

theorem exchangeLaw_of (he : t.exchanges = s.exchanges) (hs : s.part.stamp ≤ t.part.stamp) (h : exchangeLaw s) :
    exchangeLaw t := by
  obtain ⟨h1, h2, h3, h4⟩ := h
  unfold exchangeLaw pendingChannels pendingMgmt pendingIds at *
  rw [he]
  exact ⟨h1, h2, h3, fun n hn => (h4 n hn).trans_le hs⟩

theorem Move.exchangeLaw (hm : Move D a s t) (h : exchangeLaw s) : exchangeLaw t := by
  cases hm with
  | inert t hi => exact exchangeLaw_of hi.exchanges hi.stamp h
  | ports t e _ => rw [e]; exact h
  | release n => rw [testHead_touches]; exact h
  | credit n v _ => cases n <;> exact h
  | exchanges t _ he => exact he h
  | push r _ => exact h
  | append d g i c => obtain ⟨q, m, n, e, _⟩ := appendEntry_shape d g i c s; rw [e]; exact h
  | window w v x _ _ _ => exact h
  | spend w v x d g i c _ _ _ =>
    obtain ⟨q, m, n, e, _⟩ := writeEntry_shape d g i c (setWindow w (some x) s); rw [e]; exact h
  | windowGone w v x _ _ => rw [removeWindow_shape]; exact exchangeLaw_unlink w h
  | grant n f _ => exact h
  | grantClosed g cause _ => obtain ⟨q, m, n, l, e, _⟩ := grantClose_shape g cause s; rw [e]; exact h
  | checkingEnds g _ => exact h
  | challengeGone => exact h
  | challengeIssued ch _ _ _ _ _ => exact h

theorem Deed.exchangeLaw (hd : Deed k a s t) (h : exchangeLaw s) : exchangeLaw t := by
  cases hd with
  | move t hm => exact hm.exchangeLaw h
  | content t hu _ _ _ _ _ _ => exact exchangeLaw_of hu.exchanges hu.stamp.ge h
  | recording n d g i c _ _ => obtain ⟨q, m, n', e, _⟩ := writeEntry_shape d g i c s; rw [e]; exact h
  | _ => exact h

/-! ### The windows (R112) -/

theorem windowLaw_iff (s : State) : windowLaw s ↔
    (∀ v ∈ s.window 0, ∀ x ∈ s.window 1, v.channel ≠ x.channel) ∧ ∀ w, ∀ v ∈ s.window w, v.reservations ≤ 2 := by
  refine ⟨fun ⟨h, h0, h1⟩ => ⟨h, fun w => ?_⟩, fun ⟨h, hr⟩ => ⟨h, hr 0, hr 1⟩⟩
  obtain rfl | rfl : w = 0 ∨ w = 1 := by omega
  · exact h0
  · exact h1

theorem windowLaw_of (hw : t.inspector.windows = s.inspector.windows) (h : windowLaw s) : windowLaw t := by
  unfold windowLaw State.window at *
  rwa [hw]

/-- A window replaced by one of the same channel with no more reservations. -/
theorem windowLaw_replace {w : Fin 2} {v x : Window} (hv : s.window w = some v) (hc : x.channel = v.channel)
    (hr : x.reservations ≤ v.reservations) (h : windowLaw s) : windowLaw (setWindow w (some x) s) := by
  obtain ⟨hd, h2⟩ := (windowLaw_iff s).1 h
  refine (windowLaw_iff _).2 ⟨?_, fun u => ?_⟩
  · obtain rfl | rfl : w = 0 ∨ w = 1 := by omega
    all_goals
      simp only [setWindow_window]
      simp
      first
        | exact fun y hy => hc ▸ hd v hv y hy
        | exact fun y hy => hc ▸ hd y hy v hv
  · rw [setWindow_window]
    split
    · next e => subst e; simpa using hr.trans (h2 _ v hv)
    · exact h2 u

theorem windowLaw_gone (w : Fin 2) (h : windowLaw s) : windowLaw (setWindow w none s) := by
  obtain ⟨hd, h2⟩ := (windowLaw_iff s).1 h
  refine (windowLaw_iff _).2 ⟨?_, fun u => ?_⟩
  · obtain rfl | rfl : w = 0 ∨ w = 1 := by omega
    all_goals
      simp only [setWindow_window]
      simp
  · rw [setWindow_window]
    split
    · simp
    · exact h2 u

theorem Move.windowLaw (hm : Move D a s t) (h : windowLaw s) : windowLaw t := by
  cases hm with
  | inert t hi => exact windowLaw_of hi.windows h
  | ports t e _ => rw [e]; exact h
  | release n => rw [testHead_touches]; exact h
  | credit n v _ => cases n <;> exact h
  | exchanges t e _ => rw [e]; exact h
  | push r _ => exact h
  | append d g i c => obtain ⟨q, m, n, e, _⟩ := appendEntry_shape d g i c s; rw [e]; exact h
  | window w v x hv hc hr => exact windowLaw_replace hv hc hr h
  | spend w v x d g i c hv hc hr =>
    obtain ⟨q, m, n, e, _⟩ := writeEntry_shape d g i c (setWindow w (some x) s)
    rw [e]
    exact windowLaw_of (s := setWindow w (some x) s) rfl (windowLaw_replace hv hc (by omega) h)
  | windowGone w v x _ _ =>
    rw [removeWindow_shape]
    exact windowLaw_of (s := setWindow w none s) rfl (windowLaw_gone w h)
  | grant n f _ => exact h
  | grantClosed g cause _ => obtain ⟨q, m, n, l, e, _⟩ := grantClose_shape g cause s; rw [e]; exact h
  | checkingEnds g _ => exact h
  | challengeGone => exact h
  | challengeIssued ch _ _ _ _ _ => exact h

theorem Deed.windowLaw (hd : Deed k a s t) (h : windowLaw s) : windowLaw t := by
  cases hd with
  | move t hm => exact hm.windowLaw h
  | content t hu _ _ _ _ _ _ => exact windowLaw_of hu.windows h
  | recording n d g i c _ _ => obtain ⟨q, m, n', e, _⟩ := writeEntry_shape d g i c s; rw [e]; exact h
  | _ => exact h

end Sys2Proof.Machine
end

section
/-! The law of the record's room, kept by every deed. -/

namespace Sys2Proof.Machine

open Sys2Proof Sys2Proof.Safety

variable {D : Prop} {a : Bool} {k : Known} {s t : State}

/-! ### Lists with one element changed or taken off -/

/-- `modifyFirst` changes the element that `find?` finds, and no other. -/
theorem modifyFirst_cases {α : Type} (p : α → Bool) (f : α → α) (l : List α) :
    (l.find? p = none ∧ modifyFirst p f l = l) ∨
    ∃ x l₁ l₂, l.find? p = some x ∧ l = l₁ ++ x :: l₂ ∧ modifyFirst p f l = l₁ ++ f x :: l₂ := by
  cases h : l.find? p with
  | none => exact .inl ⟨rfl, modifyFirst_none f fun x hx => by simpa using List.find?_eq_none.1 h x hx⟩
  | some x =>
    obtain ⟨hp, l₁, l₂, e, hl⟩ := List.find?_eq_some_iff_append.1 h
    have hl' : ∀ z ∈ l₁, p z = false := fun z hz => by simpa using hl z hz
    refine .inr ⟨x, l₁, l₂, rfl, e, ?_⟩
    rw [e, modifyFirst_append_miss f hl', modifyFirst, if_pos hp]

/-- Where keys are distinct, erasing by the key of a member takes off that member. -/
theorem eraseP_number {l : List Grant} (hd : (l.map (·.number)).Nodup) {h : Grant} (hh : h ∈ l) {n : Nat}
    (hn : h.number = n) : ∃ l₁ l₂, l = l₁ ++ h :: l₂ ∧ l.eraseP (fun x => x.number == n) = l₁ ++ l₂ := by
  subst hn
  obtain ⟨l₁, l₂, e⟩ := List.append_of_mem hh
  refine ⟨l₁, l₂, e, ?_⟩
  subst e
  have hne : ∀ z ∈ l₁, ¬(z.number == h.number) = true := by
    intro z hz he
    rw [List.map_append, List.nodup_append] at hd
    exact hd.2.2 _ (List.mem_map_of_mem hz) h.number (by simp) (by simpa using he)
  rw [List.eraseP_append_right _ (by simpa using hne)]
  simp

theorem grantReservations_append (l r : List Grant) :
    grantReservations (l ++ r) = grantReservations l + grantReservations r := by simp [grantReservations]

theorem grantReservations_cons (g : Grant) (l : List Grant) :
    grantReservations (g :: l) = g.reservation.toNat + grantReservations l := by
  cases h : g.reservation <;> simp [grantReservations, h, Nat.add_comm]

theorem grantReservations_eraseP (p : Grant → Bool) (l : List Grant) :
    grantReservations (l.eraseP p) ≤ grantReservations l := ((List.eraseP_sublist).filter _).length_le

theorem distinct_eraseP (p : Grant → Bool) {l : List Grant} (h : (l.map (·.number)).Nodup) :
    ((l.eraseP p).map (·.number)).Nodup := h.sublist ((List.eraseP_sublist).map _)

/-! ### The room (R141) -/

theorem occupied_eq (s : State) : occupied s = s.record.kept.length + (s.store.queue.filterMap appendOf).length +
    (grantReservations s.grants.grants + windowReservations (s.window 0) + windowReservations (s.window 1)) := rfl

theorem occupied_of (hk : t.record.kept = s.record.kept) (hq : t.store.queue = s.store.queue)
    (hg : t.grants.grants = s.grants.grants) (hw : t.inspector.windows = s.inspector.windows) :
    occupied t = occupied s := by
  simp only [occupied_eq, State.window, hk, hq, hg, hw]

theorem roomLaw_of (hk : t.record.kept = s.record.kept) (hq : t.store.queue = s.store.queue)
    (he : t.store.entries = s.store.entries) (hg : t.grants.grants = s.grants.grants)
    (hw : t.inspector.windows = s.inspector.windows) (h : roomLaw s) : roomLaw t := by
  obtain ⟨h1, h2, h3⟩ := h
  exact ⟨(occupied_of hk hq hg hw).trans_le h1, by rw [grantNumbersDistinct, hg]; exact h2, by rw [hk, he]; exact h3⟩

theorem appendEntry_keepsRecord (d : Detail) (g : Option Nat) (i : Option (Fin 8)) (c : Option (Fin 16)) (s : State) :
    (appendEntry d g i c s).record.kept = s.record.kept ∧
      (appendEntry d g i c s).store.entries = s.store.entries := by
  obtain ⟨q, m, n, e, _⟩ := appendEntry_shape d g i c s
  rw [e]
  exact ⟨rfl, rfl⟩

theorem roomLaw_appendEntry (d : Detail) (g : Option Nat) (i : Option (Fin 8)) (c : Option (Fin 16)) (h : roomLaw s) :
    roomLaw (appendEntry d g i c s) := by
  obtain ⟨h1, h2, h3⟩ := h
  obtain ⟨hk, he⟩ := appendEntry_keepsRecord d g i c s
  refine ⟨occupied_appendEntry h1 d g i c, ?_, by rw [hk, he]; exact h3⟩
  obtain ⟨q, m, n, e, _⟩ := appendEntry_shape d g i c s
  rw [e]
  exact h2

/-- An append into a place given up before. -/
theorem roomLaw_writeEntry (d : Detail) (g : Option Nat) (i : Option (Fin 8)) (c : Option (Fin 16))
    (hs : occupied s < 128) (h : roomLaw s) : roomLaw (writeEntry d g i c s) := by
  rw [← appendEntry_room hs]
  exact roomLaw_appendEntry d g i c h

theorem setWindow_reservations (w : Fin 2) (x : Option Window) (s : State) :
    windowReservations ((setWindow w x s).window 0) + windowReservations ((setWindow w x s).window 1) +
      windowReservations (s.window w) =
    windowReservations (s.window 0) + windowReservations (s.window 1) + windowReservations x := by
  rw [setWindow_window, setWindow_window]
  obtain rfl | rfl : w = 0 ∨ w = 1 := by omega
  · simp only [if_true, if_neg (show ¬(1 : Fin 2) = 0 by decide)]; omega
  · simp only [if_true, if_neg (show ¬(0 : Fin 2) = 1 by decide)]; omega

theorem occupied_setWindow (w : Fin 2) (x : Option Window) (s : State) :
    occupied (setWindow w x s) + windowReservations (s.window w) = occupied s + windowReservations x := by
  have h := setWindow_reservations w x s
  rw [occupied_eq, occupied_eq]
  show _ + _ + (grantReservations s.grants.grants + _ + _) + _ = _
  simp only [setWindow_record, setWindow_store] at *
  omega

theorem roomLaw_setWindow {w : Fin 2} {x : Option Window}
    (hr : windowReservations x ≤ windowReservations (s.window w)) (h : roomLaw s) : roomLaw (setWindow w x s) := by
  obtain ⟨h1, h2, h3⟩ := h
  have := occupied_setWindow w x s
  exact ⟨by omega, h2, h3⟩

/-- A grant changed under its number, its reservation kept. -/
theorem roomLaw_updateGrant {n : Nat} {f : Grant → Grant}
    (hf : ∀ x, findGrant s n = some x → (f x).number = x.number ∧ (f x).reservation = x.reservation) (h : roomLaw s) :
    roomLaw (updateGrant n f s) := by
  obtain ⟨h1, h2, h3⟩ := h
  obtain ⟨_, e⟩ | ⟨x, l₁, l₂, hx, el, e⟩ := modifyFirst_cases (fun g : Grant => g.number == n) f s.grants.grants
  · exact roomLaw_of (s := s) rfl rfl rfl e rfl ⟨h1, h2, h3⟩
  · obtain ⟨hn, hr⟩ := hf x hx
    refine ⟨?_, ?_, h3⟩
    · rw [occupied_eq] at h1 ⊢
      show _ + _ + (grantReservations (modifyFirst _ f s.grants.grants) + _ + _) ≤ _
      rw [el] at h1
      rw [e]
      simp only [grantReservations_append, grantReservations_cons, hr] at *
      exact h1
    · show ((modifyFirst _ f s.grants.grants).map _).Nodup
      rw [grantNumbersDistinct, el] at h2
      rw [e]
      simpa [hn] using h2

theorem occupied_dropGrant_le (n : Nat) (s : State) : occupied (dropGrant n s) ≤ occupied s := by
  rw [occupied_eq, occupied_eq]
  have := grantReservations_eraseP (fun g => g.number == n) s.grants.grants
  show _ + _ + (grantReservations (s.grants.grants.eraseP _) + _ + _) ≤ _
  simp only [dropGrant, setGrants, State.window] at *
  omega

theorem roomLaw_dropGrant (n : Nat) (h : roomLaw s) : roomLaw (dropGrant n s) :=
  ⟨(occupied_dropGrant_le n s).trans h.1, distinct_eraseP _ h.2.1, h.2.2⟩

theorem occupied_dropGrant_reserved (hd : grantNumbersDistinct s) {h : Grant} (hh : h ∈ s.grants.grants) {n : Nat}
    (hn : h.number = n) (hr : h.reservation = true) : occupied (dropGrant n s) + 1 = occupied s := by
  obtain ⟨l₁, l₂, e, e'⟩ := eraseP_number hd hh hn
  rw [occupied_eq, occupied_eq]
  show _ + _ + (grantReservations (s.grants.grants.eraseP _) + _ + _) + 1 = _
  rw [e', e]
  simp only [grantReservations_append, grantReservations_cons, hr, Bool.toNat_true, dropGrant, setGrants, State.window]
  omega

/-- The close of a grant of the table: its entry takes the place its reservation held. -/
theorem roomLaw_grantClose {g : Grant} (cause : CloseCause)
    (hg : ∃ h ∈ s.grants.grants, h.number = g.number ∧ h.reservation = g.reservation) (h : roomLaw s) :
    roomLaw (grantClose g cause s) := by
  have hl : ∀ u : State, roomLaw u → roomLaw (relamp u) := fun u => roomLaw_of rfl rfl rfl rfl rfl
  obtain ⟨y, hy, hn, hr⟩ := hg
  refine hl _ ?_
  cases hb : g.reservation with
  | false => exact roomLaw_appendEntry _ _ _ _ (roomLaw_dropGrant _ h)
  | true =>
    have := occupied_dropGrant_reserved h.2.1 hy hn (hr.trans hb)
    exact roomLaw_writeEntry _ _ _ _ (by omega) (roomLaw_dropGrant _ h)

theorem roomLaw_push {r : StoreRequest} (hr : appendOf r = none) (h : roomLaw s) : roomLaw (pushStore r s) := by
  obtain ⟨h1, h2, h3⟩ := h
  refine ⟨?_, h2, h3⟩
  rw [occupied_eq] at h1 ⊢
  simpa [pushStore, hr, State.window] using h1

theorem appendOf_of_sound {r : StoreRequest} (h : RequestSound s r) : appendOf r = none := by
  cases r
  case append => cases h
  all_goals rfl

theorem freeNumber_fresh (l : List Grant) :
    freeNumber l ≤ l.length ∧ ∀ g ∈ l, g.number ≠ freeNumber l := by
  have hex : ∃ n ∈ List.range (l.length + 1), l.all (fun g => g.number != n) = true := by
    by_contra hc
    push Not at hc
    have hsub : List.range (l.length + 1) ⊆ l.map (·.number) := by
      intro n hn
      obtain ⟨g, hg, he⟩ : ∃ g ∈ l, g.number = n := by simpa using hc n hn
      exact List.mem_map.2 ⟨g, hg, he⟩
    have := (List.nodup_range.subperm hsub).length_le
    simp at this
  obtain ⟨n, hn, he⟩ := hex
  cases hf : (List.range (l.length + 1)).find? (fun n => l.all (fun g => g.number != n)) with
  | none => exact absurd he (List.find?_eq_none.1 hf n hn)
  | some m =>
    have hm := List.mem_of_find?_eq_some hf
    have hp := List.find?_some hf
    simp only [freeNumber, hf, Option.getD_some]
    refine ⟨by simpa [Nat.lt_succ_iff] using hm, ?_⟩
    simpa using hp

theorem distinct_freeNumber {l : List Grant} (h : (l.map (·.number)).Nodup) (ch : Challenge) :
    ((l ++ [checkingGrant (freeNumber l) ch]).map (·.number)).Nodup := by
  have hf := (freeNumber_fresh l).2
  rw [List.map_append, List.nodup_append]
  refine ⟨h, by simp, ?_⟩
  simp only [List.mem_map, List.map_cons, List.map_nil, List.mem_singleton]
  rintro _ ⟨g, hg, rfl⟩ _ rfl
  exact hf g hg

theorem Move.roomLaw (hD : D) (hm : Move D a s t) (h : roomLaw s) : roomLaw t := by
  cases hm with
  | inert t hi => exact roomLaw_of hi.kept hi.queue hi.entries hi.table hi.windows h
  | ports t e _ => rw [e]; exact h
  | release n => rw [testHead_touches]; exact h
  | credit n v _ => cases n <;> exact h
  | exchanges t e _ => rw [e]; exact h
  | push r hr => exact roomLaw_push (appendOf_of_sound hr) h
  | append d g i c => exact roomLaw_appendEntry d g i c h
  | window w v x hv _ hr => exact roomLaw_setWindow (by rw [hv]; exact hr) h
  | spend w v x d g i c hv _ hr =>
    have hx := occupied_setWindow w (some x) s
    rw [hv] at hx
    have h1 := h.1
    simp only [windowReservations] at hx
    exact roomLaw_writeEntry _ _ _ _ (by omega) (roomLaw_setWindow (by rw [hv]; simp only [windowReservations]; omega) h)
  | windowGone w v x _ _ =>
    rw [removeWindow_shape]
    exact roomLaw_of (s := setWindow w none s) rfl rfl rfl rfl rfl (roomLaw_setWindow (Nat.zero_le _) h)
  | grant n f hf => exact roomLaw_updateGrant (fun x hx => ⟨(hf x hx).number, (hf x hx).reservation⟩) h
  | grantClosed g cause hg =>
    obtain ⟨y, hy, hn, hr, _⟩ := hg hD
    exact roomLaw_grantClose cause ⟨y, hy, hn, hr⟩ h
  | checkingEnds g _ => exact roomLaw_of (s := dropGrant g.number s) rfl rfl rfl rfl rfl (roomLaw_dropGrant _ h)
  | challengeGone => exact h
  | challengeIssued ch _ _ _ _ _ => exact h

theorem settling_pop (r : StoreRequest) (rest : List StoreRequest) :
    ((r :: rest).filterMap appendOf).length = (if (appendOf r).isSome then 1 else 0) +
      (rest.filterMap appendOf).length := by
  cases h : appendOf r <;> simp [h, Nat.add_comm]

theorem roomLaw_setQueue {q : List StoreRequest}
    (hq : (q.filterMap appendOf).length ≤ (s.store.queue.filterMap appendOf).length) (h : roomLaw s) :
    roomLaw (setQueue q s) := by
  obtain ⟨h1, h2, h3⟩ := h
  refine ⟨?_, h2, h3⟩
  rw [occupied_eq] at h1 ⊢
  simp only [setQueue, State.window] at *
  omega

theorem roomLaw_popped {r : StoreRequest} {rest : List StoreRequest} (hq : s.store.queue = r :: rest) (h : roomLaw s) :
    roomLaw (setQueue rest s) := by
  refine roomLaw_setQueue ?_ h
  rw [hq, settling_pop]
  omega

theorem roomLaw_entryStored {e : Entry} {rest : List StoreRequest} (hq : s.store.queue = .append e :: rest)
    (h : roomLaw s) : roomLaw (appendPassed e (setQueue rest s)) := by
  obtain ⟨h1, h2, h3⟩ := h
  refine ⟨?_, h2, ?_⟩
  · rw [occupied_eq] at h1 ⊢
    rw [hq, settling_pop] at h1
    simp only [appendPassed, storeMark, setEntries, setRecord, setQueue, State.window, List.length_append,
      List.length_singleton, appendOf, Option.isSome_some, if_true] at *
    omega
  · have hp : (StoredEntry.of e).passes = true := by simp [StoredEntry.passes, StoredEntry.of]
    show s.record.kept ++ [e] = passing (storedWith (.of e) s.store.entries)
    rw [passing_storedWith, if_pos hp, h3]
    rfl

theorem roomLaw_removeOldest (n : Nat) (h : roomLaw s) : roomLaw (removeOldest n s) := by
  obtain ⟨h1, h2, h3⟩ := h
  refine ⟨?_, h2, ?_⟩
  · rw [occupied_eq] at h1 ⊢
    simp only [removeOldest, setEntries, setRecord, State.window, List.length_drop] at *
    omega
  · show s.record.kept.drop n = passing (trimStored n s.store.entries)
    rw [passing_trimStored, h3]

theorem roomLaw_recording {n : Nat} (d : Detail) (g : Option Nat) (i : Option (Fin 8)) (c : Option (Fin 16))
    (hr : 2 ≤ freeRoom s) (h : roomLaw s) :
    roomLaw (updateGrant n (fun x => { x with state := .recording, reservation := true }) (writeEntry d g i c s)) := by
  have h128 : occupied s ≤ 126 := by unfold freeRoom at hr; omega
  obtain ⟨h1, h2, h3⟩ := roomLaw_writeEntry d g i c (s := s) (by omega) h
  have ho := occupied_writeEntry (s := s) d g i c
  generalize writeEntry d g i c s = u at *
  refine ⟨?_, ?_, h3⟩
  · obtain ⟨_, e⟩ | ⟨x, l₁, l₂, _, el, e⟩ := modifyFirst_cases (fun g : Grant => g.number == n)
      (fun x => { x with state := .recording, reservation := true }) u.grants.grants
    · exact (occupied_of (s := u) (t := updateGrant n _ u) rfl rfl e rfl).trans_le h1
    · rw [occupied_eq] at ho ⊢
      show _ + _ + (grantReservations (modifyFirst _ _ u.grants.grants) + _ + _) ≤ _
      rw [el] at ho
      rw [e]
      simp only [grantReservations_append, grantReservations_cons, updateGrant, setGrants, State.window,
        Bool.toNat_true] at *
      omega
  · show ((modifyFirst _ _ u.grants.grants).map _).Nodup
    rw [modifyFirst_map]
    · exact h2
    · exact fun _ _ => rfl

theorem Deed.roomLaw (hD : k.distinct) (hd : Deed k a s t) (h : roomLaw s) : roomLaw t := by
  cases hd with
  | move t hm => exact hm.roomLaw hD h
  | content t hu _ _ _ _ _ _ => exact roomLaw_of hu.kept hu.queue hu.entries hu.table hu.windows h
  | popped r rest _ hq => exact roomLaw_popped hq h
  | clamped n m id rest _ hq => exact roomLaw_setQueue (by rw [hq]; exact le_of_eq rfl) h
  | entryStored e rest _ hq => exact roomLaw_entryStored hq h
  | trimmed n => exact roomLaw_removeOldest n h
  | countStored n rest _ hq => exact roomLaw_of (s := setQueue rest s) rfl rfl rfl rfl rfl (roomLaw_popped hq h)
  | countPushed n _ => exact roomLaw_push rfl h
  | digestOver => exact h
  | proofDropped n _ => exact roomLaw_dropGrant n h
  | failed n _ _ _ _ => exact h
  | cleared _ => exact h
  | lockoutEnds => exact h
  | recording n d g i c hr _ => exact roomLaw_recording d g i c hr h
  | opened n now _ _ =>
    exact roomLaw_of (s := updateGrant n _ s) rfl rfl rfl rfl rfl (roomLaw_updateGrant (fun _ _ => ⟨rfl, rfl⟩) h)

end Sys2Proof.Machine
end

section
/-! The laws of the lockout, of the proof and of the Grant Table, kept by every deed, and what a grant descends from. -/

namespace Sys2Proof.Machine

open Sys2Proof Sys2Proof.Safety

variable {D : Prop} {a : Bool} {k : Known} {s t : State}

/-! ### The lockout (R97) -/

theorem mem_queuedCounts {n : Nat} : n ∈ queuedCounts s ↔ .failureCount n ∈ s.store.queue := by
  rw [queuedCounts, List.mem_filterMap]
  constructor
  · rintro ⟨r, hr, he⟩
    cases r <;> cases he
    exact hr
  · exact fun h => ⟨_, h, rfl⟩

theorem lockoutLaw_of (hf : t.grants.failures = s.grants.failures) (hl : t.grants.lockout = s.grants.lockout)
    (hd : t.grants.digest.isSome = s.grants.digest.isSome) (hc : t.store.failures = s.store.failures)
    (hq : ∀ n, .failureCount n ∈ t.store.queue → .failureCount n ∈ s.store.queue) (h : lockoutLaw s) :
    lockoutLaw t := by
  obtain ⟨h1, h2, h3, h4, h5⟩ := h
  refine ⟨by rw [hf]; exact h1, by rw [hf, hl]; exact h2, by rw [hd, hl]; exact h3, by rw [hc]; exact h4, ?_⟩
  exact fun n hn => h5 n (mem_queuedCounts.2 (hq n (mem_queuedCounts.1 hn)))

theorem failureCount_append {l q : List StoreRequest} (h : q = [] ∨ ∃ e, q = [.append e]) (n : Nat)
    (hn : .failureCount n ∈ l ++ q) : .failureCount n ∈ l := by
  obtain rfl | ⟨e, rfl⟩ := h
  · simpa using hn
  · simpa using hn

theorem failureCount_push {r : StoreRequest} (hr : RequestSound s r) (n : Nat)
    (hn : .failureCount n ∈ (pushStore r s).store.queue) : .failureCount n ∈ s.store.queue := by
  obtain hn | hn := List.mem_append.1 hn
  · exact hn
  · obtain rfl : StoreRequest.failureCount n = r := by simpa using hn
    cases hr

theorem Move.lockoutLaw (hm : Move D a s t) (h : lockoutLaw s) : lockoutLaw t := by
  cases hm with
  | inert t hi =>
    exact lockoutLaw_of hi.failures hi.lockout (by rw [hi.digest]) hi.counted (by rw [hi.queue]; exact fun _ => id) h
  | ports t e _ => rw [e]; exact h
  | release n => rw [testHead_touches]; exact h
  | credit n v _ => cases n <;> exact h
  | exchanges t e _ => rw [e]; exact h
  | push r hr => exact lockoutLaw_of (s := s) rfl rfl rfl rfl (failureCount_push hr) h
  | append d g i c =>
    obtain ⟨q, m, n, e, hq⟩ := appendEntry_shape d g i c s
    rw [e]
    exact lockoutLaw_of (s := s) rfl rfl rfl rfl (failureCount_append hq) h
  | window w v x _ _ _ => exact h
  | spend w v x d g i c _ _ _ =>
    obtain ⟨q, m, n, e, hq⟩ := writeEntry_shape d g i c (setWindow w (some x) s)
    rw [e]
    exact lockoutLaw_of (s := s) rfl rfl rfl rfl (failureCount_append hq) h
  | windowGone w v x _ _ => rw [removeWindow_shape]; exact h
  | grant n f _ => exact h
  | grantClosed g cause _ =>
    obtain ⟨q, m, n, l, e, hq⟩ := grantClose_shape g cause s
    rw [e]
    exact lockoutLaw_of (s := s) rfl rfl rfl rfl (failureCount_append hq) h
  | checkingEnds g _ => exact lockoutLaw_of (s := s) rfl rfl (by simp) rfl (fun _ => id) h
  | challengeGone => exact h
  | challengeIssued ch _ _ _ _ _ => exact h

theorem lockoutLaw_setQueue {q : List StoreRequest} (hq : ∀ r ∈ q, r ∈ s.store.queue ∨ ∃ n id, r = .trim n id)
    (h : lockoutLaw s) : lockoutLaw (setQueue q s) := by
  refine lockoutLaw_of (s := s) rfl rfl rfl rfl (fun n hn => ?_) h
  obtain hr | ⟨_, _, he⟩ := hq _ hn
  · exact hr
  · cases he

theorem Deed.lockoutLaw (hk : k.lockout) (hd : Deed k a s t) (h : lockoutLaw s) : lockoutLaw t := by
  cases hd with
  | move t hm => exact hm.lockoutLaw h
  | content t hu _ _ _ _ _ _ =>
    exact lockoutLaw_of hu.failures hu.lockout (by rw [hu.digest]) hu.counted
      (by rw [hu.queue]; exact fun _ => id) h
  | popped r rest _ hq => exact lockoutLaw_setQueue (fun r hr => .inl (hq ▸ List.mem_cons_of_mem _ hr)) h
  | clamped n m id rest _ hq =>
    refine lockoutLaw_setQueue (fun r hr => ?_) h
    obtain rfl | hr := List.mem_cons.1 hr
    · exact .inr ⟨m, id, rfl⟩
    · exact .inl (hq ▸ List.mem_cons_of_mem _ hr)
  | entryStored e rest _ hq =>
    exact lockoutLaw_of (s := setQueue rest s) rfl rfl rfl rfl (fun _ => id)
      (lockoutLaw_setQueue (fun r hr => .inl (hq ▸ List.mem_cons_of_mem _ hr)) h)
  | trimmed n => exact h
  | countStored n rest _ hq =>
    obtain ⟨h1, h2, h3, _, h5⟩ := lockoutLaw_setQueue (s := s) (q := rest)
      (fun r hr => .inl (hq ▸ List.mem_cons_of_mem _ hr)) h
    exact ⟨h1, h2, h3, h.2.2.2.2 n (mem_queuedCounts.2 (hq ▸ List.mem_cons_self)), h5⟩
  | countPushed n hn =>
    obtain ⟨h1, h2, h3, h4, h5⟩ := h
    refine ⟨h1, h2, h3, h4, fun m hm => ?_⟩
    obtain hm | hm := List.mem_append.1 (mem_queuedCounts.1 hm)
    · exact h5 m (mem_queuedCounts.2 hm)
    · obtain rfl : m = n := by simpa using hm
      exact hn
  | digestOver =>
    obtain ⟨h1, h2, _, h4⟩ := h
    exact ⟨h1, h2, fun hc => (by cases hc), h4⟩
  | proofDropped n _ => exact h
  | failed n hn hdg hl _ =>
    obtain ⟨h1, h2, h3, h4⟩ := h
    refine ⟨hn, ?_, fun hc => ?_, h4⟩
    · show (if n = 3 then some 600000 else s.grants.lockout).isSome = true ↔ n = 3
      split
      · next e => simp [e]
      · next e => simp [hl hk, e]
    · exact absurd (show s.grants.digest.isSome = true from hc) (by simp [hdg])
  | cleared hl =>
    obtain ⟨_, _, h3, h4⟩ := h
    exact ⟨Nat.zero_le _, by simp [hl hk], h3, h4⟩
  | lockoutEnds => exact ⟨Nat.zero_le _, by simp, fun _ => rfl, h.2.2.2⟩
  | recording n d g i c _ _ =>
    obtain ⟨q, m, n', e, hq⟩ := writeEntry_shape d g i c s
    rw [e]
    exact lockoutLaw_of (s := s) rfl rfl rfl rfl (failureCount_append hq) h
  | opened n now _ _ => exact h

/-! ### What a grant descends from (R96, R104) -/

/-- A grant `y` that has come of a grant `x` without becoming ACTIVE: where `a` holds its window may have become
ACTIVE. -/
structure Descends (a : Bool) (x y : Grant) : Prop where
  number  : y.number = x.number
  range   : grantInRange x → grantInRange y
  active  : y.state = .active → x.state = .active
  granting : granting y → granting x
  pending : ∀ w, y.binding = .pending w → x.binding = .pending w
  bound   : ∀ w, y.binding = .bound w → x.binding = .bound w ∨ a = true ∧ x.binding = .pending w
  stays   : ∀ w, x.binding = .bound w → y.binding = .bound w ∨ y.binding = .ended
  ended   : x.binding = .ended → y.binding = .ended

theorem Descends.refl (x : Grant) : Descends a x x :=
  ⟨rfl, id, id, id, fun _ => id, fun _ => .inl, fun _ => .inl, id⟩

theorem Descends.trans {x y z : Grant} (h : Descends a x y) (h' : Descends a y z) : Descends a x z where
  number := h'.number.trans h.number
  range := h'.range ∘ h.range
  active := h.active ∘ h'.active
  granting := h.granting ∘ h'.granting
  pending w := h.pending w ∘ h'.pending w
  bound w hw := by
    obtain hb | ⟨ha, hp⟩ := h'.bound w hw
    · exact h.bound w hb
    · exact .inr ⟨ha, h.pending w hp⟩
  stays w hw := by
    obtain hb | he := h.stays w hw
    · exact h'.stays w hb
    · exact .inr (h'.ended he)
  ended := h'.ended ∘ h.ended

theorem Regrant.descends {x y : Grant} (h : Regrant a x y) : Descends a x y where
  number := h.number
  range := h.range
  active hp := by
    obtain e | ⟨_, e⟩ := h.state
    · rwa [e] at hp
    · simp [e] at hp
  granting hp := by
    obtain e | ⟨e, _⟩ := h.state
    · rwa [Safety.granting, e] at hp
    · exact .inl e
  pending w hw := by
    have hb := h.binding
    rw [hw] at hb
    generalize x.binding = b at hb
    cases hb with
    | same => rfl
  bound w hw := by
    have hb := h.binding
    rw [hw] at hb
    generalize x.binding = b at hb
    cases hb with
    | same => exact .inl rfl
    | bound w ha => exact .inr ⟨ha, rfl⟩
  stays w hw := by
    have hb := h.binding
    rw [hw] at hb
    generalize y.binding = b at hb
    cases hb with
    | same => exact .inl rfl
    | ended w => exact .inr rfl
  ended hw := by
    have hb := h.binding
    rw [hw] at hb
    generalize y.binding = b at hb
    cases hb with
    | same => rfl

/-- Every grant of the second table descends from one of the first. -/
def Stem (a : Bool) (s t : State) : Prop :=
  ∀ g ∈ t.grants.grants, ∃ h ∈ s.grants.grants, Descends a h g

theorem Stem.of_eq (h : t.grants.grants = s.grants.grants) : Stem a s t := by
  unfold Stem
  rw [h]
  exact fun g hg => ⟨g, hg, .refl g⟩

theorem Stem.trans {u : State} (h : Stem a s t) (h' : Stem a t u) : Stem a s u := fun g hg => by
  obtain ⟨y, hy, hd⟩ := h' g hg
  obtain ⟨x, hx, hd'⟩ := h y hy
  exact ⟨x, hx, hd'.trans hd⟩

theorem Stem.of_subset (h : ∀ g ∈ t.grants.grants, g ∈ s.grants.grants) : Stem a s t :=
  fun g hg => ⟨g, h g hg, .refl g⟩

theorem mem_updateGrant {n : Nat} {f : Grant → Grant} {y : Grant} (hy : y ∈ (updateGrant n f s).grants.grants) :
    y ∈ s.grants.grants ∨ ∃ x ∈ s.grants.grants, findGrant s n = some x ∧ y = f x := by
  obtain ⟨_, e⟩ | ⟨x, l₁, l₂, hx, el, e⟩ := modifyFirst_cases (fun g : Grant => g.number == n) f s.grants.grants
  · exact .inl (by rwa [show (updateGrant n f s).grants.grants = s.grants.grants from e] at hy)
  · rw [show (updateGrant n f s).grants.grants = l₁ ++ f x :: l₂ from e] at hy
    rw [el]
    simp only [List.mem_append, List.mem_cons] at hy ⊢
    obtain hy | rfl | hy := hy
    · exact .inl (.inl hy)
    · exact .inr ⟨x, .inr (.inl rfl), hx, rfl⟩
    · exact .inl (.inr (.inr hy))

theorem Stem.of_update {n : Nat} {f : Grant → Grant} (hf : ∀ x, findGrant s n = some x → Descends a x (f x)) :
    Stem a s (updateGrant n f s) := fun g hg => by
  obtain hg | ⟨x, hx, hfx, rfl⟩ := mem_updateGrant hg
  · exact ⟨g, hg, .refl g⟩
  · exact ⟨x, hx, hf x hfx⟩

theorem Move.stem (hm : Move D a s t) : Stem a s t := by
  cases hm with
  | inert t hi => exact .of_eq hi.table
  | ports t e _ => rw [e]; exact .of_eq rfl
  | release n => rw [testHead_touches]; exact .of_eq rfl
  | credit n v _ => cases n <;> exact .of_eq rfl
  | exchanges t e _ => rw [e]; exact .of_eq rfl
  | push r _ => exact .of_eq rfl
  | append d g i c => obtain ⟨q, m, n, e, _⟩ := appendEntry_shape d g i c s; rw [e]; exact .of_eq rfl
  | window w v x _ _ _ => exact .of_eq rfl
  | spend w v x d g i c _ _ _ =>
    obtain ⟨q, m, n, e, _⟩ := writeEntry_shape d g i c (setWindow w (some x) s); rw [e]; exact .of_eq rfl
  | windowGone w v x _ _ => rw [removeWindow_shape]; exact .of_eq rfl
  | grant n f hf => exact .of_update fun x hx => (hf x hx).descends
  | grantClosed g cause _ =>
    obtain ⟨q, m, n, l, e, _⟩ := grantClose_shape g cause s
    rw [e]
    exact .of_subset fun _ => List.mem_of_mem_eraseP
  | checkingEnds g _ => exact .of_subset fun _ => List.mem_of_mem_eraseP
  | challengeGone => exact .of_eq rfl
  | challengeIssued ch _ _ _ _ _ => exact .of_eq rfl

theorem recording_descends (x : Grant) : Descends a x { x with state := .recording, reservation := true } where
  number := rfl
  range := id
  active h := nomatch h
  granting h := by obtain h | h := h <;> cases h
  pending _ := id
  bound _ := .inl
  stays _ := .inl
  ended := id

/-- No deed brings a new grant or a new number, and none but an opening makes a grant ACTIVE. -/
theorem Deed.stem (hk : ¬k.opening) (hd : Deed k a s t) : Stem a s t := by
  cases hd with
  | move t hm => exact hm.stem
  | content t hu _ _ _ _ _ _ => exact .of_eq hu.table
  | proofDropped n _ => exact .of_subset fun _ => List.mem_of_mem_eraseP
  | recording n d g i c _ hc =>
    obtain ⟨q, m, n', e, _⟩ := writeEntry_shape d g i c s
    rw [e]
    exact Stem.trans (.of_eq rfl) (.of_update fun x _ => recording_descends x)
  | opened n now ho _ => exact absurd ho hk
  | _ => exact .of_eq rfl

/-! ### Distinct numbers (R98) -/

theorem distinct_of_table (h : t.grants.grants = s.grants.grants) (hs : grantNumbersDistinct s) :
    grantNumbersDistinct t := by
  rw [grantNumbersDistinct, h]
  exact hs

theorem distinct_updateGrant {n : Nat} {f : Grant → Grant} (hf : ∀ x, findGrant s n = some x → (f x).number = x.number)
    (h : grantNumbersDistinct s) : grantNumbersDistinct (updateGrant n f s) := by
  obtain ⟨_, e⟩ | ⟨x, l₁, l₂, hx, el, e⟩ := modifyFirst_cases (fun g : Grant => g.number == n) f s.grants.grants
  · exact distinct_of_table (s := s) e h
  · show ((modifyFirst _ f s.grants.grants).map _).Nodup
    rw [grantNumbersDistinct, el] at h
    rw [e]
    simpa [hf x hx] using h

theorem Move.distinct (hm : Move D a s t) (h : grantNumbersDistinct s) : grantNumbersDistinct t := by
  cases hm with
  | inert t hi => exact distinct_of_table hi.table h
  | ports t e _ => rw [e]; exact h
  | release n => rw [testHead_touches]; exact h
  | credit n v _ => cases n <;> exact h
  | exchanges t e _ => rw [e]; exact h
  | push r hr => exact h
  | append d g i c => obtain ⟨q, m, n, e, _⟩ := appendEntry_shape d g i c s; rw [e]; exact h
  | window w v x _ _ _ => exact h
  | spend w v x d g i c _ _ _ =>
    obtain ⟨q, m, n, e, _⟩ := writeEntry_shape d g i c (setWindow w (some x) s); rw [e]; exact h
  | windowGone w v x _ _ => rw [removeWindow_shape]; exact h
  | grant n f hf => exact distinct_updateGrant (fun x hx => (hf x hx).number) h
  | grantClosed g cause _ =>
    obtain ⟨q, m, n, l, e, _⟩ := grantClose_shape g cause s
    rw [e]
    exact distinct_eraseP _ h
  | checkingEnds g _ => exact distinct_eraseP _ h
  | challengeGone => exact h
  | challengeIssued ch _ _ _ _ _ => exact h

theorem Deed.distinct (hd : Deed k a s t) (h : grantNumbersDistinct s) : grantNumbersDistinct t := by
  cases hd with
  | move t hm => exact hm.distinct h
  | content t hu _ _ _ _ _ _ => exact distinct_of_table hu.table h
  | proofDropped n _ => exact distinct_eraseP _ h
  | recording n d g i c _ _ =>
    obtain ⟨q, m, n', e, _⟩ := writeEntry_shape d g i c s
    rw [e]
    exact distinct_updateGrant (fun _ _ => rfl) h
  | opened n now _ _ => exact distinct_of_table (s := updateGrant n _ s) rfl (distinct_updateGrant (fun _ _ => rfl) h)
  | _ => exact h

theorem number_unique (h : grantNumbersDistinct s) {x y : Grant} (hx : x ∈ s.grants.grants) (hy : y ∈ s.grants.grants)
    (e : x.number = y.number) : x = y := List.inj_on_of_nodup_map h hx hy e

/-- Where grants descend from those of a table of distinct numbers, the ancestor is the grant of the same number. -/
theorem Stem.of_number (hs : Stem a s t) (h : grantNumbersDistinct s) {g x : Grant} (hg : g ∈ t.grants.grants)
    (hx : x ∈ s.grants.grants) (e : x.number = g.number) : Descends a x g := by
  obtain ⟨y, hy, hd⟩ := hs g hg
  obtain rfl : x = y := number_unique h hx hy (e.trans hd.number)
  exact hd

/-! ### The Grant Table (R98) -/

theorem grantTableLaw_of (hl : t.grants.grants.length ≤ s.grants.grants.length) (hd : grantNumbersDistinct t)
    (hs : ∀ g ∈ t.grants.grants, ∃ x ∈ s.grants.grants, grantInRange x → grantInRange g)
    (hc : t.grants.challenge = s.grants.challenge ∨ t.grants.challenge = none) (h : grantTableLaw s) :
    grantTableLaw t := by
  obtain ⟨h1, _, h3, h4⟩ := h
  refine ⟨hl.trans h1, hd, fun g hg => ?_, fun c hcm => ?_⟩
  · obtain ⟨x, hx, hr⟩ := hs g hg
    exact hr (h3 x hx)
  · obtain hc | hc := hc
    · rw [hc] at hcm
      obtain ⟨h5, h6⟩ := h4 c hcm
      exact ⟨hl.trans_lt h5, h6⟩
    · rw [hc] at hcm; cases hcm

theorem Move.grantTableLaw (hm : Move D a s t) (h : grantTableLaw s) : grantTableLaw t := by
  have hstem : ∀ g ∈ t.grants.grants, ∃ x ∈ s.grants.grants, grantInRange x → grantInRange g := fun g hg => by
    obtain ⟨x, hx, hd⟩ := hm.stem g hg
    exact ⟨x, hx, hd.range⟩
  have hd := hm.distinct h.2.1
  cases hm with
  | inert t hi => exact grantTableLaw_of (congrArg List.length hi.table).le hd hstem (.inl hi.challenge) h
  | ports t e _ => rw [e]; exact h
  | release n => rw [testHead_touches]; exact h
  | credit n v _ => cases n <;> exact h
  | exchanges t e _ => rw [e]; exact h
  | push r hr => exact h
  | append d g i c => obtain ⟨q, m, n, e, _⟩ := appendEntry_shape d g i c s; rw [e]; exact h
  | window w v x _ _ _ => exact h
  | spend w v x d g i c _ _ _ =>
    obtain ⟨q, m, n, e, _⟩ := writeEntry_shape d g i c (setWindow w (some x) s); rw [e]; exact h
  | windowGone w v x _ _ => rw [removeWindow_shape]; exact h
  | grant n f hf => exact grantTableLaw_of (modifyFirst_length _ _ _).le hd hstem (.inl rfl) h
  | grantClosed g cause _ =>
    obtain ⟨q, m, n, l, e, _⟩ := grantClose_shape g cause s
    rw [e] at hd hstem ⊢
    exact grantTableLaw_of (List.length_eraseP_le ..) hd hstem (.inl rfl) h
  | checkingEnds g _ => exact grantTableLaw_of (List.length_eraseP_le ..) hd hstem (.inl rfl) h
  | challengeGone => exact grantTableLaw_of (s := s) le_rfl hd hstem (.inr rfl) h
  | challengeIssued ch _ _ hn h1 h2 =>
    obtain ⟨h3, h4, h5, _⟩ := h
    refine ⟨h3, h4, h5, fun c hc => ?_⟩
    obtain rfl : ch = c := Option.some.inj hc
    exact ⟨hn, h1, h2⟩

theorem Deed.grantTableLaw (hd : Deed k a s t) (h : grantTableLaw s) : grantTableLaw t := by
  have hdist := hd.distinct h.2.1
  have hself : ∀ g ∈ s.grants.grants, ∃ x ∈ s.grants.grants, grantInRange x → grantInRange g := fun g hg => ⟨g, hg, id⟩
  cases hd with
  | move t hm => exact hm.grantTableLaw h
  | content t hu _ _ _ _ _ _ =>
    exact grantTableLaw_of (congrArg List.length hu.table).le hdist (by rw [hu.table]; exact hself) (.inl hu.challenge) h
  | proofDropped n _ =>
    exact grantTableLaw_of (List.length_eraseP_le ..) hdist (fun g hg => hself g (List.mem_of_mem_eraseP hg)) (.inl rfl) h
  | recording n d g i c _ _ =>
    obtain ⟨q, m, n', e, _⟩ := writeEntry_shape d g i c s
    rw [e] at hdist ⊢
    refine grantTableLaw_of (s := s) (modifyFirst_length _ _ _).le hdist (fun y hy => ?_) (.inl rfl) h
    obtain ⟨x, hx, hxy⟩ := Stem.of_update (a := a) (n := n) (fun x _ => recording_descends x) y hy
    exact ⟨x, hx, hxy.range⟩
  | opened n now _ _ =>
    refine grantTableLaw_of (s := s) (modifyFirst_length _ _ _).le hdist (fun y hy => ?_) (.inl rfl) h
    obtain hy | ⟨x, hx, _, rfl⟩ := mem_updateGrant (s := s) hy
    · exact hself y hy
    · exact ⟨x, hx, fun ⟨h1, h2, h3, _, h5⟩ => ⟨h1, h2, h3, h3, h5⟩⟩
  | _ => exact h

end Sys2Proof.Machine
end

section
/-! The laws of the proof and of the lamp, kept by every deed. -/

namespace Sys2Proof.Machine

open Sys2Proof Sys2Proof.Safety

variable {D : Prop} {a : Bool} {k : Known} {s t : State}

/-! ### One proof at a time (R91, R93, R98) -/

/-- The proofs in progress after an update are proofs in progress before it, and the CHECKING grant of a digest whose
result counts is still there. -/
theorem proofLaw_of (hd : grantNumbersDistinct t)
    (hp : ∀ g ∈ t.grants.grants, inProof g → ∃ h ∈ s.grants.grants, h.number = g.number ∧ inProof h)
    (hc : t.grants.challenge = s.grants.challenge ∨ t.grants.challenge = none)
    (hl : t.grants.lockout = s.grants.lockout ∨ t.grants.lockout = none)
    (hg : ∀ d ∈ t.grants.digest, d.discarded = false → d ∈ s.grants.digest ∧
      ∀ g ∈ s.grants.grants, g.number = d.grant → g.state = .checking →
        ∃ h ∈ t.grants.grants, h.number = g.number ∧ h.state = .checking)
    (h : proofLaw s) : proofLaw t := by
  obtain ⟨_, h1, h2, h3⟩ := h
  refine ⟨hd, fun g hgt y hyt hpg hpy => ?_, fun g hgt hpg => ?_, fun d hdt hdd => ?_⟩
  · obtain ⟨g', hg', eg, hpg'⟩ := hp g hgt hpg
    obtain ⟨y', hy', ey, hpy'⟩ := hp y hyt hpy
    rw [← eg, ← ey]
    exact h1 g' hg' y' hy' hpg' hpy'
  · obtain ⟨g', hg', _, hpg'⟩ := hp g hgt hpg
    obtain ⟨h4, h5⟩ := h2 g' hg' hpg'
    refine ⟨?_, ?_⟩
    · obtain e | e := hc <;> rw [e]
      exact h4
    · obtain e | e := hl <;> rw [e]
      exact h5
  · obtain ⟨hds, hk⟩ := hg d hdt hdd
    obtain ⟨g, hgs, en, hst⟩ := h3 d hds hdd
    obtain ⟨y, hy, ey, hsy⟩ := hk g hgs en hst
    exact ⟨y, hy, ey.trans en, hsy⟩

theorem proofLaw_same (ht : t.grants.grants = s.grants.grants) (hc : t.grants.challenge = s.grants.challenge ∨
    t.grants.challenge = none) (hl : t.grants.lockout = s.grants.lockout ∨ t.grants.lockout = none)
    (hg : t.grants.digest = s.grants.digest ∨ t.grants.digest = none) (h : proofLaw s) : proofLaw t := by
  refine proofLaw_of (distinct_of_table ht h.1) (fun g hgt hp => ⟨g, ht ▸ hgt, rfl, hp⟩) hc hl (fun d hd _ => ?_) h
  obtain e | e := hg
  · exact ⟨e ▸ hd, fun g hgs _ hst => ⟨g, ht ▸ hgs, rfl, hst⟩⟩
  · rw [e] at hd; cases hd

theorem inProof_of_regrant {x y : Grant} (h : Regrant a x y) (hp : inProof y) : inProof x := by
  obtain e | ⟨_, e⟩ := h.state
  · rwa [inProof, e] at hp
  · simp [inProof, e] at hp

/-- The other grants stay in the table when one of them is changed, and the one found takes its new form. -/
theorem mem_updateGrant_of {n : Nat} {f : Grant → Grant} {g : Grant} (hg : g ∈ s.grants.grants) :
    g ∈ (updateGrant n f s).grants.grants ∨
      findGrant s n = some g ∧ f g ∈ (updateGrant n f s).grants.grants := by
  obtain ⟨_, e⟩ | ⟨x, l₁, l₂, hx, el, e⟩ := modifyFirst_cases (fun g : Grant => g.number == n) f s.grants.grants
  · exact .inl (by rwa [show (updateGrant n f s).grants.grants = s.grants.grants from e])
  · rw [show (updateGrant n f s).grants.grants = l₁ ++ f x :: l₂ from e]
    rw [el] at hg
    simp only [List.mem_append, List.mem_cons] at hg ⊢
    obtain hg | rfl | hg := hg
    · exact .inl (.inl hg)
    · exact .inr ⟨hx, .inr (.inl rfl)⟩
    · exact .inl (.inr (.inr hg))

theorem proofLaw_updateGrant {n : Nat} {f : Grant → Grant} (hf : ∀ x, findGrant s n = some x → Regrant a x (f x))
    (h : proofLaw s) : proofLaw (updateGrant n f s) := by
  refine proofLaw_of (s := s) (distinct_updateGrant (fun x hx => (hf x hx).number) h.1) (fun g hg hp => ?_) (.inl rfl) (.inl rfl)
    (fun d hd _ => ⟨hd, fun g hg _ hst => ?_⟩) h
  · obtain hg | ⟨x, hx, hfx, rfl⟩ := mem_updateGrant hg
    · exact ⟨g, hg, rfl, hp⟩
    · exact ⟨x, hx, (hf x hfx).number.symm, inProof_of_regrant (hf x hfx) hp⟩
  · obtain hg | ⟨hfg, hg⟩ := mem_updateGrant_of (n := n) (f := f) hg
    · exact ⟨g, hg, rfl, hst⟩
    · refine ⟨f g, hg, (hf g hfg).number, ?_⟩
      obtain e | ⟨e, _⟩ := (hf g hfg).state
      · rw [e, hst]
      · rw [hst] at e; cases e

theorem mem_eraseP_number {l : List Grant} {g : Grant} {n : Nat} (hg : g ∈ l) (hn : g.number ≠ n) :
    g ∈ l.eraseP (fun x => x.number == n) := (List.mem_eraseP_of_neg (by simpa using hn)).2 hg

/-- A grant taken off the table whose number is not that of a digest whose result counts. -/
theorem proofLaw_dropGrant {n : Nat} (hn : ∀ d ∈ s.grants.digest, d.discarded = false →
    ∀ g ∈ s.grants.grants, g.number = n → g.state ≠ .checking) (h : proofLaw s) : proofLaw (dropGrant n s) := by
  refine proofLaw_of (s := s) (distinct_eraseP _ h.1) (fun g hg hp => ⟨g, List.mem_of_mem_eraseP hg, rfl, hp⟩) (.inl rfl)
    (.inl rfl) (fun d hd hdd => ⟨hd, fun g hg _ hst => ⟨g, mem_eraseP_number hg fun e => ?_, rfl, hst⟩⟩) h
  exact hn d hd hdd g hg e hst

theorem Move.proofLaw (hD : D) (hm : Move D a s t) (h : proofLaw s) : proofLaw t := by
  cases hm with
  | inert t hi => exact proofLaw_same hi.table (.inl hi.challenge) (.inl hi.lockout) (.inl hi.digest) h
  | ports t e _ => rw [e]; exact h
  | release n => rw [testHead_touches]; exact h
  | credit n v _ => cases n <;> exact h
  | exchanges t e _ => rw [e]; exact h
  | push r hr => exact h
  | append d g i c => obtain ⟨q, m, n, e, _⟩ := appendEntry_shape d g i c s; rw [e]; exact h
  | window w v x _ _ _ => exact h
  | spend w v x d g i c _ _ _ =>
    obtain ⟨q, m, n, e, _⟩ := writeEntry_shape d g i c (setWindow w (some x) s); rw [e]; exact h
  | windowGone w v x _ _ => rw [removeWindow_shape]; exact h
  | grant n f hf => exact proofLaw_updateGrant hf h
  | grantClosed g cause hg =>
    obtain ⟨q, m, n, l, e, _⟩ := grantClose_shape g cause s
    rw [e]
    refine proofLaw_same (s := dropGrant g.number s) rfl (.inl rfl) (.inl rfl) (.inl rfl) (proofLaw_dropGrant ?_ h)
    obtain ⟨y, hy, hn, _, hst⟩ := hg hD
    intro _ _ _ x hx hxn
    obtain rfl : x = y := number_unique h.1 hx hy (hxn.trans hn.symm)
    exact hst
  | checkingEnds g _ =>
    refine proofLaw_of (s := s) (distinct_eraseP _ h.1) (fun y hy hp => ⟨y, List.mem_of_mem_eraseP hy, rfl, hp⟩) (.inl rfl)
      (.inl rfl) (fun d hd hdd => ?_) h
    obtain ⟨d', _, rfl⟩ := Option.map_eq_some_iff.1 hd
    cases hdd
  | challengeGone => exact proofLaw_same (s := s) rfl (.inr rfl) (.inl rfl) (.inl rfl) h
  | challengeIssued ch hl hp _ _ _ =>
    obtain ⟨h1, h2, _, h4⟩ := h
    have hnone : ∀ g ∈ s.grants.grants, ¬inProof g := by
      intro g hg hpg
      have := List.any_eq_false.1 hp g hg
      obtain e | e := hpg <;> simp [e] at this
    exact ⟨h1, h2, fun g hg hpg => absurd hpg (hnone g hg), h4⟩

/-- A grant taken off the table as its proof ends leaves no proof in progress but another's. -/
theorem Deed.proofLaw (hk : k.distinct) (hp : k.proof) (hd : Deed k a s t) (h : proofLaw s) : proofLaw t := by
  cases hd with
  | move t hm => exact hm.proofLaw hk h
  | content t hu _ _ _ _ _ _ => exact proofLaw_same hu.table (.inl hu.challenge) (.inl hu.lockout) (.inl hu.digest) h
  | digestOver => exact proofLaw_same (s := s) rfl (.inl rfl) (.inl rfl) (.inr rfl) h
  | proofDropped n hn =>
    refine proofLaw_dropGrant (fun d hd _ g hg e hst => ?_) h
    obtain e' | ⟨_, e'⟩ := hn hp g hg e
    · rw [hst] at e'; cases e'
    · rw [e'] at hd; cases hd
  | failed n _ hdg _ hnone =>
    obtain ⟨h1, h2, _, _⟩ := h
    exact ⟨h1, h2, fun g hg hpg => absurd hpg (hnone hp g hg), fun d hd => by
      rw [show s.grants.digest = none from hdg] at hd; cases hd⟩
  | cleared _ => exact proofLaw_same (s := s) rfl (.inl rfl) (.inl rfl) (.inl rfl) h
  | lockoutEnds => exact proofLaw_same (s := s) rfl (.inl rfl) (.inr rfl) (.inl rfl) h
  | recording n d g i c _ hc =>
    obtain ⟨q, m, n', e, _⟩ := writeEntry_shape d g i c s
    rw [e]
    refine proofLaw_of (s := s) (distinct_updateGrant (fun _ _ => rfl) h.1) (fun y hy hpy => ?_) (.inl rfl) (.inl rfl)
      (fun d hd hdd => ?_) h
    · obtain hy | ⟨x, hx, hfx, rfl⟩ := mem_updateGrant hy
      · exact ⟨y, hy, rfl, hpy⟩
      · exact ⟨x, hx, rfl, .inl (hc hp x hx (findGrant_some hfx).2).1⟩
    · refine ⟨hd, fun y hy _ hst => ?_⟩
      obtain hy | ⟨hfy, _⟩ := mem_updateGrant_of (n := n)
        (f := fun x => { x with state := .recording, reservation := true }) hy
      · exact ⟨y, hy, rfl, hst⟩
      · have := (hc hp y hy (findGrant_some hfy).2).2
        rw [show s.grants.digest = some d from hd] at this
        cases this
  | opened n now _ hc =>
    refine proofLaw_of (s := s) (distinct_of_table (s := updateGrant n _ s) rfl (distinct_updateGrant (fun _ _ => rfl) h.1))
      (fun y hy hpy => ?_) (.inl rfl) (.inl rfl) (fun d hd hdd => ⟨hd, fun y hy _ hst => ?_⟩) h
    · obtain hy | ⟨x, hx, hfx, rfl⟩ := mem_updateGrant (s := s) hy
      · exact ⟨y, hy, rfl, hpy⟩
      · obtain hpy | hpy := hpy <;> cases hpy
    · obtain hy' | ⟨hfy, _⟩ := mem_updateGrant_of (n := n) (f := fun x => { x with
        state := .active, remaining := x.granted, activation := some now, seconds := some 1000 }) hy
      · exact ⟨y, hy', rfl, hst⟩
      · have := hc hp y hy (findGrant_some hfy).2
        rw [hst] at this
        cases this
  | _ => exact h

/-! ### The lamp (R106) -/

theorem openWindows_ne_zero (s : State) : openWindows s ≠ 0 ↔ windowOpen s := by
  unfold openWindows windowOpen State.window
  cases s.inspector.windows.get 0 <;> cases s.inspector.windows.get 1 <;> simp

theorem lights_iff (g : Grant) : g.lights = true ↔ granting g := by
  simp [Grant.lights]

theorem lampOf_closed (h : ¬windowOpen s) :
    lampOf s = if s.grants.grants.any Grant.lights then .steady else .dark := by
  rw [← openWindows_ne_zero] at h
  unfold lampOf
  rw [if_neg h]

theorem lampOf_open (h : windowOpen s) : (∀ lit n, s.grants.lamp = .toggling lit n → lampOf s = s.grants.lamp) ∧
    ((∀ lit n, s.grants.lamp ≠ .toggling lit n) → lampOf s = .toggling true 500) := by
  rw [← openWindows_ne_zero] at h
  unfold lampOf
  rw [if_pos h]
  cases s.grants.lamp <;> simp

/-- Brought up to date, the lamp obeys its table. -/
theorem lampLaw_relamp (s : State) : lampLaw (relamp s) := by
  have hw : windowOpen (relamp s) ↔ windowOpen s := Iff.rfl
  refine ⟨fun h => ?_, fun h hg => ?_, fun h hg => ?_⟩
  · obtain ⟨h1, h2⟩ := lampOf_open (hw.1 h)
    by_cases ht : ∃ lit n, s.grants.lamp = .toggling lit n
    · obtain ⟨lit, n, ht⟩ := ht
      exact ⟨lit, n, (h1 lit n ht).trans ht⟩
    · push Not at ht
      exact ⟨true, 500, h2 ht⟩
  · obtain ⟨g, hm, hgr⟩ := hg
    show lampOf s = _
    rw [lampOf_closed (s := s) h, if_pos ((List.any_eq_true (l := s.grants.grants)).2 ⟨g, hm, (lights_iff g).2 hgr⟩)]
  · show lampOf s = _
    rw [lampOf_closed (s := s) h, if_neg]
    intro hc
    obtain ⟨g, hm, hl⟩ := List.any_eq_true.1 hc
    exact hg g hm ((lights_iff g).1 hl)

theorem lampLaw_of (hl : t.grants.lamp = s.grants.lamp) (hw : windowOpen t ↔ windowOpen s)
    (hg : (∃ g ∈ t.grants.grants, granting g) ↔ ∃ g ∈ s.grants.grants, granting g) (h : lampLaw s) : lampLaw t := by
  obtain ⟨h1, h2, h3⟩ := h
  refine ⟨fun ho => ?_, fun ho hx => ?_, fun ho hx => ?_⟩
  · rw [hl]; exact h1 (hw.1 ho)
  · rw [hl]; exact h2 (fun hc => ho (hw.2 hc)) (hg.1 hx)
  · rw [hl]
    refine h3 (fun hc => ho (hw.2 hc)) fun g hm hgr => ?_
    obtain ⟨y, hy, hyr⟩ := hg.2 ⟨g, hm, hgr⟩
    exact hx y hy hyr

theorem granting_of_regrant {x y : Grant} (h : Regrant a x y) : granting y ↔ granting x := by
  refine ⟨h.descends.granting, fun hx => ?_⟩
  obtain e | ⟨_, e⟩ := h.state
  · rwa [granting, e]
  · exact .inr e

theorem granting_updateGrant {n : Nat} {f : Grant → Grant}
    (hf : ∀ x, findGrant s n = some x → (granting (f x) ↔ granting x)) :
    (∃ g ∈ (updateGrant n f s).grants.grants, granting g) ↔ ∃ g ∈ s.grants.grants, granting g := by
  constructor
  · rintro ⟨g, hg, hgr⟩
    obtain hg | ⟨x, hx, hfx, rfl⟩ := mem_updateGrant hg
    · exact ⟨g, hg, hgr⟩
    · exact ⟨x, hx, (hf x hfx).1 hgr⟩
  · rintro ⟨g, hg, hgr⟩
    obtain hg' | ⟨hfg, hg'⟩ := mem_updateGrant_of (n := n) (f := f) hg
    · exact ⟨g, hg', hgr⟩
    · exact ⟨f g, hg', (hf g hfg).2 hgr⟩

theorem granting_dropGrant {n : Nat} (hn : ∀ g ∈ s.grants.grants, g.number = n → ¬granting g) :
    (∃ g ∈ (dropGrant n s).grants.grants, granting g) ↔ ∃ g ∈ s.grants.grants, granting g :=
  ⟨fun ⟨g, hg, hgr⟩ => ⟨g, List.mem_of_mem_eraseP hg, hgr⟩,
   fun ⟨g, hg, hgr⟩ => ⟨g, mem_eraseP_number hg fun e => hn g hg e hgr, hgr⟩⟩

theorem windowOpen_setWindow_some {w : Fin 2} {v x : Window} (hv : s.window w = some v) :
    windowOpen (setWindow w (some x) s) ↔ windowOpen s := by
  have hw : ∀ u, (setWindow w (some x) s).window u ≠ none ↔ s.window u ≠ none := by
    intro u
    rw [setWindow_window]
    split
    · next e => subst e; simp [hv]
    · exact Iff.rfl
  exact or_congr (hw 0) (hw 1)

theorem windowOpen_setWindow_none (w : Fin 2) (h : windowOpen (setWindow w none s)) : windowOpen s := by
  have hw : ∀ u, (setWindow w none s).window u ≠ none → s.window u ≠ none := by
    intro u
    rw [setWindow_window]
    split
    · exact fun h => absurd rfl h
    · exact id
  exact h.imp (hw 0) (hw 1)

/-- What a move does to the lamp: its law stays, no window opens, and while one stays open the toggle runs unbroken. -/
theorem Move.lampLaw (hD : D) (hm : Move D a s t) (hd : grantNumbersDistinct s) (h : lampLaw s) :
    lampLaw t ∧ (windowOpen t → windowOpen s ∧ t.grants.lamp = s.grants.lamp) := by
  have relamped : ∀ {u v : State}, t = relamp u → u.grants.lamp = s.grants.lamp → (windowOpen u → windowOpen s) →
      Safety.lampLaw t ∧ (windowOpen t → windowOpen s ∧ t.grants.lamp = s.grants.lamp) := by
    rintro u v rfl hl hw
    refine ⟨lampLaw_relamp u, fun ho => ⟨hw ho, ?_⟩⟩
    obtain ⟨lit, n, e⟩ := h.1 (hw ho)
    exact ((lampOf_open (s := u) ho).1 lit n (hl.trans e)).trans hl
  cases hm with
  | inert t hi =>
    have hw : windowOpen t ↔ windowOpen s := by unfold windowOpen State.window; rw [hi.windows]
    exact ⟨lampLaw_of hi.lamp hw (by rw [hi.table]) h, fun ho => ⟨hw.1 ho, hi.lamp⟩⟩
  | ports t e _ => rw [e]; exact ⟨h, fun ho => ⟨ho, rfl⟩⟩
  | release n => rw [testHead_touches]; exact ⟨h, fun ho => ⟨ho, rfl⟩⟩
  | credit n v _ => cases n <;> exact ⟨h, fun ho => ⟨ho, rfl⟩⟩
  | exchanges t e _ => rw [e]; exact ⟨h, fun ho => ⟨ho, rfl⟩⟩
  | push r hr => exact ⟨h, fun ho => ⟨ho, rfl⟩⟩
  | append d g i c =>
    obtain ⟨q, m, n, e, _⟩ := appendEntry_shape d g i c s; rw [e]; exact ⟨h, fun ho => ⟨ho, rfl⟩⟩
  | window w v x hv _ _ =>
    have hw := windowOpen_setWindow_some (x := x) hv
    exact ⟨lampLaw_of (s := s) rfl hw Iff.rfl h, fun ho => ⟨hw.1 ho, rfl⟩⟩
  | spend w v x d g i c hv _ _ =>
    obtain ⟨q, m, n, e, _⟩ := writeEntry_shape d g i c (setWindow w (some x) s)
    rw [e]
    have hw := windowOpen_setWindow_some (x := x) hv
    exact ⟨lampLaw_of (s := s) rfl hw Iff.rfl h, fun ho => ⟨hw.1 ho, rfl⟩⟩
  | windowGone w v x _ _ =>
    refine relamped (v := s) rfl ?_ fun ho => windowOpen_setWindow_none w (s := s) ?_
    · rw [resolveOverlay_eq]; rfl
    · rw [resolveOverlay_eq] at ho; exact ho
  | grant n f hf =>
    exact ⟨lampLaw_of (s := s) rfl Iff.rfl (granting_updateGrant fun x hx => granting_of_regrant (hf x hx)) h,
      fun ho => ⟨ho, rfl⟩⟩
  | grantClosed g cause _ =>
    refine relamped (v := s) rfl ?_ ?_
    · rw [appendInto_grants]; rfl
    · obtain ⟨q, m, n, e, _⟩ := appendInto_shape g.reservation (.grantClosed cause) (some g.number) (some g.slot) none
        (dropGrant g.number s)
      rw [e]
      exact id
  | checkingEnds g hg =>
    obtain ⟨hgm, hst⟩ := hg hD
    refine ⟨lampLaw_of (s := s) rfl Iff.rfl (granting_dropGrant fun y hy e => ?_) h, fun ho => ⟨ho, rfl⟩⟩
    obtain rfl : y = g := number_unique hd hy hgm e
    simp [hst]
  | challengeGone => exact ⟨h, fun ho => ⟨ho, rfl⟩⟩
  | challengeIssued ch _ _ _ _ _ => exact ⟨h, fun ho => ⟨ho, rfl⟩⟩

/-- What a deed does to the lamp. -/
theorem Deed.lampLaw (hk : k.distinct) (hp : k.proof) (hd : Deed k a s t) (hn : grantNumbersDistinct s)
    (h : lampLaw s) : lampLaw t ∧ (windowOpen t → windowOpen s ∧ t.grants.lamp = s.grants.lamp) := by
  cases hd with
  | move t hm => exact hm.lampLaw hk hn h
  | content t hu _ _ _ _ _ _ =>
    have hw : windowOpen t ↔ windowOpen s := by unfold windowOpen State.window; rw [hu.windows]
    exact ⟨lampLaw_of hu.lamp hw (by rw [hu.table]) h, fun ho => ⟨hw.1 ho, hu.lamp⟩⟩
  | proofDropped n hc =>
    refine ⟨lampLaw_of (s := s) rfl Iff.rfl (granting_dropGrant fun g hg e => ?_) h, fun ho => ⟨ho, rfl⟩⟩
    obtain e' | ⟨e', _⟩ := hc hp g hg e <;> simp [e']
  | recording n d g i c _ hc =>
    obtain ⟨q, m, n', e, _⟩ := writeEntry_shape d g i c s
    rw [e]
    have hgr := granting_updateGrant (s := s) (n := n) (f := fun x => { x with state := .recording, reservation := true })
      fun x hx => ?_
    · exact ⟨lampLaw_of (s := s) rfl Iff.rfl hgr h, fun ho => ⟨ho, rfl⟩⟩
    have := (hc hp x (findGrant_some hx).1 (findGrant_some hx).2).1
    simp [granting, this]
  | opened n now _ _ =>
    refine ⟨lampLaw_relamp _, fun ho => ⟨ho, ?_⟩⟩
    obtain ⟨lit, m, e⟩ := h.1 ho
    exact (lampOf_open (s := updateGrant n _ s) ho).1 lit m e
  | _ => exact ⟨h, fun ho => ⟨ho, rfl⟩⟩

end Sys2Proof.Machine
end

section
/-! Every table entry is read back from its image (R168, R171): numbers in bytes, identifiers, named values, and the
images of the seven tables. -/

namespace Sys2Proof.Machine

open Sys2Proof Sys2Proof.Safety

/-! ### Fields of an image -/

theorem fieldAt_byte (b : Byte) (l : List Byte) : fieldAt (b :: l) 0 1 = b.toNat := by simp [fieldAt, beNat]

theorem beBytes_two (n : Nat) : beBytes 2 n = [byte (n / 256), byte n] := rfl

theorem beBytes_four (n : Nat) :
    beBytes 4 n = [byte (n / 256 / 256 / 256), byte (n / 256 / 256), byte (n / 256), byte n] := rfl

theorem beBytes_one (n : Nat) : beBytes 1 n = [byte n] := rfl

theorem toNat_byte (n : Nat) : (byte n).toNat = n % 256 := by simp [byte]

theorem fieldAt_two {n : Nat} (h : n < 65536) (l : List Byte) :
    fieldAt (byte (n / 256) :: byte n :: l) 0 2 = n := by
  simp only [fieldAt, beNat, List.drop_zero, List.take_succ_cons, List.take_zero, List.foldl, toNat_byte]
  omega

theorem fieldAt_four {n : Nat} (h : n < 2 ^ 32) (l : List Byte) :
    fieldAt (byte (n / 256 / 256 / 256) :: byte (n / 256 / 256) :: byte (n / 256) :: byte n :: l) 0 4 = n := by
  simp only [fieldAt, beNat, List.drop_zero, List.take_succ_cons, List.take_zero, List.foldl, toNat_byte]
  omega

theorem fieldAt_cons (b : Byte) (l : List Byte) (i k : Nat) : fieldAt (b :: l) (i + 1) k = fieldAt l i k := rfl

/-! ### Named values -/

theorem yesNo_yesNoByte (b : Bool) : yesNo (yesNoByte b).toNat = some b := by cases b <;> rfl

theorem readRate_rateByte (r : Rate) : readRate (rateByte r).toNat = some r := by cases r <;> rfl

theorem readLock_lockByte (p : LockPolicy) : readLock (lockByte p).toNat = some p := by cases p <;> rfl

theorem readNet_netByte (n : Net) : readNet (netByte n).toNat = some n := by cases n <;> rfl

theorem readClass_classByte (c : ServiceClass) : readClass (classByte c).toNat = some c := by cases c <;> rfl

theorem readRole_roleByte (r : Option Role) : readRole (roleByte r).toNat = some r := by
  obtain _ | r := r
  · rfl
  · cases r <;> rfl

theorem readTest_testByte (x : SignalTest) : readTest (testByte x).toNat = some x := by cases x <;> rfl

/-! ### Identifiers -/

theorem identNumber_lt (i : Ident) : identNumber i < 2 ^ 32 := by
  cases i with
  | std v => exact v.isLt.trans (by decide)
  | ext v => exact v.isLt.trans (by decide)

theorem ofNat_toNat {w : Nat} (v : BitVec w) : BitVec.ofNat w v.toNat = v := by simp

theorem readIdent_identNumber (i : Ident) : readIdent (identFormat i).toNat (identNumber i) = some i := by
  cases i with
  | std v =>
    have := v.isLt
    simp [readIdent, identFormat, identNumber, show v.toNat ≤ 2047 by omega]
  | ext v =>
    have := v.isLt
    simp [readIdent, identFormat, identNumber, show v.toNat ≤ 536870911 by omega]

theorem readPair_pair (p : IdPair) :
    readPair (identFormat p.request).toNat (identNumber p.request) (identNumber p.response) = some p := by
  cases p with
  | std v u =>
    have := v.isLt
    have := u.isLt
    simp [readPair, identFormat, identNumber, IdPair.request, IdPair.response, show v.toNat ≤ 2047 by omega,
      show u.toNat ≤ 2047 by omega]
  | ext v u =>
    have := v.isLt
    have := u.isLt
    simp [readPair, identFormat, identNumber, IdPair.request, IdPair.response, show v.toNat ≤ 536870911 by omega,
      show u.toNat ≤ 536870911 by omega]

theorem readMatch_match (m : MatchId) :
    readMatch (matchFormat m).toNat (matchValue m) (matchMask m) = some m := by
  cases m with
  | std v u =>
    have := v.isLt
    have := u.isLt
    simp [readMatch, matchFormat, matchValue, matchMask, show v.toNat ≤ 2047 by omega, show u.toNat ≤ 2047 by omega]
  | ext v u =>
    have := v.isLt
    have := u.isLt
    simp [readMatch, matchFormat, matchValue, matchMask, show v.toNat ≤ 536870911 by omega,
      show u.toNat ≤ 536870911 by omega]

theorem matchValue_lt (m : MatchId) : matchValue m < 2 ^ 32 := by
  cases m with
  | std v _ => exact v.isLt.trans (by decide)
  | ext v _ => exact v.isLt.trans (by decide)

theorem matchMask_lt (m : MatchId) : matchMask m < 2 ^ 32 := by
  cases m with
  | std _ v => exact v.isLt.trans (by decide)
  | ext _ v => exact v.isLt.trans (by decide)

/-! ### The images of the tables -/

theorem decodePortSettings_encode {e : PortSettings} (h : portSettingsValid e) :
    decodePortSettings (encodePortSettings e) = some e := by
  obtain ⟨h1, h2, h3, h4, h5, h6, h7, h8⟩ := h
  have hE : (byte e.shareE).toNat = e.shareE := byte_toNat (by omega)
  have hC : (byte e.shareC).toNat = e.shareC := byte_toNat (by omega)
  simp only [decodePortSettings, encodePortSettings, pairBytes, beBytes_one, beBytes_two, beBytes_four,
    List.cons_append, List.nil_append, fieldAt_cons, fieldAt_byte, List.length_cons, List.length_nil,
    readRate_rateByte, yesNo_yesNoByte, readLock_lockByte, fieldAt_two (show e.depthE < 65536 by omega),
    fieldAt_two (show e.depthC < 65536 by omega), fieldAt_four (identNumber_lt _), readPair_pair, hE, hC]
  simp [h1, h2, h3, h4, h5, h6, h7, h8]

theorem identFormat_pair (p : IdPair) : (identFormat p.request).toNat ≤ 1 := by
  cases p <;> simp [identFormat, IdPair.request]

theorem decodeChannel_encode {e : ChannelEntry} (h : channelValid e) : decodeChannel (encodeChannel e) = some e := by
  obtain ⟨h1, h2, h3, h4, h5, h6, h7, h8⟩ := h
  have hx : (byte e.extTimeout).toNat = e.extTimeout := byte_toNat (by omega)
  have ha : (byte e.maxAllowance).toNat = e.maxAllowance := byte_toNat (by omega)
  have hg : (byte e.minGap).toNat = e.minGap := byte_toNat (by omega)
  have ho : (byte e.openClasses.toNat).toNat = e.openClasses.toNat := byte_toNat (by omega)
  have hf := identFormat_pair e.ids
  have hn : (netByte e.port).toNat ≤ 1 := by cases e.port <;> decide
  have hhead : (byte ((if e.live then 128 else 0) + (netByte e.port).toNat * 64 +
      (identFormat e.ids.request).toNat * 32)).toNat = (if e.live then 128 else 0) + (netByte e.port).toNat * 64 +
      (identFormat e.ids.request).toNat * 32 := byte_toNat (by split <;> omega)
  generalize hhd : (if e.live then 128 else 0) + (netByte e.port).toNat * 64 +
      (identFormat e.ids.request).toNat * 32 = head at hhead
  have hport : head / 64 % 2 = (netByte e.port).toNat := by split at hhd <;> omega
  have hfmt : head / 32 % 2 = (identFormat e.ids.request).toNat := by split at hhd <;> omega
  have hlow : head % 32 = 0 := by split at hhd <;> omega
  have hlive : (128 ≤ head) = (e.live = true) := by
    cases hl : e.live <;> simp [hl] at hhd ⊢ <;> omega
  simp only [decodeChannel, encodeChannel, hhd, beBytes_one, beBytes_two, beBytes_four, List.cons_append,
    List.nil_append, fieldAt_cons, fieldAt_byte, List.length_cons, List.length_nil, hhead, hport, hfmt,
    fieldAt_two (show e.replyTimeout < 65536 by omega), fieldAt_four (identNumber_lt _), readPair_pair,
    readNet_netByte, hx, ha, hg, ho, hlow, hlive]
  have ho16 : e.openClasses.toNat < 16 := e.openClasses.isLt
  have hlab : byte e.label.toNat = e.label := by simp [byte]
  simp [h1, h2, h3, h4, h5, h6, h7, ho16, hlab]
  simpa using h8

theorem decodeCode_encode {e : CodeEntry} (h : codeValid e) : decodeCode (encodeCode e) = some e := by
  have hc : (decide (e.cls = .reprogram)) = e.role.isSome := by
    cases hr : e.role.isSome
    · simpa [codeValid, hr] using h
    · simpa [codeValid, hr] using h
  simp only [decodeCode, encodeCode, fieldAt_cons, fieldAt_byte, List.length_cons, List.length_nil,
    readClass_classByte, readRole_roleByte, hc]
  simp

theorem decodePolicy_encode {i : Fin 5} {e : PolicyEntry} (h : policyValid i e) :
    decodePolicy i (encodePolicy e) = some e := by
  have hr : (byte e.required.toNat).toNat = e.required.toNat := byte_toNat (by omega)
  have h32 : e.required.toNat < 32 := e.required.isLt
  simp only [decodePolicy, encodePolicy, fieldAt_cons, fieldAt_byte, List.length_cons, List.length_nil,
    yesNo_yesNoByte, hr]
  simpa [h32] using h

theorem decodeSignal_encode {e : SignalEntry} (h : signalValid e) : decodeSignal (encodeSignal e) = some e := by
  obtain ⟨h1, h2, h3, h4, h5, h6, h7⟩ := h
  have hle : (if e.wide = true then 65535 else 255) ≤ 65535 := by split <;> omega
  have ho : (byte e.offset).toNat = e.offset := byte_toNat (by omega)
  have hw : e.wide = true ∨ e.first ≤ 255 ∧ e.second ≤ 255 := by
    cases hb : e.wide
    · simp [hb] at h5 h6; exact .inr ⟨h5, h6⟩
    · exact .inl rfl
  simp only [decodeSignal, encodeSignal, beBytes_two, beBytes_four, List.cons_append, List.nil_append, fieldAt_cons,
    fieldAt_byte, List.length_cons, List.length_nil, yesNo_yesNoByte, readNet_netByte, readTest_testByte, ho,
    fieldAt_two (show e.stale < 65536 by omega), fieldAt_two (show e.first < 65536 by omega),
    fieldAt_two (show e.second < 65536 by omega), fieldAt_four (identNumber_lt _), readIdent_identNumber]
  rw [if_neg (by decide), if_pos ⟨h1, h2, h3, h4, hw, h7⟩]

theorem decodeMirror_encode {e : MirrorEntry} (h : mirrorValid e) : decodeMirror (encodeMirror e) = some e := by
  simp only [decodeMirror, encodeMirror, beBytes_two, beBytes_four, List.cons_append, List.nil_append, fieldAt_cons,
    fieldAt_byte, List.length_cons, List.length_nil, yesNo_yesNoByte, readNet_netByte,
    fieldAt_two (show e.interval < 65536 by omega), fieldAt_four (matchValue_lt _), fieldAt_four (matchMask_lt _),
    readMatch_match]
  simp [h]

theorem encodeRegion_eq (r : Region) : encodeRegion r =
    [yesNoByte r.live, byte (r.start / 256 / 256 / 256), byte (r.start / 256 / 256), byte (r.start / 256),
      byte r.start, byte (r.length / 256 / 256 / 256), byte (r.length / 256 / 256), byte (r.length / 256),
      byte r.length, yesNoByte r.writeBar, yesNoByte r.eraseBar] := rfl

theorem encodeRegion_length (r : Region) : (encodeRegion r).length = 11 := by rw [encodeRegion_eq]; rfl

theorem decodeRegion_encode {r : Region} (h : regionValid r) : decodeRegion (encodeRegion r) = some r := by
  obtain ⟨h1, h2, h3⟩ := h
  have hlive : r.live = false ∨ (r.start % 256 = 0 ∧ r.length % 256 = 0 ∧ 256 ≤ r.length ∧
      r.length ≤ 2 ^ 32 - 256 ∧ r.start + r.length ≤ 2 ^ 32) := by
    cases hb : r.live
    · exact .inl rfl
    · obtain ⟨h4, h5, h6, h7⟩ := h3 hb
      exact .inr ⟨h4, h5, h6, by omega, h7⟩
  simp only [decodeRegion, encodeRegion_eq, fieldAt_cons, fieldAt_byte, yesNo_yesNoByte, fieldAt_four h1,
    fieldAt_four h2]
  rw [if_pos hlive]

theorem regions_eq (v : Vector Region 3) : #v[v.get 0, v.get 1, v.get 2] = v := by
  apply Vector.ext
  intro i hi
  obtain rfl | rfl | rfl : i = 0 ∨ i = 1 ∨ i = 2 := by omega
  all_goals rfl

theorem decodeMap_encode {m : RegionMap} (h : mapValid m) : decodeMap (encodeMap m) = some m := by
  obtain ⟨h1, h2, h3, h4, h5⟩ := h
  have he : (byte m.exponent).toNat = m.exponent := byte_toNat h2
  have hl : (byte m.level).toNat = m.level := byte_toNat (by omega)
  have hp : m.present = false ∨ (m.base % 4096 = 0 ∧ 12 ≤ m.exponent ∧ m.exponent ≤ 28 ∧
      m.base + 2 ^ m.exponent ≤ 2 ^ 32) := by
    cases hb : m.present
    · exact .inl rfl
    · exact .inr (h4 hb)
  have hr : ∀ (a b : List Byte), a.length = 11 → (a ++ b).take 11 = a := fun a b ha => by
    rw [← ha, List.take_left]
  have hd : ∀ (a b : List Byte), a.length = 11 → (a ++ b).drop 11 = b := fun a b ha => by
    rw [← ha, List.drop_left]
  have hlen := encodeRegion_length
  have h0 : ((encodeMap m).drop 9).take 11 = encodeRegion (m.regions.get 0) := by
    show (encodeRegion (m.regions.get 0) ++ encodeRegion (m.regions.get 1) ++ encodeRegion (m.regions.get 2)).take 11 = _
    rw [List.append_assoc, hr _ _ (hlen _)]
  have h20 : ((encodeMap m).drop 20).take 11 = encodeRegion (m.regions.get 1) := by
    show ((encodeRegion (m.regions.get 0) ++ encodeRegion (m.regions.get 1) ++
      encodeRegion (m.regions.get 2)).drop 11).take 11 = _
    rw [List.append_assoc, hd _ _ (hlen _), hr _ _ (hlen _)]
  have h31 : ((encodeMap m).drop 31).take 11 = encodeRegion (m.regions.get 2) := by
    show ((encodeRegion (m.regions.get 0) ++ encodeRegion (m.regions.get 1) ++
      encodeRegion (m.regions.get 2)).drop (11 + 11)).take 11 = _
    rw [List.append_assoc, ← List.drop_drop, hd _ _ (hlen _), hd _ _ (hlen _), List.take_of_length_le (hlen _).le]
  have hlen42 : (encodeMap m).length = 42 := by
    simp [encodeMap, beBytes_four, hlen]
  have hf : encodeMap m = yesNoByte m.present :: byte (m.base / 256 / 256 / 256) :: byte (m.base / 256 / 256) ::
      byte (m.base / 256) :: byte m.base :: byte m.exponent :: byte m.level :: yesNoByte (!m.top) ::
      yesNoByte m.complement :: (encodeRegion (m.regions.get 0) ++ encodeRegion (m.regions.get 1) ++
        encodeRegion (m.regions.get 2)) := rfl
  simp only [decodeMap, hlen42, h0, h20, h31, decodeRegion_encode (h5 _)]
  rw [hf]
  simp only [fieldAt_cons, fieldAt_byte, yesNo_yesNoByte, fieldAt_four h1, he, hl]
  rw [if_neg (by decide), if_pos ⟨h3, hp⟩, regions_eq]
  simp

theorem encodeEntry_length (e : TableEntry) : (encodeEntry e).length = imageLength (tableOf e) := by
  cases e with
  | map i m => simp [encodeEntry, imageLength, tableOf, encodeMap, beBytes_four, encodeRegion_length]
  | _ => rfl

/-- An entry within its ranges is read back from its image. -/
theorem readEntry_encodeEntry {e : TableEntry} (h : entryValid e) :
    readEntry (tableOf e) (entryNumber (tableOf e) (entryPlace e)) (encodeEntry e) = some e := by
  cases e with
  | portSettings e => simp [readEntry, tableOf, entryNumber, entryPlace, encodeEntry, decodePortSettings_encode h]
  | channel i e => simp [readEntry, tableOf, entryNumber, entryPlace, encodeEntry, decodeChannel_encode h]
  | code i e =>
    have hi := i.isLt
    simp [readEntry, tableOf, entryNumber, entryPlace, encodeEntry, decodeCode_encode h, show i.val + 1 ≤ 126 by omega]
  | policy i e => simp [readEntry, tableOf, entryNumber, entryPlace, encodeEntry, decodePolicy_encode h]
  | signal i e => simp [readEntry, tableOf, entryNumber, entryPlace, encodeEntry, decodeSignal_encode h]
  | mirror i e => simp [readEntry, tableOf, entryNumber, entryPlace, encodeEntry, decodeMirror_encode h]
  | map i e => simp [readEntry, tableOf, entryNumber, entryPlace, encodeEntry, decodeMap_encode h]

/-- Settles O13: each image is as long as its table's entries, and each entry reads back from its image, by table. -/
theorem tableEntryImagesReadBack : Obligations.TableEntryImagesReadBack :=
  fun e h => ⟨encodeEntry_length e, readEntry_encodeEntry h⟩

end Sys2Proof.Machine
end

section
/-! The laws of the tables: their ranges (R159), what a stored map bars (R111), and the identifiers apart (R19), kept by
every deed. -/

namespace Sys2Proof.Machine

open Sys2Proof Sys2Proof.Safety

variable {D : Prop} {a : Bool} {k : Known} {s t : State}

/-! ### The ranges of the tables (R159) -/

/-- Every entry of a copy is within its rule's ranges. -/
structure TablesValid (tb : Tables) : Prop where
  ports    : portSettingsValid tb.ports
  channels : ∀ i, channelValid (tb.channels.get i)
  codes    : ∀ i, codeValid (tb.codes.get i)
  policies : ∀ i, policyValid i (tb.policies.get i)
  signals  : ∀ i, signalValid (tb.signals.get i)
  mirrors  : ∀ i, mirrorValid (tb.mirrors.get i)
  maps     : ∀ i, mapValid (tb.maps.get i)

theorem tablesLaw_iff (s : State) : tablesLaw s ↔ TablesValid s.tables ∧
    (∀ c, ∀ m ∈ s.inspector.overlays.get c, mapValid m) ∧
    ∀ e c id, StoreRequest.tableEntry e c id ∈ s.store.queue → entryValid e := by
  constructor
  · rintro ⟨h1, h2, h3, h4, h5, h6, h7, h8, h9⟩
    exact ⟨⟨h1, h2, h3, h4, h5, h6, h7⟩, h8, fun e c id hm => h9 _ hm⟩
  · rintro ⟨⟨h1, h2, h3, h4, h5, h6, h7⟩, h8, h9⟩
    refine ⟨h1, h2, h3, h4, h5, h6, h7, h8, fun r hr => ?_⟩
    cases r
    case tableEntry e c id => exact h9 e c id hr
    all_goals trivial

theorem tablesLaw_of (ht : TablesValid s.tables → TablesValid t.tables)
    (ho : ∀ c, ∀ m ∈ t.inspector.overlays.get c, m ∈ s.inspector.overlays.get c)
    (hq : ∀ e c id, StoreRequest.tableEntry e c id ∈ t.store.queue → .tableEntry e c id ∈ s.store.queue ∨ entryValid e)
    (h : tablesLaw s) : tablesLaw t := by
  obtain ⟨h1, h2, h3⟩ := (tablesLaw_iff s).1 h
  refine (tablesLaw_iff t).2 ⟨ht h1, fun c m hm => h2 c m (ho c m hm), fun e c id hm => ?_⟩
  obtain hm | hv := hq e c id hm
  · exact h3 e c id hm
  · exact hv

theorem tableEntry_append {l q : List StoreRequest} (h : q = [] ∨ ∃ e, q = [.append e]) {e : TableEntry}
    {c : Option (Nat × Fin 8)} {id : Nat} (hm : StoreRequest.tableEntry e c id ∈ l ++ q) : .tableEntry e c id ∈ l := by
  obtain rfl | ⟨e, rfl⟩ := h
  · simpa using hm
  · simpa using hm

theorem tablesLaw_append {q : List StoreRequest} (h : q = [] ∨ ∃ e, q = [.append e])
    (ht : t.tables = s.tables) (ho : t.inspector.overlays = s.inspector.overlays)
    (hq : t.store.queue = s.store.queue ++ q) (hs : tablesLaw s) : tablesLaw t :=
  tablesLaw_of (by rw [ht]; exact id) (by rw [ho]; exact fun _ _ => id)
    (fun e c id hm => .inl (tableEntry_append h (hq ▸ hm))) hs

theorem mem_resolvedOverlays {x c : Fin 16} {m : RegionMap} (h : m ∈ (resolvedOverlays s x).get c) :
    m ∈ s.inspector.overlays.get c := by
  unfold resolvedOverlays at h
  split at h
  · rw [put_get] at h
    split at h
    · cases h
    · exact h
  · exact h

theorem resolvedMaps_get (s : State) (x c : Fin 16) :
    (resolvedMaps s x).get c = if c = x then (s.inspector.overlays.get x).getD (s.tables.maps.get x)
      else s.tables.maps.get c := by
  unfold resolvedMaps
  split
  · next m hm =>
    rw [put_get, hm]
    rfl
  · next hm =>
    split
    · next e => rw [e, hm]; rfl
    · rfl

theorem Move.tablesLaw (hm : Move D a s t) (h : tablesLaw s) : tablesLaw t := by
  cases hm with
  | inert t hi =>
    exact tablesLaw_of (by rw [hi.tables]; exact id) (by rw [hi.overlays]; exact fun _ _ => id)
      (by rw [hi.queue]; exact fun _ _ _ => .inl) h
  | ports t e _ => rw [e]; exact h
  | release n => rw [testHead_touches]; exact h
  | credit n v _ => cases n <;> exact h
  | exchanges t e _ => rw [e]; exact h
  | push r hr =>
    refine tablesLaw_of (s := s) id (fun _ _ => id) (fun e c id hm => ?_) h
    obtain hm | hm := List.mem_append.1 hm
    · exact .inl hm
    · obtain rfl : StoreRequest.tableEntry e c id = r := by simpa using hm
      exact .inr hr.1
  | append d g i c =>
    obtain ⟨q, m, n, e, hq⟩ := appendEntry_shape d g i c s; rw [e]; exact tablesLaw_append (s := s) hq rfl rfl rfl h
  | window w v x _ _ _ => exact h
  | spend w v x d g i c _ _ _ =>
    obtain ⟨q, m, n, e, hq⟩ := writeEntry_shape d g i c (setWindow w (some x) s)
    rw [e]
    exact tablesLaw_append (s := s) hq rfl rfl rfl h
  | windowGone w v x _ _ =>
    rw [removeWindow_shape]
    refine tablesLaw_of (s := s) (fun hv => { hv with maps := fun i => ?_ }) (fun c m => mem_resolvedOverlays)
      (fun _ _ _ => .inl) h
    show mapValid ((resolvedMaps s x.channel).get i)
    rw [resolvedMaps_get]
    split
    · cases ho : s.inspector.overlays.get x.channel with
      | none => exact hv.maps _
      | some m => exact ((tablesLaw_iff s).1 h).2.1 x.channel m ho
    · exact hv.maps i
  | grant n f _ => exact h
  | grantClosed g cause _ =>
    obtain ⟨q, m, n, l, e, hq⟩ := grantClose_shape g cause s
    rw [e]
    exact tablesLaw_append (s := s) hq rfl rfl rfl h
  | checkingEnds g _ => exact h
  | challengeGone => exact h
  | challengeIssued ch _ _ _ _ _ => exact h

theorem tablesLaw_setQueue {q : List StoreRequest} (hq : ∀ r ∈ q, r ∈ s.store.queue ∨ ∃ n id, r = .trim n id)
    (h : tablesLaw s) : tablesLaw (setQueue q s) := by
  refine tablesLaw_of (s := s) id (fun _ _ => id) (fun e c id hm => .inl ?_) h
  obtain hr | ⟨_, _, he⟩ := hq _ hm
  · exact hr
  · cases he

theorem Deed.tablesLaw (hd : Deed k a s t) (h : tablesLaw s) : tablesLaw t := by
  cases hd with
  | move t hm => exact hm.tablesLaw h
  | content t _ _ _ ht _ _ _ => exact ht h
  | popped r rest _ hq => exact tablesLaw_setQueue (fun r hr => .inl (hq ▸ List.mem_cons_of_mem _ hr)) h
  | clamped n m id rest _ hq =>
    refine tablesLaw_setQueue (fun r hr => ?_) h
    obtain rfl | hr := List.mem_cons.1 hr
    · exact .inr ⟨m, id, rfl⟩
    · exact .inl (hq ▸ List.mem_cons_of_mem _ hr)
  | entryStored e rest _ hq =>
    have h' := tablesLaw_setQueue (s := s) (q := rest) (fun r hr => .inl (hq ▸ List.mem_cons_of_mem _ hr)) h
    exact h'
  | countStored n rest _ hq =>
    have h' := tablesLaw_setQueue (s := s) (q := rest) (fun r hr => .inl (hq ▸ List.mem_cons_of_mem _ hr)) h
    exact h'
  | countPushed n _ =>
    refine tablesLaw_of (s := s) id (fun _ _ => id) (fun e c id hm => .inl ?_) h
    simpa [pushStore] using hm
  | recording n d g i c _ _ =>
    obtain ⟨q, m, n', e, hq⟩ := writeEntry_shape d g i c s; rw [e]; exact tablesLaw_append (s := s) hq rfl rfl rfl h
  | _ => exact h

/-! ### The stored copy (R160, R164) -/

theorem storedContent_of (h : t.store.images = s.store.images) (k : TableId) : storedContent t k = storedContent s k := by
  unfold storedContent storedImage
  rw [h]

theorem storedTables_of (h : t.store.images = s.store.images) : storedTables t = storedTables s := by
  have : storedContent t = storedContent s := funext (storedContent_of h)
  simp [storedTables, this]

theorem storedTables_maps (s : State) : (storedTables s).maps = (storedContent s .regionMap).maps := rfl
theorem storedTables_channels (s : State) : (storedTables s).channels = (storedContent s .channelTable).channels := rfl
theorem storedTables_ports (s : State) : (storedTables s).ports = (storedContent s .portSettings).ports := rfl

theorem fallback_valid : TablesValid .fallback where
  ports := by decide
  channels i := by
    rw [show Tables.fallback.channels.get i = ChannelEntry.fallback by simp [Tables.fallback]]
    decide
  codes i := by
    rw [show Tables.fallback.codes.get i = CodeEntry.fallback by simp [Tables.fallback]]
    decide
  policies i := by
    rw [show Tables.fallback.policies.get i = PolicyEntry.fallback by simp [Tables.fallback]]
    exact fun _ => rfl
  signals i := by
    rw [show Tables.fallback.signals.get i = SignalEntry.fallback by simp [Tables.fallback]]
    decide
  mirrors i := by
    rw [show Tables.fallback.mirrors.get i = MirrorEntry.fallback by simp [Tables.fallback]]
    decide
  maps i := by
    rw [show Tables.fallback.maps.get i = RegionMap.fallback by simp [Tables.fallback]]
    refine ⟨by decide, by decide, by decide, by decide, fun j => ?_⟩
    rw [show RegionMap.fallback.regions.get j = Region.fallback by simp [RegionMap.fallback]]
    decide

theorem getD_of {α : Type} {P : α → Prop} {o : Option α} {d : α} (ho : ∀ x, o = some x → P x) (hd : P d) :
    P (o.getD d) := by
  cases o with
  | none => exact hd
  | some x => exact ho x rfl

theorem tabulate_all {α : Type} {n : Nat} {P : Fin n → α → Prop} {f : Fin n → α} (h : ∀ i, P i (f i)) (i : Fin n) :
    P i ((tabulate n f).get i) := by
  rw [tabulate_get]
  exact h i

theorem tableFrom_valid (k : TableId) (l : List (List Byte)) {tb : Tables} (h : TablesValid tb) :
    TablesValid (tableFrom k l tb) := by
  have hf := fallback_valid
  cases k with
  | portSettings => exact { h with ports := getD_of (fun _ => portSettingsValid_of_decode) hf.ports }
  | channelTable =>
    exact { h with channels := tabulate_all fun _ => getD_of (fun _ => channelValid_of_decode) (by decide) }
  | serviceClassMap =>
    exact { h with codes := tabulate_all fun _ => getD_of (fun _ => codeValid_of_decode) (by decide) }
  | classPolicy =>
    exact { h with policies := tabulate_all fun _ => getD_of (fun _ => policyValid_of_decode) fun _ => rfl }
  | signalTable =>
    exact { h with signals := tabulate_all fun _ => getD_of (fun _ => signalValid_of_decode) (by decide) }
  | mirrorList =>
    exact { h with mirrors := tabulate_all fun _ => getD_of (fun _ => mirrorValid_of_decode) (by decide) }
  | regionMap =>
    refine { h with maps := tabulate_all fun _ => getD_of (fun _ => mapValid_of_decode) ?_ }
    have := hf.maps 0
    rwa [show Tables.fallback.maps.get 0 = RegionMap.fallback by simp [Tables.fallback]] at this

theorem storedContent_valid (s : State) (k : TableId) : TablesValid (storedContent s k) := by
  unfold storedContent
  split
  · exact tableFrom_valid k _ fallback_valid
  · exact fallback_valid

theorem take_valid (k : TableId) {tb src : Tables} (h : TablesValid tb) (h' : TablesValid src) :
    TablesValid (tb.take k src) := by
  cases k with
  | portSettings => exact { h with ports := h'.ports }
  | channelTable => exact { h with channels := h'.channels }
  | serviceClassMap => exact { h with codes := h'.codes }
  | classPolicy => exact { h with policies := h'.policies }
  | signalTable => exact { h with signals := h'.signals }
  | mirrorList => exact { h with mirrors := h'.mirrors }
  | regionMap => exact { h with maps := h'.maps }

theorem storedTables_valid (s : State) : TablesValid (storedTables s) := by
  have key : ∀ (l : List TableId) (tb : Tables), TablesValid tb →
      TablesValid (l.foldl (fun tb t => tb.take t (storedContent s t)) tb) := by
    intro l
    induction l with
    | nil => exact fun _ h => h
    | cons k l ih => exact fun tb h => ih _ (take_valid k h (storedContent_valid s k))
  exact key allTables _ fallback_valid

end Sys2Proof.Machine
end

section
/-! What the stored maps bar stays barred (R109 to R111): the comparison of two maps, and the law kept by every deed. -/

namespace Sys2Proof.Machine

open Sys2Proof Sys2Proof.Safety

variable {D : Prop} {a : Bool} {k : Known} {s t : State}

/-! ### The comparison of two maps (R110) -/

theorem inBars_iff {l : List (Nat × Nat)} {x : Nat} : inBars l x = true ↔ barred l x := by
  simp [inBars, barred]

/-- The greatest point of a list that is at most `x`, where there is one. -/
theorem exists_greatest_le {l : List Nat} {y x : Nat} (hy : y ∈ l) (hyx : y ≤ x) :
    ∃ b ∈ l, b ≤ x ∧ y ≤ b ∧ ∀ z ∈ l, z ≤ x → z ≤ b := by
  induction l generalizing y with
  | nil => cases hy
  | cons w l ih =>
    by_cases hw : w ≤ x
    · by_cases hex : ∃ z ∈ l, z ≤ x ∧ w ≤ z
      · obtain ⟨z, hz, hzx, hwz⟩ := hex
        obtain ⟨b, hb, hbx, hzb, hmax⟩ := ih hz hzx
        refine ⟨b, List.mem_cons_of_mem _ hb, hbx, ?_, fun v hv hvx => ?_⟩
        · obtain rfl | hy := List.mem_cons.1 hy
          · exact hwz.trans hzb
          · exact hmax y hy hyx
        · obtain rfl | hv := List.mem_cons.1 hv
          · exact hwz.trans hzb
          · exact hmax v hv hvx
      · push Not at hex
        refine ⟨w, List.mem_cons_self, hw, ?_, fun v hv hvx => ?_⟩
        · obtain rfl | hy := List.mem_cons.1 hy
          · exact le_rfl
          · exact (hex y hy hyx).le
        · obtain rfl | hv := List.mem_cons.1 hv
          · exact le_rfl
          · exact (hex v hv hvx).le
    · obtain rfl | hy := List.mem_cons.1 hy
      · exact absurd hyx hw
      · obtain ⟨b, hb, hbx, hyb, hmax⟩ := ih hy hyx
        refine ⟨b, List.mem_cons_of_mem _ hb, hbx, hyb, fun v hv hvx => ?_⟩
        obtain rfl | hv := List.mem_cons.1 hv
        · exact absurd hvx hw
        · exact hmax v hv hvx

/-- The comparison tries the starts of the first set and the ends of the second, which is enough: below an address of the
first set, the greatest of these points is in the first set, and no range of the second ends between it and the
address. -/
theorem coveredBy_iff (small big : List (Nat × Nat)) :
    coveredBy small big = true ↔ ∀ x, barred small x → barred big x := by
  simp only [coveredBy, List.all_eq_true, Bool.or_eq_true, Bool.not_eq_true', ← Bool.not_eq_true, inBars_iff]
  constructor
  · rintro h x ⟨r, hr, hr1, hr2⟩
    obtain ⟨b, hb, hbx, hrb, hmax⟩ := exists_greatest_le
      (List.mem_append_left (big.map Prod.snd) (List.mem_map_of_mem (f := Prod.fst) hr)) hr1
    obtain hn | ⟨q, hq, hq1, hq2⟩ := h b hb
    · exact absurd ⟨r, hr, hrb, hbx.trans_lt hr2⟩ hn
    · refine ⟨q, hq, hq1.trans hbx, ?_⟩
      by_contra hc
      have := hmax q.2 (List.mem_append_right _ (List.mem_map_of_mem hq)) (by omega)
      omega
  · intro h x _
    by_cases hx : barred small x
    · exact .inr (h x hx)
    · exact .inl hx

theorem noLooser_iff (stored new : RegionMap) : noLooser stored new = true ↔
    (∀ x, barred (writeBars stored) x → barred (writeBars new) x) ∧
      ∀ x, barred (eraseBars stored) x → barred (eraseBars new) x := by
  rw [noLooser, Bool.and_eq_true, coveredBy_iff, coveredBy_iff]

/-! ### What stays barred (R111) -/

theorem barred_append {l r : List (Nat × Nat)} {x : Nat} : barred (l ++ r) x ↔ barred l x ∨ barred r x := by
  simp [barred, or_and_right, exists_or]

/-- A map bars every address that another bars, in the same way. -/
structure Bars (m o : RegionMap) : Prop where
  write : ∀ x, barred (writeBars o) x → barred (writeBars m) x
  erase : ∀ x, barred (eraseBars o) x → barred (eraseBars m) x

theorem Bars.refl (m : RegionMap) : Bars m m := ⟨fun _ => id, fun _ => id⟩

/-- What a stored map bars stays barred on a channel, by its working map or by what is laid over it. -/
def Holding (s : State) (c : Fin 16) : Prop :=
  (∀ x, barred (writeBars ((storedTables s).maps.get c)) x → barred (channelWriteBars s c) x) ∧
    ∀ x, barred (eraseBars ((storedTables s).maps.get c)) x → barred (channelEraseBars s c) x

theorem Holding.of_map {c : Fin 16} (h : Bars (s.tables.maps.get c) ((storedTables s).maps.get c)) : Holding s c :=
  ⟨fun x hx => barred_append.2 (.inl (h.write x hx)), fun x hx => barred_append.2 (.inl (h.erase x hx))⟩

theorem Holding.of_overlay {c : Fin 16} {m : RegionMap} (ho : s.inspector.overlays.get c = some m)
    (h : Bars m ((storedTables s).maps.get c)) : Holding s c := by
  refine ⟨fun x hx => ?_, fun x hx => ?_⟩
  · rw [channelWriteBars, ho]
    exact barred_append.2 (.inr (h.write x hx))
  · rw [channelEraseBars, ho]
    exact barred_append.2 (.inr (h.erase x hx))

theorem Holding.of_same {c : Fin 16} (hi : t.store.images = s.store.images)
    (hm : t.tables.maps.get c = s.tables.maps.get c) (ho : t.inspector.overlays.get c = s.inspector.overlays.get c)
    (h : Holding s c) : Holding t c := by
  unfold Holding channelWriteBars channelEraseBars at *
  rw [storedTables_of hi, hm, ho]
  exact h

/-- The stored map table passes its check. -/
def MapsPass (s : State) : Prop :=
  (storedImage s .regionMap).check = checkWord (storedImage s .regionMap).entries

theorem mapsPass_of (hi : t.store.images = s.store.images) : MapsPass t ↔ MapsPass s := by
  unfold MapsPass storedImage
  rw [hi]

theorem barLaw_iff (s : State) : barLaw s ↔ (storedImage s .regionMap).entries.length = 16 ∧
    (MapsPass s → ∀ c, Holding s c) ∧
    ∀ c, ∀ m ∈ s.inspector.overlays.get c, MapsPass s ∧ (storedTables s).maps.get c = m ∧ windowOn s c ≠ none :=
  Iff.rfl

theorem windowOn_ne_none {c : Fin 16} : windowOn s c ≠ none ↔ ∃ w v, s.window w = some v ∧ v.channel = c := by
  constructor
  · intro h
    unfold windowOn at h
    split at h
    · next x hx =>
      split at h
      · next e => exact ⟨0, x, hx, e⟩
      · split at h
        · next y hy =>
          split at h
          · next e => exact ⟨1, y, hy, e⟩
          · exact absurd rfl h
        · exact absurd rfl h
    · split at h
      · next y hy =>
        split at h
        · next e => exact ⟨1, y, hy, e⟩
        · exact absurd rfl h
      · exact absurd rfl h
  · rintro ⟨w, v, hv, e⟩
    unfold windowOn
    obtain rfl | rfl : w = 0 ∨ w = 1 := by omega
    · rw [hv]
      simp [e]
    · rw [hv]
      cases s.window 0 with
      | none => simp [e]
      | some x =>
        by_cases hx : x.channel = c
        · simp [hx]
        · simp [hx, e]

/-- The law depends on the stored maps, the working maps, what is laid over them, and the channels with a window. -/
theorem barLaw_of (hi : t.store.images = s.store.images) (hm : t.tables.maps = s.tables.maps)
    (ho : t.inspector.overlays = s.inspector.overlays)
    (hw : ∀ c, windowOn s c ≠ none → windowOn t c ≠ none) (h : barLaw s) : barLaw t := by
  obtain ⟨h1, h2, h3⟩ := (barLaw_iff s).1 h
  refine (barLaw_iff t).2 ⟨by rw [storedImage, hi]; exact h1, fun hp c => ?_, fun c m hc => ?_⟩
  · exact (h2 ((mapsPass_of hi).1 hp) c).of_same hi (by rw [hm]) (by rw [ho])
  · obtain ⟨h4, h5, h6⟩ := h3 c m (ho ▸ hc)
    exact ⟨(mapsPass_of hi).2 h4, by rw [storedTables_of hi]; exact h5, hw c h6⟩

theorem windowOn_of (h : t.inspector.windows = s.inspector.windows) (c : Fin 16) : windowOn t c = windowOn s c := by
  unfold windowOn State.window
  rw [h]

theorem barLaw_same (hi : t.store.images = s.store.images) (hm : t.tables.maps = s.tables.maps)
    (hn : t.inspector = s.inspector) (h : barLaw s) : barLaw t :=
  barLaw_of hi hm (by rw [hn]) (fun c hc => by rw [windowOn_of (s := s) (by rw [hn])]; exact hc) h

theorem windowOn_setWindow_some {w : Fin 2} {v x : Window} (hv : s.window w = some v) (hc : x.channel = v.channel)
    (c : Fin 16) (h : windowOn s c ≠ none) : windowOn (setWindow w (some x) s) c ≠ none := by
  obtain ⟨u, y, hy, e⟩ := windowOn_ne_none.1 h
  refine windowOn_ne_none.2 ?_
  by_cases hu : u = w
  · subst hu
    obtain rfl : v = y := Option.some.inj (hv.symm.trans hy)
    exact ⟨u, x, by simp, hc.trans e⟩
  · exact ⟨u, y, by rw [setWindow_window, if_neg hu]; exact hy, e⟩

theorem windowOn_setWindow_none {w : Fin 2} {v : Window} (hv : s.window w = some v) {c : Fin 16} (hc : c ≠ v.channel)
    (h : windowOn s c ≠ none) : windowOn (setWindow w none s) c ≠ none := by
  obtain ⟨u, y, hy, e⟩ := windowOn_ne_none.1 h
  refine windowOn_ne_none.2 ⟨u, y, ?_, e⟩
  rw [setWindow_window, if_neg]
  · exact hy
  · rintro rfl
    obtain rfl : v = y := Option.some.inj (hv.symm.trans hy)
    exact hc e.symm

/-- A window's end resolves the overlay of its channel, which is the stored map: the working map takes it (R111). -/
theorem barLaw_removeWindow {w : Fin 2} {v x : Window} (hv : s.window w = some v) (hc : x.channel = v.channel)
    (h : barLaw s) : barLaw (removeWindow w x s) := by
  obtain ⟨h1, h2, h3⟩ := (barLaw_iff s).1 h
  rw [removeWindow_shape]
  refine (barLaw_iff _).2 ⟨h1, fun hp c => ?_, fun c m hm => ?_⟩
  · have hmaps := resolvedMaps_get s x.channel c
    cases ho : s.inspector.overlays.get c with
    | none =>
      refine Holding.of_same (s := s) rfl ?_ ?_ (h2 hp c)
      · refine hmaps.trans ?_
        split
        · next e => subst e; rw [ho]; rfl
        · rfl
      · show (resolvedOverlays s x.channel).get c = _
        rw [ho]
        cases hr : (resolvedOverlays s x.channel).get c with
        | none => rfl
        | some m => exact absurd (mem_resolvedOverlays hr) (by rw [ho]; simp)
    | some m =>
      obtain ⟨_, h5, _⟩ := h3 c m ho
      by_cases e : c = x.channel
      · refine Holding.of_map ?_
        show Bars ((resolvedMaps s x.channel).get c) ((storedTables s).maps.get c)
        rw [hmaps, if_pos e, ← e, ho, h5]
        exact .refl m
      · refine Holding.of_same (s := s) rfl (hmaps.trans (if_neg e)) ?_ (h2 hp c)
        show (resolvedOverlays s x.channel).get c = _
        unfold resolvedOverlays
        split
        · rw [put_get, if_neg e]
        · rfl
  · have hs := mem_resolvedOverlays hm
    obtain ⟨h4, h5, h6⟩ := h3 c m hs
    refine ⟨h4, h5, ?_⟩
    have hne : c ≠ x.channel := by
      rintro rfl
      have hm' : m ∈ (resolvedOverlays s x.channel).get x.channel := hm
      unfold resolvedOverlays at hm'
      split at hm'
      · rw [put_get_self] at hm'; cases hm'
      · next hn => rw [show _ = some m from hs] at hn; cases hn
    exact windowOn_setWindow_none (s := s) hv (hc ▸ hne) h6

theorem Move.barLaw (hm : Move D a s t) (h : barLaw s) : barLaw t := by
  cases hm with
  | inert t hi =>
    exact barLaw_of hi.images (by rw [hi.tables]) hi.overlays (fun c hc => by rwa [windowOn_of hi.windows]) h
  | ports t e _ => rw [e]; exact h
  | release n => rw [testHead_touches]; exact h
  | credit n v _ => cases n <;> exact h
  | exchanges t e _ => rw [e]; exact h
  | push r _ => exact h
  | append d g i c => obtain ⟨q, m, n, e, _⟩ := appendEntry_shape d g i c s; rw [e]; exact h
  | window w v x hv hc _ => exact barLaw_of (s := s) rfl rfl rfl (windowOn_setWindow_some hv hc) h
  | spend w v x d g i c hv hc _ =>
    obtain ⟨q, m, n, e, _⟩ := writeEntry_shape d g i c (setWindow w (some x) s)
    rw [e]
    exact barLaw_of (s := s) rfl rfl rfl (windowOn_setWindow_some hv hc) h
  | windowGone w v x hv hc => exact barLaw_removeWindow hv hc h
  | grant n f _ => exact h
  | grantClosed g cause _ => obtain ⟨q, m, n, l, e, _⟩ := grantClose_shape g cause s; rw [e]; exact h
  | checkingEnds g _ => exact h
  | challengeGone => exact h
  | challengeIssued ch _ _ _ _ _ => exact h

theorem Deed.barLaw (hd : Deed k a s t) (ht : Safety.tablesLaw s) (h : barLaw s) : barLaw t := by
  cases hd with
  | move t hm => exact hm.barLaw h
  | content t _ _ _ _ hb _ _ => exact hb ht h
  | recording n d g i c _ _ => obtain ⟨q, m, n', e, _⟩ := writeEntry_shape d g i c s; rw [e]; exact h
  | _ => exact barLaw_same (s := s) rfl rfl rfl h

/-! ### The identifiers apart (R19) -/

theorem copiesApart_of (hi : t.store.images = s.store.images) (hc : t.tables.channels = s.tables.channels)
    (hw : t.tables.ports.wPair = s.tables.ports.wPair) (hp : t.tables.ports.cPair = s.tables.ports.cPair)
    (h : copiesApart s) : copiesApart t := by
  obtain ⟨h1, h2, h3⟩ := h
  unfold copiesApart clearOfManagement
  rw [hc, hw, hp, storedTables_of hi]
  exact ⟨h1, h2, h3⟩

theorem Move.copiesApart (hm : Move D a s t) (h : copiesApart s) : copiesApart t := by
  cases hm with
  | inert t hi => exact copiesApart_of hi.images (by rw [hi.tables]) (by rw [hi.tables]) (by rw [hi.tables]) h
  | ports t e _ => rw [e]; exact h
  | release n => rw [testHead_touches]; exact h
  | credit n v _ => cases n <;> exact h
  | exchanges t e _ => rw [e]; exact h
  | push r _ => exact h
  | append d g i c => obtain ⟨q, m, n, e, _⟩ := appendEntry_shape d g i c s; rw [e]; exact h
  | window w v x _ _ _ => exact h
  | spend w v x d g i c _ _ _ =>
    obtain ⟨q, m, n, e, _⟩ := writeEntry_shape d g i c (setWindow w (some x) s); rw [e]; exact h
  | windowGone w v x _ _ => rw [removeWindow_shape]; exact h
  | grant n f _ => exact h
  | grantClosed g cause _ => obtain ⟨q, m, n, l, e, _⟩ := grantClose_shape g cause s; rw [e]; exact h
  | checkingEnds g _ => exact h
  | challengeGone => exact h
  | challengeIssued ch _ _ _ _ _ => exact h

theorem Deed.copiesApart (hk : k.apart) (hd : Deed k a s t) (ht : Safety.tablesLaw s) (h : copiesApart s) :
    copiesApart t := by
  cases hd with
  | move t hm => exact hm.copiesApart h
  | content t _ _ _ _ _ hc _ => exact hc hk ht h
  | recording n d g i c _ _ => obtain ⟨q, m, n', e, _⟩ := writeEntry_shape d g i c s; rw [e]; exact h
  | _ => exact h

end Sys2Proof.Machine
end

section
/-! The commands that do more than a course of moves, as runs of deeds: the digest's completion, the end of a lockout, and
the completions of store operations but those that write a table. -/

namespace Sys2Proof.Machine

open Sys2Proof Sys2Proof.Safety

variable {a : Bool} {k : Known} {s t : State}

/-! ### The failure count (R94, R95, R97) -/

theorem works_writeFailures {n : Nat} (h : n ≤ 3) (s : State) : Works k a s (writeFailures n s) := by
  unfold writeFailures
  split
  · exact (Deed.countPushed n h).works
  · exact Course.works (Inert.course (by constructor <;> rfl))

theorem works_clearFailures (h : k.lockout → s.grants.lockout = none) : Works k a s (clearFailures s) := by
  unfold clearFailures
  split
  · exact .refl
  · exact (Deed.cleared h).works.trans (works_writeFailures (Nat.zero_le _) _)

theorem works_lockoutOver (s : State) : Works k a s (lockoutOver s) := by
  have h : Works k a s { s with grants := { s.grants with lockout := none, failures := 0 } } := (Deed.lockoutEnds).works
  unfold lockoutOver
  split
  · unfold clearFailures
    split
    · next hf =>
      have hf' : s.grants.failures = 0 := hf
      rwa [← hf'] at h
    · exact h.trans (works_writeFailures (Nat.zero_le _) _)
  · exact .refl

/-! ### The digest (R92 to R95) -/

/-- A state with its lockout and failure count set. -/
def setLockout (n : Nat) (l : Option Nat) (s : State) : State :=
  { s with grants := { s.grants with failures := n, lockout := l } }

theorem writeEntry_setLockout (n : Nat) (l : Option Nat) (d : Detail) (g : Option Nat) (i : Option (Fin 8))
    (c : Option (Fin 16)) (s : State) :
    writeEntry d g i c (setLockout n l s) = setLockout n l (writeEntry d g i c s) := by
  unfold writeEntry
  rw [show queueTakesAppend (setLockout n l s) = queueTakesAppend s from rfl]
  split <;> rfl

theorem appendEntry_setLockout (n : Nat) (l : Option Nat) (d : Detail) (g : Option Nat) (i : Option (Fin 8))
    (c : Option (Fin 16)) (s : State) :
    appendEntry d g i c (setLockout n l s) = setLockout n l (appendEntry d g i c s) := by
  unfold appendEntry
  rw [show freeRoom (setLockout n l s) = freeRoom s from rfl, writeEntry_setLockout]
  split <;> rfl

theorem writeFailures_setLockout (m n : Nat) (l : Option Nat) (s : State) :
    writeFailures m (setLockout n l s) = setLockout n l (writeFailures m s) := by
  unfold writeFailures
  rw [show queueTakesAppend (setLockout n l s) = queueTakesAppend s from rfl]
  split <;> rfl

theorem appendEntry_lockout (d : Detail) (g : Option Nat) (i : Option (Fin 8)) (c : Option (Fin 16)) (s : State) :
    (appendEntry d g i c s).grants = s.grants := by
  obtain ⟨q, m, n, e, _⟩ := appendEntry_shape d g i c s
  rw [e]

theorem writeFailures_grants (n : Nat) (s : State) : (writeFailures n s).grants = s.grants := by
  unfold writeFailures
  split <;> rfl

theorem beginLockout_setLockout (slot : Fin 8) (n : Nat) (l : Option Nat) (s : State) :
    beginLockout slot (setLockout n l s) = if n = 3 then
      raiseLockout (appendEntry .lockoutBegan none (some slot) none (setLockout n (some 600000) s))
    else setLockout n l s := rfl

/-- A failed proof counts, and enters itself; at 3 the lockout begins, with an entry and its condition. Count and lockout
may as well be set at once, before the entries. -/
theorem works_failureCounted {n : Nat} (slot : Fin 8) (hn : n ≤ 3) (hd : s.grants.digest = none)
    (hl : k.lockout → s.grants.lockout = none) (hp : k.proof → ∀ g ∈ s.grants.grants, ¬inProof g) :
    Works k a s (beginLockout slot (appendEntry .proofFailed none (some slot) none
      (writeFailures n (setLockout n s.grants.lockout s)))) := by
  have h1 : Works k a s (setLockout n (if n = 3 then some 600000 else s.grants.lockout) s) :=
    (Deed.failed n hn hd hl hp).works
  have h2 : ∀ u : State, Works k a u (appendEntry .proofFailed none (some slot) none (writeFailures n u)) := fun u =>
    (works_writeFailures hn u).trans (Deed.move _ (.append _ _ _ _)).works
  have h3 := h1.trans (h2 _)
  rw [writeFailures_setLockout, appendEntry_setLockout] at h3 ⊢
  rw [beginLockout_setLockout]
  split
  · next h =>
    rw [if_pos h] at h3
    exact h3.trans (.trans (Deed.move _ (.append _ _ _ _)).works (Course.works (course_raise _ _)))
  · next h =>
    rwa [if_neg h] at h3

/-- What is known of the proof that a digest whose result counts belongs to. -/
theorem proof_checking (h : proofLaw s) {d : DigestRun} (hd : s.grants.digest = some d) (hc : d.discarded = false) :
    (∀ g ∈ s.grants.grants, g.number = d.grant → g.state = .checking) ∧
      ∀ g ∈ s.grants.grants, inProof g → g.number = d.grant := by
  obtain ⟨h1, h2, _, h4⟩ := h
  obtain ⟨x, hx, hn, hst⟩ := h4 d hd hc
  refine ⟨fun g hg e => ?_, fun g hg hp => ?_⟩
  · obtain rfl : g = x := number_unique h1 hg hx (e.trans hn.symm)
    exact hst
  · exact (h2 g hg x hx hp (.inl hst)).trans hn

theorem works_proofFailed {d : DigestRun} (hd : s.grants.digest = none) (hl : k.lockout → s.grants.lockout = none)
    (hp : k.proof → (∀ g ∈ s.grants.grants, g.number = d.grant → g.state = .checking) ∧ grantNumbersDistinct s ∧
      ∀ g ∈ s.grants.grants, inProof g → g.number = d.grant) : Works k a s (proofFailed d s) := by
  refine .trans (Deed.proofDropped d.grant fun hk g hg e => .inr ⟨(hp hk).1 g hg e, hd⟩).works
    (.trans ?_ (Course.works (course_answerProof _ _ _)))
  refine works_failureCounted d.slot (Nat.min_le_left _ _) hd hl fun hk g hg hpg => ?_
  obtain ⟨_, hdist, hone⟩ := hp hk
  have hgs : g ∈ s.grants.grants := List.mem_of_mem_eraseP hg
  obtain ⟨l₁, l₂, e, e'⟩ := eraseP_number hdist hgs (hone g hgs hpg)
  rw [grantNumbersDistinct, e] at hdist
  have hg' : g ∈ l₁ ++ l₂ := e' ▸ hg
  have hnd : (g :: (l₁ ++ l₂)).Nodup := by
    have := (List.Nodup.of_map _ hdist)
    exact (List.perm_middle.nodup_iff).1 this
  exact (List.nodup_cons.1 hnd).1 hg'

theorem works_proofMatched {d : DigestRun} (hd : s.grants.digest = none) (hl : k.lockout → s.grants.lockout = none)
    (hp : k.proof → ∀ g ∈ s.grants.grants, g.number = d.grant → g.state = .checking) :
    Works k a s (proofMatched d s) := by
  unfold proofMatched
  split
  · exact works_clearFailures hl
  · next g hg =>
    obtain ⟨_, hn⟩ := findGrant_some hg
    have hpg : k.proof → ∀ x ∈ s.grants.grants, x.number = g.number → x.state = .checking ∧ s.grants.digest = none :=
      fun hk x hx e => ⟨hp hk x hx (e.trans hn), hd⟩
    split
    · exact .trans (Deed.proofDropped g.number fun hk x hx e => .inr (hpg hk x hx e)).works
        (.trans (works_clearFailures hl) (Course.works (course_answerProof _ _ _)))
    · next hr =>
      split
      · refine .trans (Deed.recording g.number _ _ _ _ (by omega) hpg).works (works_clearFailures fun hk => ?_)
        obtain ⟨q, m, n, e, _⟩ := writeEntry_shape (.grantOpened g.channels g.classes g.granted) (some g.number)
          (some g.slot) none s
        rw [e]
        exact hl hk
      · exact .trans (Course.works (Inert.course (t := addUnrecorded 1 s) (by constructor <;> rfl)))
          (.trans (Deed.proofDropped (s := addUnrecorded 1 s) g.number fun hk x hx e => .inr (hpg hk x hx e)).works
            (.trans (works_clearFailures (s := dropGrant g.number (addUnrecorded 1 s)) hl)
              (Course.works (course_answerProof _ _ _))))

theorem works_digestComplete (hl : k.lockout → lockoutLaw s) (hp : k.proof → proofLaw s) :
    Works k a s (digestComplete s) := by
  unfold digestComplete
  split
  · exact .refl
  · next d hd =>
    dsimp only
    refine .trans (Deed.digestOver).works ?_
    split
    · exact .refl
    · next hc =>
      have hc' : d.discarded = false := by simpa using hc
      have hlock : k.lockout → s.grants.lockout = none := fun hk => (hl hk).2.2.1 (by simp [hd])
      split
      · exact works_proofMatched rfl hlock fun hk => (proof_checking (hp hk) hd hc').1
      · refine works_proofFailed rfl hlock fun hk => ?_
        obtain ⟨h1, h2⟩ := proof_checking (hp hk) hd hc'
        exact ⟨h1, (hp hk).1, h2⟩

/-! ### The store's queue (R165) -/

theorem works_popped (hi : ¬k.idle) {r : StoreRequest} {rest : List StoreRequest} (h : s.store.queue = r :: rest) :
    Works k a s (setQueue rest s) := (Deed.popped r rest hi h).works

/-- The next operation begins: those that clash end without writing, and a trim is clamped. -/
theorem works_beginQueue (hi : ¬k.idle) (q : List StoreRequest) (s : State) : Works k a (setQueue q s) (beginQueue q s) := by
  induction q generalizing s with
  | nil => exact .refl
  | cons r rest ih =>
    cases r with
    | tableEntry e c id =>
      cases h : clashes (storedTables s) e with
      | false =>
        rw [show beginQueue (.tableEntry e c id :: rest) s = setQueue (.tableEntry e c id :: rest) s by
          simp [beginQueue, h]]
      | true =>
        rw [show beginQueue (.tableEntry e c id :: rest) s =
          beginQueue rest (answer id (refusalBytes (byte 0x18) .badEntry) s) by simp [beginQueue, h]]
        refine .trans (works_popped hi (s := setQueue (.tableEntry e c id :: rest) s) rfl) (.trans ?_ (ih _))
        exact Course.works (course_answer id _ (setQueue rest s))
    | trim n id => exact (Deed.clamped (s := setQueue (.trim n id :: rest) s) n _ id rest hi rfl).works
    | append e => exact .refl
    | failureCount n => exact .refl
    | credentialWrite i key c id => exact .refl
    | credentialWithdraw i c id => exact .refl
    | lockPolicy p c id => exact .refl

theorem works_beginNext (hi : ¬k.idle) (s : State) : Works k a s (beginNext s) := works_beginQueue hi s.store.queue s

/-- The completion of the operation in progress, by its effect. -/
theorem works_complete (hi : ¬k.idle) {r : StoreRequest} {rest : List StoreRequest} {effect : State → State}
    (h : s.store.queue = r :: rest) (he : Works k a (setQueue rest s) (effect (setQueue rest s))) :
    Works k a s (complete rest effect s) := (works_popped hi h).trans (he.trans (works_beginNext hi _))

theorem works_storeFailed (req : Nat) (code : Byte) (s : State) : Works k a s (storeFailed req code s) :=
  Course.works ((course_raise _ _).trans (course_answer _ _ _))

theorem works_storePassed (req : Nat) (code : Byte) (fields : List Byte) (s : State) :
    Works k a s (storePassed req code fields s) := Course.works (course_answer _ _ _)

/-! ### Completions (R88, R89, R96, R97, R145, R150) -/

/-- The grant that is RECORDING under a number is the only one of that number. -/
theorem recording_only {n : Nat} {g : Grant} (hd : grantNumbersDistinct s)
    (h : s.grants.grants.find? (fun g => g.number == n && g.state == .recording) = some g) :
    ∀ x ∈ s.grants.grants, x.number = n → x.state = .recording := by
  intro x hx e
  have hg := List.mem_of_find?_eq_some h
  have hq := List.find?_some h
  simp only [Bool.and_eq_true, beq_iff_eq] at hq
  obtain rfl : x = g := number_unique hd hx hg (e.trans hq.1.symm)
  exact hq.2

theorem works_grantDecided {n : Nat} {pass : Bool} (ho : pass = true → k.opening)
    (hp : k.proof → grantNumbersDistinct s) : Works k a s (grantDecided n pass s) := by
  unfold grantDecided
  split
  · exact .refl
  · next g hg =>
    have hgm := List.mem_of_find?_eq_some hg
    have hq := List.find?_some hg
    simp only [Bool.and_eq_true, beq_iff_eq] at hq
    split
    · exact .trans (Deed.proofDropped n fun hk x hx e => .inl (recording_only (hp hk) hg x hx e)).works
        (Course.works (course_answerProof _ _ _))
    · next hpass =>
      split
      · refine .trans (Deed.move _ (.grantClosed g _ fun _ => ⟨g, hgm, rfl, rfl, ?_⟩)).works
          (Course.works (course_answerProof _ _ _))
        simp [hq.2]
      · exact .trans (Deed.opened n _ (ho (by simpa using hpass)) fun hk => recording_only (hp hk) hg).works
          (Course.works (course_answerProof _ _ _))

theorem works_reportOpened {e : Entry} {pass : Bool} (ho : pass = true → k.opening)
    (hp : k.proof → grantNumbersDistinct s) : Works k a s (reportOpened e pass s) := by
  unfold reportOpened
  split
  · exact works_grantDecided ho hp
  · exact .refl

theorem works_appendFailed (e : Entry) (s : State) : Works k a s (appendFailed e s) := by
  refine Course.works (Inert.course ?_)
  unfold appendFailed
  dsimp only
  split <;> constructor <;> rfl

theorem works_appendComplete (hi : ¬k.idle) {pass : Bool} (ho : pass = true → k.opening) (hp : k.proof → grantNumbersDistinct s) :
    Works k a s (appendComplete pass s) := by
  unfold appendComplete
  split
  · next e rest hq =>
    cases pass with
    | true =>
      exact .trans (Deed.entryStored e rest hi hq).works
        ((works_reportOpened (s := appendPassed e (setQueue rest s)) ho hp).trans (works_beginNext hi _))
    | false =>
      refine works_complete hi hq (.trans (works_appendFailed e _) (works_reportOpened (fun h => by cases h) fun hk => ?_))
      show grantNumbersDistinct (appendFailed e (setQueue rest s))
      refine distinct_of_table (s := s) ?_ (hp hk)
      unfold appendFailed
      dsimp only
      split <;> rfl
  · exact .refl

theorem works_failureCountWriteComplete (hi : ¬k.idle) (pass : Bool) (s : State) :
    Works k a s (failureCountWriteComplete pass s) := by
  unfold failureCountWriteComplete
  split
  · next n rest hq =>
    cases pass with
    | true => exact .trans (Deed.countStored n rest hi hq).works (works_beginNext hi _)
    | false =>
      refine works_complete hi hq ?_
      show Works k a _ (raiseStoreFail (setQueue rest s))
      exact Course.works (course_raise _ _)
  · exact .refl

theorem works_trimComplete (hi : ¬k.idle) (pass : Bool) (s : State) : Works k a s (trimComplete pass s) := by
  unfold trimComplete
  split
  · next n req rest hq =>
    cases pass with
    | true => exact works_complete hi hq (.trans (Deed.trimmed n).works (works_storePassed _ _ _ _))
    | false => exact works_complete hi hq (works_storeFailed _ _ _)
  · exact .refl

theorem course_storeSlot {D : Prop} (i : Fin 8) (x : Slot) (s : State) : Course D a s (storeSlot i x s) :=
  Inert.course (by constructor <;> rfl)

theorem works_credentialWriteComplete (hi : ¬k.idle) (pass : Bool) (s : State) : Works k a s (credentialWriteComplete pass s) := by
  unfold credentialWriteComplete
  split
  · next i key carrier req rest hq =>
    cases pass with
    | true =>
      exact works_complete hi hq (.trans (Course.works (.trans (course_storeSlot _ _ _) (.single (.append _ _ _ _))))
        (works_storePassed _ _ _ _))
    | false => exact works_complete hi hq (works_storeFailed _ _ _)
  · exact .refl

theorem course_dropChallenge {D : Prop} (i : Fin 8) (s : State) : Course D a s (dropChallenge i s) := by
  unfold dropChallenge
  split
  · split
    · exact .single .challengeGone
    · exact .refl
  · exact .refl

theorem dropChallenge_table (i : Fin 8) (s : State) : (dropChallenge i s).grants.grants = s.grants.grants := by
  unfold dropChallenge
  split
  · split <;> rfl
  · rfl

theorem works_credentialWithdrawComplete (hi : ¬k.idle) (pass : Bool) (hd : k.distinct → grantNumbersDistinct s) :
    Works k a s (credentialWithdrawComplete pass s) := by
  unfold credentialWithdrawComplete
  split
  · next i carrier req rest hq =>
    cases pass with
    | true =>
      refine works_complete hi hq (.trans (Course.works (.trans (course_storeSlot _ _ _) (.trans (.single (.append _ _ _ _))
        (.trans (course_dropChallenge i _) (course_endGrants _ fun hk => ⟨?_, fun g hg => List.mem_of_mem_filter hg⟩)))))
        (works_storePassed _ _ _ _))
      refine List.Nodup.sublist ((List.filter_sublist).map _) (distinct_of_table (s := s) ?_ (hd hk))
      rw [dropChallenge_table, appendEntry_lockout]
      rfl
    | false => exact works_complete hi hq (works_storeFailed _ _ _)
  · exact .refl

end Sys2Proof.Machine
end

section
/-! Writes and reloads of the working tables as runs of deeds (R3, R34, R85, R110, R138, R159, R161). -/

namespace Sys2Proof.Machine

open Sys2Proof Sys2Proof.Safety

variable {a : Bool} {k : Known} {s t : State}

/-! ### A change of the working tables -/

theorem works_tables (ht : t = { s with tables := t.tables, mirror := t.mirror, signals := t.signals })
    (hp : t.tables.ports = s.tables.ports) (hv : TablesValid s.tables → TablesValid t.tables)
    (hb : tablesLaw s → barLaw s → barLaw t) (hc : copiesApart s → copiesApart t) : Works k a s t := by
  refine (Deed.content t ?_ (creditLaw_of (by rw [ht]) hp) (fun p => ?_) (tablesLaw_of hv ?_ ?_) hb (fun _ _ => hc)
    fun _ => by rw [ht]).works
  · rw [ht]; constructor <;> rfl
  · rw [show t.port p = s.port p by rw [ht]; rfl]; exact id
  · rw [ht]; exact fun _ _ => id
  · rw [ht]; exact fun _ _ _ => .inl

/-- A change of the working tables that leaves the maps, the channels and the ports. -/
theorem works_plain (ht : t = { s with tables := t.tables, mirror := t.mirror, signals := t.signals })
    (hp : t.tables.ports = s.tables.ports) (hm : t.tables.maps = s.tables.maps)
    (hch : t.tables.channels = s.tables.channels) (hv : TablesValid s.tables → TablesValid t.tables) :
    Works k a s t := by
  refine works_tables ht hp hv (fun _ => barLaw_same (by rw [ht]) hm (by rw [ht])) ?_
  exact copiesApart_of (by rw [ht]) hch (by rw [hp]) (by rw [hp])

theorem put_all {α : Type} {n : Nat} {P : Fin n → α → Prop} {v : Vector α n} {i : Fin n} {x : α} (hx : P i x)
    (hv : ∀ j, P j (v.get j)) (j : Fin n) : P j ((put v i x).get j) := by
  rw [put_get]
  split
  · next e => exact e ▸ hx
  · exact hv j

/-! ### Identifiers (R19, R20) -/

theorem clashesManagement_false {p : PortSettings} {e : ChannelEntry} :
    clashesManagement p e = false ↔ (e.live = true →
      outside p.wPair e.ids.request ∧ outside p.wPair e.ids.response ∧
        (e.port = .C → outside p.cPair e.ids.request ∧ outside p.cPair e.ids.response)) := by
  have hin : ∀ (q : IdPair) i, inPair q i = false ↔ outside q i := fun q i => by
    simp only [inPair, Bool.or_eq_false_iff, beq_eq_false_iff_ne]
    exact and_congr ne_comm ne_comm
  cases hl : e.live with
  | false => simp [clashesManagement, hl]
  | true =>
    cases hport : e.port <;> simp [clashesManagement, hl, hport, hin, and_assoc]

theorem clearOfManagement_iff (tb : Tables) :
    clearOfManagement tb ↔ ∀ i, clashesManagement tb.ports (tb.channels.get i) = false := by
  simp only [clashesManagement_false]

theorem any_toList_false {α : Type} {n : Nat} {v : Vector α n} {p : α → Bool} :
    v.toList.any p = false ↔ ∀ i, p (v.get i) = false := by
  rw [List.any_eq_false]
  constructor
  · intro h i
    simpa using h (v.get i) (by simp [Vector.get_eq_getElem])
  · intro h x hx
    obtain ⟨i, hi, rfl⟩ := List.mem_iff_getElem.1 hx
    have hi' : i < n := by simpa using hi
    have := h ⟨i, hi'⟩
    simpa [Vector.get_eq_getElem] using this

theorem channelClash_false {tb : Tables} {i : Fin 16} {e : ChannelEntry} (h : channelClash tb i e = false) :
    clashesManagement tb.ports e = false ∧ ∀ j, j ≠ i → clashesEntry e (tb.channels.get j) = false := by
  simp only [channelClash, Bool.or_eq_false_iff, List.any_eq_false] at h
  refine ⟨h.1, fun j hj => ?_⟩
  simpa [hj] using h.2 j (List.mem_finRange j)

/-- Two entries that do not clash are apart, in either order. -/
theorem apart_of_clashesEntry {x y : ChannelEntry} (h : clashesEntry x y = false) (hx : x.live = true)
    (hy : y.live = true) : x.ids.request ≠ y.ids.request ∧ x.ids.request ≠ y.ids.response ∧
      x.ids.response ≠ y.ids.request ∧ (x.port = y.port → x.ids.response ≠ y.ids.response) := by
  simp only [clashesEntry, hx, hy, Bool.true_and, Bool.or_eq_false_iff, beq_eq_false_iff_ne, Bool.and_eq_false_iff,
    ne_eq] at h
  obtain ⟨⟨⟨h1, h2⟩, h3⟩, h4⟩ := h
  exact ⟨h1, h2, h3, fun e => h4.resolve_left (fun hn => hn e)⟩

/-- An entry that clashes with no other may take its place. -/
theorem channelsApart_of {l l' : Vector ChannelEntry 16} {i : Fin 16} {e : ChannelEntry}
    (hl : ∀ j, l'.get j = l.get j ∨ j = i ∧ l'.get j = e)
    (he : ∀ j, j ≠ i → clashesEntry e (l.get j) = false) (h : channelsApart l) : channelsApart l' := by
  have hsame : ∀ j, j ≠ i → l'.get j = l.get j := fun j hj => (hl j).resolve_right fun hc => hj hc.1
  intro x y hxy hx hy
  obtain ex | ⟨rfl, ex⟩ := hl x
  · rw [ex] at hx ⊢
    obtain ey | ⟨rfl, ey⟩ := hl y
    · rw [ey] at hy ⊢
      exact h x y hxy hx hy
    · rw [ey] at hy ⊢
      obtain ⟨h1, h2, h3, h4⟩ := apart_of_clashesEntry (he x hxy) hy hx
      exact ⟨h1.symm, h3.symm, fun e => (h4 e.symm).symm⟩
  · rw [hsame y hxy.symm] at hy ⊢
    rw [ex] at hx ⊢
    obtain ⟨h1, h2, _, h4⟩ := apart_of_clashesEntry (he y hxy.symm) hx hy
    exact ⟨h1, h2, h4⟩

theorem copiesApart_putChannel {i : Fin 16} {e : ChannelEntry} (h : channelClash s.tables i e = false)
    (hs : copiesApart s) : copiesApart { s with tables := { s.tables with channels := put s.tables.channels i e } } := by
  obtain ⟨h1, h2, h3⟩ := hs
  obtain ⟨hm, he⟩ := channelClash_false h
  refine ⟨channelsApart_of (fun j => ?_) he h1, (clearOfManagement_iff _).2 fun j => ?_, h3⟩
  · show (put s.tables.channels i e).get j = _ ∨ _ ∧ (put s.tables.channels i e).get j = _
    rw [put_get]
    split
    · next e' => exact .inr ⟨e', rfl⟩
    · exact .inl rfl
  · show clashesManagement s.tables.ports ((put s.tables.channels i e).get j) = false
    rw [put_get]
    split
    · exact hm
    · exact (clearOfManagement_iff _).1 h2 j

/-! ### Port Settings (R3, R20, R138) -/

theorem clampCredit_eq (p : PortSettings) (n : Net) (s : State) :
    clampCredit p n s = { s with meter := (clampCredit p n s).meter } := by cases n <;> rfl

/-- New Port Settings with their rates and the credits clamped to their ceilings. -/
def settingsApplied (p : PortSettings) (s : State) : State :=
  clampCredit p .C (clampCredit p .E (applyRates s.tables.ports p { s with tables := { s.tables with ports := p } }))

theorem settingsApplied_shape (p : PortSettings) (s : State) : settingsApplied p s = { s with
    tables := { s.tables with ports := p }
    part := { s.part with draws := s.part.draws + 1 }
    ports := (settingsApplied p s).ports
    meter := (settingsApplied p s).meter } := by
  unfold settingsApplied
  rw [clampCredit_eq p .C, clampCredit_eq p .E, applyRates_touches]

theorem applyRates_port (old new : PortSettings) (s : State) (q : Port) :
    ∃ r, (applyRates old new s).port q = { s.port q with rate := r } := by
  have key : ∀ p (u : State), ∃ r, (applyRate old new u p).port q = { u.port q with rate := r } := by
    intro p u
    obtain h | ⟨_, h⟩ := applyRate_cases old new u p
    · exact ⟨(u.port q).rate, by rw [h]⟩
    · refine ⟨if q = p then settingsRate new p else (u.port q).rate, ?_⟩
      rw [h, setPort_port]
      split
      · next e => rw [e]
      · rfl
  obtain ⟨r1, h1⟩ := key .W s
  obtain ⟨r2, h2⟩ := key .E (applyRate old new s .W)
  obtain ⟨r3, h3⟩ := key .C (applyRate old new (applyRate old new s .W) .E)
  refine ⟨r3, ?_⟩
  rw [show (applyRates old new s).port q = (applyRate old new (applyRate old new (applyRate old new s .W) .E) .C).port q
    by cases q <;> rfl, h3, h2, h1]

theorem settingsApplied_port (p : PortSettings) (s : State) (q : Port) :
    ∃ r, (settingsApplied p s).port q = { s.port q with rate := r } := by
  obtain ⟨r, h⟩ := applyRates_port s.tables.ports p { s with tables := { s.tables with ports := p } } q
  refine ⟨r, ?_⟩
  rw [show (settingsApplied p s).port q =
    (applyRates s.tables.ports p { s with tables := { s.tables with ports := p } }).port q by cases q <;> rfl, h]
  cases q <;> rfl

theorem creditLaw_settingsApplied (p : PortSettings) (s : State) : creditLaw (settingsApplied p s) := by
  have ht : (settingsApplied p s).tables.ports = p := by rw [settingsApplied_shape]
  refine (ceiling_iff _).2 fun n => ?_
  rw [ht]
  cases n
  · exact Nat.min_le_right _ _
  · exact Nat.min_le_right _ _

/-- New Port Settings take effect, and the heads are tested (R138). -/
theorem works_applyPorts {p : PortSettings} (hv : portSettingsValid p)
    (hc : clearOfManagement s.tables → clearOfManagement { s.tables with ports := p }) :
    Works k a s (applyPorts p s) := by
  have hw : Works k a s (settingsApplied p s) := by
    refine (Deed.content _ ?_ (fun _ => creditLaw_settingsApplied p s) (fun q => ?_) ?_ ?_ ?_
      fun _ => by rw [settingsApplied_shape]).works
    · rw [settingsApplied_shape]; constructor <;> rfl
    · obtain ⟨r, h⟩ := settingsApplied_port p s q
      rw [h]
      exact fun hl => hl
    · rw [settingsApplied_shape]
      exact tablesLaw_of (s := s) (fun h => { h with ports := hv }) (fun _ _ => id) fun _ _ _ => .inl
    · rw [settingsApplied_shape]
      exact fun _ => barLaw_same (s := s) rfl rfl rfl
    · rw [settingsApplied_shape]
      exact fun _ _ h => ⟨h.1, hc h.2.1, h.2.2⟩
  exact hw.trans (Course.works (.trans (.single (.release .E)) (.single (.release .C))))

theorem clear_of_portsClash {p : PortSettings} (h : portsClash s.tables p = false)
    (hs : clearOfManagement s.tables) : clearOfManagement { s.tables with ports := p } := by
  simp only [portsClash, Bool.and_eq_false_iff, Bool.or_eq_false_iff, bne_eq_false_iff_eq] at h
  obtain ⟨hw, hp⟩ | ⟨_, h⟩ := h
  · intro i hl
    have := hs i hl
    rw [← hw, ← hp] at this
    exact this
  · exact (clearOfManagement_iff _).2 fun i => any_toList_false.1 h i

/-! ### Maps (R110) -/

theorem mergeMarks_valid {m o : RegionMap} (hm : mapValid m) : mapValid (mergeMarks o m) := by
  obtain ⟨h1, h2, h3, h4, h5⟩ := hm
  refine ⟨h1, h2, h3, h4, fun i => ?_⟩
  rw [show (mergeMarks o m).regions.get i = { m.regions.get i with
    writeBar := (m.regions.get i).writeBar || (o.regions.get i).writeBar,
    eraseBar := (m.regions.get i).eraseBar || (o.regions.get i).eraseBar } by simp [mergeMarks]]
  exact h5 i

theorem mapsPass_iff (s : State) : MapsPass s ↔ (storedImage s .regionMap).passes = true := by
  simp [MapsPass, Image.passes]

theorem Bars.of_noLooser {m o : RegionMap} (h : noLooser o m = true) : Bars m o :=
  ⟨((noLooser_iff o m).1 h).1, ((noLooser_iff o m).1 h).2⟩

theorem barLaw_putMap {i : Fin 16} {m : RegionMap} (h : MapsPass s → Bars m ((storedTables s).maps.get i))
    (hs : barLaw s) : barLaw { s with tables := { s.tables with maps := put s.tables.maps i m } } := by
  obtain ⟨h1, h2, h3⟩ := (barLaw_iff s).1 hs
  refine (barLaw_iff _).2 ⟨h1, fun hp c => ?_, h3⟩
  by_cases e : c = i
  · subst e
    refine .of_map ?_
    rw [show ({ s.tables with maps := put s.tables.maps c m } : Tables).maps.get c = m from put_get_self _ _ _]
    exact h hp
  · exact Holding.of_same (s := s) rfl ((put_get _ _ _ _).trans (if_neg e)) rfl (h2 hp c)

/-! ### Table Write of the working copy (R159) -/

theorem works_applyEntry {e : TableEntry} (hv : entryValid e) (hc : clashes s.tables e = false)
    (hl : loosens s e = false) : Works k a s (applyEntry e s) := by
  cases e with
  | portSettings p => exact works_applyPorts hv (clear_of_portsClash hc)
  | channel i c =>
    exact works_tables rfl rfl (fun h => { h with channels := put_all (P := fun _ => channelValid) hv h.channels })
      (fun _ => barLaw_same rfl rfl rfl) (copiesApart_putChannel hc)
  | code i c =>
    exact works_plain rfl rfl rfl rfl fun h => { h with codes := put_all (P := fun _ => codeValid) hv h.codes }
  | policy i p =>
    have hw : Works k a s { s with tables := s.tables.withEntry (.policy i p) } :=
      works_plain rfl rfl rfl rfl fun h => { h with policies := put_all (P := policyValid) hv h.policies }
    unfold applyEntry
    dsimp only
    split
    · exact hw.trans (Course.works (course_testWindows _))
    · exact hw
  | signal i g =>
    have hw : Works k a s { s with tables := s.tables.withEntry (.signal i g), signals := put s.signals i .stale } :=
      works_plain rfl rfl rfl rfl fun h => { h with signals := put_all (P := fun _ => signalValid) hv h.signals }
    exact hw.trans (Course.works (course_reportConditions (conditions s) _))
  | mirror i r =>
    exact works_plain rfl rfl rfl rfl fun h => { h with mirrors := put_all (P := fun _ => mirrorValid) hv h.mirrors }
  | map i m =>
    refine works_tables rfl rfl (fun h => { h with maps := put_all (P := fun _ => mapValid) (mergeMarks_valid hv) h.maps })
      (fun _ => barLaw_putMap fun hp => ?_) (copiesApart_of rfl rfl rfl rfl)
    have hl' : noLooser ((storedContent s .regionMap).maps.get i) (newMap s i m) = true := by
      simpa [loosens, (mapsPass_iff s).1 hp] using hl
    exact .of_noLooser hl'

theorem works_writeWorking (m : Mgmt) (x : MgmtExchange) (s : State) : Works k a s (writeWorking m x s) := by
  have hr : ∀ r, Works k a s (refuse x r s) := fun r => Course.works (course_refuse _ _ _)
  unfold writeWorking
  split
  · exact hr _
  · split
    · exact hr _
    · split
      · exact hr _
      · next e he =>
        split
        · exact hr _
        · next hc =>
          split
          · exact hr _
          · split
            · exact hr _
            · next hl =>
              exact (works_applyEntry (writtenEntry_valid he) (by simpa using hc) (by simpa using hl)).trans
                (Course.works (course_accept _ _ _))

/-! ### Table Reload (R161) -/

theorem reloadClash_false {x : TableId} (h : reloadClash s x = false) (hx : x = .channelTable ∨ x = .portSettings) :
    clearOfManagement (reloaded s x) := by
  simp only [reloadClash, hx, decide_true, Bool.true_and] at h
  exact (clearOfManagement_iff _).2 fun i => any_toList_false.1 h i

theorem works_reloadEffects {x : TableId} (h : reloadClash s x = false) :
    Works k a s (reloadEffects x (reloaded s x) s) := by
  have hv := take_valid x (src := storedContent s x) (tb := s.tables)
  have hst := storedContent_valid s
  cases x with
  | portSettings =>
    exact works_applyPorts (hst _).ports fun _ => reloadClash_false h (.inr rfl)
  | channelTable =>
    refine works_tables rfl rfl (fun ht => hv ht (hst _)) (fun _ => barLaw_same rfl rfl rfl) fun hc => ?_
    exact ⟨hc.2.2, reloadClash_false h (.inl rfl), hc.2.2⟩
  | serviceClassMap => exact works_plain rfl rfl rfl rfl fun ht => hv ht (hst _)
  | classPolicy =>
    have hw : Works k a s { s with tables := reloaded s .classPolicy } :=
      works_plain rfl rfl rfl rfl fun ht => hv ht (hst _)
    exact hw.trans (Course.works (course_testWindows _))
  | signalTable =>
    have hw : Works k a s { s with tables := reloaded s .signalTable, signals := Vector.replicate 4 .stale } :=
      works_plain rfl rfl rfl rfl fun ht => hv ht (hst _)
    exact hw.trans (Course.works (course_reportConditions (conditions s) _))
  | mirrorList => exact works_plain rfl rfl rfl rfl fun ht => hv ht (hst _)
  | regionMap =>
    refine works_tables rfl rfl (fun ht => hv ht (hst _)) (fun _ hb => ?_) (copiesApart_of rfl rfl rfl rfl)
    obtain ⟨h1, _, h3⟩ := (barLaw_iff s).1 hb
    exact (barLaw_iff _).2 ⟨h1, fun _ c => .of_map (.refl _), h3⟩

theorem works_loadTable {x : TableId} (h : reloadClash s x = false) : Works k a s (loadTable s x) := by
  unfold loadTable
  dsimp only
  refine (works_reloadEffects h).trans (Course.works ?_)
  split
  · exact Inert.course (by constructor <;> rfl)
  · exact Inert.course (by constructor <;> rfl)

theorem works_tableReload (m : Mgmt) (x : MgmtExchange) (s : State) : Works k a s (tableReload m x s) := by
  have hr : ∀ r, Works k a s (refuse x r s) := fun r => Course.works (course_refuse _ _ _)
  unfold tableReload
  split
  · exact hr _
  · split
    · exact hr _
    · split
      · exact hr _
      · split
        · exact hr _
        · next hc => exact (works_loadTable (by simpa using hc)).trans (Course.works (course_accept _ _ _))

end Sys2Proof.Machine
end

section
/-! Writes of the stored tables as runs of deeds (R111, R160, R162, R164). -/

namespace Sys2Proof.Machine

open Sys2Proof Sys2Proof.Safety

variable {a : Bool} {k : Known} {s t : State}

/-! ### A stored image with one entry replaced (R164) -/

theorem tableFin_injective : Function.Injective tableFin := by
  intro x y h
  cases x <;> cases y <;> first | rfl | exact absurd h (by decide)

theorem storedImage_writeImage (e : TableEntry) (s : State) (x : TableId) : storedImage (writeImage e s) x =
    if x = tableOf e then Image.of ((baseImages s x).set (entryPlace e) (encodeEntry e)) else storedImage s x := by
  unfold storedImage writeImage setImage
  rw [put_get]
  by_cases h : x = tableOf e
  · rw [if_pos (congrArg tableFin h), if_pos h, h]
  · rw [if_neg (fun hc => h (tableFin_injective hc)), if_neg h]

theorem storedContent_writeImage_ne {e : TableEntry} {x : TableId} (h : x ≠ tableOf e) (s : State) :
    storedContent (writeImage e s) x = storedContent s x := by
  unfold storedContent
  rw [storedImage_writeImage, if_neg h]

theorem storedContent_writeImage_self (e : TableEntry) (s : State) : storedContent (writeImage e s) (tableOf e) =
    tableFrom (tableOf e) ((baseImages s (tableOf e)).set (entryPlace e) (encodeEntry e)) .fallback := by
  unfold storedContent
  rw [storedImage_writeImage, if_pos rfl, Image.of_passes]
  rfl

theorem imageAt_set {l : List (List Byte)} {i : Nat} {b : List Byte} (j : Nat) :
    imageAt (l.set i b) j = if j = i ∧ i < l.length then b else imageAt l j := by
  simp only [imageAt, List.getD_eq_getElem?_getD, List.getElem?_set]
  by_cases h : i = j
  · subst h
    by_cases hl : i < l.length <;> simp [hl]
  · rw [if_neg h, if_neg fun hc => h hc.1.symm]

theorem imageAt_images {tb : Tables} {x : TableId} {i : Nat} (h : i < tableSize x) :
    imageAt (tb.images x) i = encodeEntry (tb.entry x i) := by
  simp [imageAt, Tables.images, h]

theorem fallback_channel (i : Fin 16) : Tables.fallback.channels.get i = .fallback := by simp [Tables.fallback]

theorem fallback_map (i : Fin 16) : Tables.fallback.maps.get i = .fallback := by simp [Tables.fallback]

theorem ofNat_val (i : Fin 16) : Fin.ofNat 16 i.val = i := by ext; simp

/-- The stored channels as their images give them, whether or not the image passes its check. -/
theorem storedChannel_eq (s : State) (i : Fin 16) : (storedTables s).channels.get i =
    (decodeChannel (imageAt (baseImages s .channelTable) i.val)).getD .fallback := by
  rw [storedTables_channels, storedContent, baseImages]
  split
  · exact tabulate_get _ i
  · rw [imageAt_images (show i.val < tableSize .channelTable from i.isLt)]
    have h := decodeChannel_encode (fallback_valid.channels i)
    show _ = (decodeChannel (encodeChannel (Tables.fallback.channels.get (Fin.ofNat 16 i.val)))).getD _
    rw [ofNat_val, h]
    rfl

theorem storedMap_eq (s : State) (i : Fin 16) : (storedTables s).maps.get i =
    (decodeMap (imageAt (baseImages s .regionMap) i.val)).getD .fallback := by
  rw [storedTables_maps, storedContent, baseImages]
  split
  · exact tabulate_get _ i
  · rw [imageAt_images (show i.val < tableSize .regionMap from i.isLt)]
    have h := decodeMap_encode (fallback_valid.maps i)
    show _ = (decodeMap (encodeMap (Tables.fallback.maps.get (Fin.ofNat 16 i.val)))).getD _
    rw [ofNat_val, h]
    rfl

/-- A write of a stored channel changes that channel at most. -/
theorem storedChannel_write {i : Fin 16} {e : ChannelEntry} (he : channelValid e) (s : State) (j : Fin 16) :
    (storedTables (writeImage (.channel i e) s)).channels.get j = (storedTables s).channels.get j ∨
      j = i ∧ (storedTables (writeImage (.channel i e) s)).channels.get j = e := by
  rw [storedTables_channels, show TableId.channelTable = tableOf (.channel i e) from rfl,
    storedContent_writeImage_self, storedChannel_eq]
  show (tabulate 16 _).get j = _ ∨ _ ∧ (tabulate 16 _).get j = _
  rw [tabulate_get, imageAt_set]
  split
  · next h =>
    refine .inr ⟨Fin.ext h.1, ?_⟩
    rw [show encodeEntry (.channel i e) = encodeChannel e from rfl, decodeChannel_encode he]
    rfl
  · exact .inl rfl

/-- A write of a stored map, of a table of 16 images, changes that map alone. -/
theorem storedMap_write {i : Fin 16} {m : RegionMap} (hm : mapValid m) (hl : (baseImages s .regionMap).length = 16)
    (j : Fin 16) : (storedTables (writeImage (.map i m) s)).maps.get j =
      if j = i then m else (storedTables s).maps.get j := by
  rw [storedTables_maps, show TableId.regionMap = tableOf (.map i m) from rfl, storedContent_writeImage_self,
    storedMap_eq]
  show (tabulate 16 _).get j = _
  rw [tabulate_get, imageAt_set]
  by_cases h : j = i
  · have hi : i.val < (baseImages s .regionMap).length := by rw [hl]; exact i.isLt
    rw [if_pos ⟨congrArg Fin.val h, hi⟩, if_pos h, show encodeEntry (.map i m) = encodeMap m from rfl,
      decodeMap_encode hm]
    rfl
  · rw [if_neg fun hc => h (Fin.ext hc.1), if_neg h]
    rfl

theorem baseImages_length (h : barLaw s) : (baseImages s .regionMap).length = 16 := by
  unfold baseImages
  split
  · exact h.1
  · simp [Tables.images, tableSize]

/-! ### What a stored map write leaves of the law of R111 -/

theorem bars_fallback (m : RegionMap) : Bars m .fallback := by
  have hw : writeBars .fallback = [] := by decide
  have he : eraseBars .fallback = [] := by decide
  refine ⟨fun x hx => ?_, fun x hx => ?_⟩
  · rw [hw] at hx
    obtain ⟨r, hr, _⟩ := hx
    cases hr
  · rw [he] at hx
    obtain ⟨r, hr, _⟩ := hx
    cases hr

theorem storedMap_failing (h : ¬MapsPass s) (c : Fin 16) : (storedTables s).maps.get c = .fallback := by
  rw [storedTables_maps, storedContent, if_neg (fun hc => h ((mapsPass_iff s).2 hc))]
  exact fallback_map c

/-- Of a channel whose map and overlay stay, what the new stored map bars stays barred. -/
theorem holding_write {i c : Fin 16} {m : RegionMap} (hs : barLaw s) (hm : mapValid m)
    (hi : t.store.images = (writeImage (.map i m) s).store.images) (hc : c ≠ i)
    (hmaps : t.tables.maps.get c = s.tables.maps.get c)
    (ho : t.inspector.overlays.get c = s.inspector.overlays.get c) : Holding t c := by
  have hst : (storedTables t).maps.get c = (storedTables s).maps.get c := by
    rw [storedTables_of hi, storedMap_write hm (baseImages_length hs), if_neg hc]
  by_cases hp : MapsPass s
  · have := hs.2.1 hp c
    unfold Holding channelWriteBars channelEraseBars at *
    rw [hst, hmaps, ho]
    exact this
  · exact .of_map (by rw [hst, storedMap_failing hp]; exact bars_fallback _)

theorem barLaw_mapWritten {i : Fin 16} {m : RegionMap} (hm : mapValid m) (hs : barLaw s) :
    barLaw (mapFollows (.map i m) (writeImage (.map i m) s)) := by
  have hst : ∀ c, (storedTables (writeImage (.map i m) s)).maps.get c =
      if c = i then m else (storedTables s).maps.get c := storedMap_write hm (baseImages_length hs)
  have himg : storedImage (writeImage (.map i m) s) .regionMap =
      Image.of ((baseImages s .regionMap).set i.val (encodeMap m)) := by
    rw [storedImage_writeImage]; rfl
  have hlen : (storedImage (writeImage (.map i m) s) .regionMap).entries.length = 16 := by
    rw [himg]
    simp [Image.of, baseImages_length hs]
  have hpass : MapsPass (writeImage (.map i m) s) := by
    unfold MapsPass
    rw [himg]
    rfl
  have h3 := ((barLaw_iff s).1 hs).2.2
  unfold mapFollows
  dsimp only
  split
  · next hw =>
    have hw' : windowOn s i ≠ none := by
      intro hc
      rw [show windowOn (writeImage (.map i m) s) i = windowOn s i from rfl, hc] at hw
      cases hw
    refine (barLaw_iff _).2 ⟨hlen, fun _ c => ?_, fun c o ho => ?_⟩
    · by_cases e : c = i
      · subst e
        refine .of_overlay (m := m) (put_get_self _ _ _) ?_
        show Bars m ((storedTables (writeImage (.map c m) s)).maps.get c)
        rw [hst, if_pos rfl]
        exact .refl m
      · exact holding_write hs hm rfl e rfl ((put_get _ _ _ _).trans (if_neg e))
    · refine ⟨hpass, ?_⟩
      by_cases e : c = i
      · subst e
        have hom : m = o := Option.some.inj ((put_get_self _ _ _).symm.trans ho)
        exact ⟨((hst c).trans (if_pos rfl)).trans hom, hw'⟩
      · have ho' : s.inspector.overlays.get c = some o := ((put_get _ _ _ _).trans (if_neg e)).symm.trans ho
        obtain ⟨_, h5, h6⟩ := h3 c o ho'
        exact ⟨((hst c).trans (if_neg e)).trans h5, h6⟩
  · next hw =>
    have hw' : windowOn s i = none := by
      cases hc : windowOn s i with
      | none => rfl
      | some v =>
        rw [show windowOn (writeImage (.map i m) s) i = windowOn s i from rfl, hc] at hw
        exact absurd rfl hw
    refine (barLaw_iff _).2 ⟨hlen, fun _ c => ?_, fun c o ho => ?_⟩
    · by_cases e : c = i
      · subst e
        refine .of_map ?_
        show Bars ((put s.tables.maps c m).get c) ((storedTables (writeImage (.map c m) s)).maps.get c)
        rw [hst, if_pos rfl, put_get_self]
        exact .refl m
      · exact holding_write hs hm rfl e ((put_get _ _ _ _).trans (if_neg e)) rfl
    · obtain ⟨_, h5, h6⟩ := h3 c o ho
      have e : c ≠ i := by
        rintro rfl
        exact h6 hw'
      exact ⟨hpass, ((hst c).trans (if_neg e)).trans h5, h6⟩

/-! ### The completion of a table-entry write (R160) -/

/-- What a passing write leaves, before its entry and its reply. -/
abbrev entryWritten (e : TableEntry) (s : State) : State := mapFollows e (writeImage (storedForm s e) s)

theorem entryValid_storedForm {e : TableEntry} (h : entryValid e) (s : State) : entryValid (storedForm s e) := by
  cases e with
  | portSettings p => exact h
  | _ => exact h

theorem mapFollows_shape (e : TableEntry) (s : State) : mapFollows e s = { s with
    tables := { s.tables with maps := (mapFollows e s).tables.maps }
    inspector := { s.inspector with overlays := (mapFollows e s).inspector.overlays } } := by
  unfold mapFollows
  split
  · split <;> rfl
  · rfl

theorem mapFollows_of_not_map {e : TableEntry} (h : tableOf e ≠ .regionMap) (s : State) : mapFollows e s = s := by
  cases e with
  | map i m => exact absurd rfl h
  | _ => rfl

theorem storedMaps_write_ne {e : TableEntry} (h : tableOf e ≠ .regionMap) (s : State) :
    storedImage (writeImage e s) .regionMap = storedImage s .regionMap ∧
      (storedTables (writeImage e s)).maps = (storedTables s).maps := by
  refine ⟨by rw [storedImage_writeImage, if_neg (Ne.symm h)], ?_⟩
  rw [storedTables_maps, storedTables_maps, storedContent_writeImage_ne (Ne.symm h)]

/-- A write of another table leaves the law of R111. -/
theorem barLaw_write_ne {e : TableEntry} (h : tableOf e ≠ .regionMap) (hs : barLaw s) : barLaw (writeImage e s) := by
  obtain ⟨hi, hm⟩ := storedMaps_write_ne h s
  obtain ⟨h1, h2, h3⟩ := (barLaw_iff s).1 hs
  have hp : MapsPass (writeImage e s) ↔ MapsPass s := by unfold MapsPass; rw [hi]
  refine (barLaw_iff _).2 ⟨by rw [hi]; exact h1, fun hc c => ?_, fun c m ho => ?_⟩
  · have := h2 (hp.1 hc) c
    unfold Holding at *
    rw [hm]
    exact this
  · obtain ⟨h4, h5, h6⟩ := h3 c m ho
    exact ⟨hp.2 h4, by rw [hm]; exact h5, h6⟩

theorem tablesLaw_entryWritten {e : TableEntry} (he : entryValid e) (h : tablesLaw s) : tablesLaw (entryWritten e s) := by
  obtain ⟨h1, h2, h3⟩ := (tablesLaw_iff s).1 h
  cases e with
  | map i m =>
    unfold entryWritten mapFollows
    dsimp only
    split
    · refine (tablesLaw_iff _).2 ⟨h1, fun c o ho => ?_, h3⟩
      have ho' : (put s.inspector.overlays i (some m)).get c = some o := ho
      rw [put_get] at ho'
      split at ho'
      · obtain rfl : m = o := Option.some.inj ho'
        exact he
      · exact h2 c o ho'
    · exact (tablesLaw_iff _).2 ⟨{ h1 with maps := put_all (P := fun _ => mapValid) he h1.maps }, h2, h3⟩
  | _ => exact h

theorem copiesApart_entryWritten {e : TableEntry} (he : entryValid e) (hc : clashes (storedTables s) e = false)
    (h : copiesApart s) : copiesApart (entryWritten e s) := by
  obtain ⟨h1, h2, h3⟩ := h
  have htab : ∀ u : State, (mapFollows e u).tables.channels = u.tables.channels ∧
      (mapFollows e u).tables.ports = u.tables.ports ∧ (mapFollows e u).store = u.store := fun u => by
    rw [mapFollows_shape]; exact ⟨rfl, rfl, rfl⟩
  obtain ⟨e1, e2, e3⟩ := htab (writeImage (storedForm s e) s)
  refine ⟨by rw [e1]; exact h1, ?_, ?_⟩
  · unfold clearOfManagement
    rw [e1, e2]
    exact h2
  · rw [storedTables_of (s := writeImage (storedForm s e) s) (by rw [e3])]
    cases e with
    | channel i c => exact channelsApart_of (storedChannel_write he s) (channelClash_false hc).2 h3
    | _ =>
      rw [storedTables_channels, storedContent_writeImage_ne (by exact fun hc => nomatch hc)]
      exact h3

/-- The stored entry of a passing write, with the map that follows. -/
theorem works_entryWritten (hi : ¬k.idle) {e : TableEntry} (he : tablesLaw s → entryValid e)
    (hc : k.apart → clashes (storedTables s) e = false) : Works k a s (entryWritten e s) := by
  have hshape : entryWritten e s = { s with
      tables := { s.tables with maps := (entryWritten e s).tables.maps }
      inspector := { s.inspector with overlays := (entryWritten e s).inspector.overlays }
      store := { s.store with images := (writeImage (storedForm s e) s).store.images } } := by
    unfold entryWritten
    rw [mapFollows_shape]
    rfl
  refine (Deed.content _ ?_ ?_ ?_ (fun ht => tablesLaw_entryWritten (he ht) ht) (fun ht hb => ?_)
    (fun hk ht => copiesApart_entryWritten (he ht) (hc hk)) fun h => absurd h hi).works
  · rw [hshape]; constructor <;> rfl
  · rw [hshape]; exact fun h => h
  · rw [hshape]; exact fun _ h => h
  · cases e with
    | map i m => exact barLaw_mapWritten (he ht) hb
    | _ => exact barLaw_write_ne (by exact fun hc => nomatch hc) hb

/-- The map follows as well before the entry of its write. -/
theorem mapFollows_append (e : TableEntry) (d : Detail) (g : Option Nat) (i : Option (Fin 8)) (s : State) :
    mapFollows e (appendEntry d g i none s) = appendEntry d g i none (mapFollows e s) := by
  obtain ⟨q, m, n, h, _⟩ := appendEntry_shape d g i none s
  have key : ∀ (f : Vector RegionMap 16 → Vector RegionMap 16)
      (o : Vector (Option RegionMap) 16 → Vector (Option RegionMap) 16) (u : State),
      appendEntry d g i none { u with
        tables := { u.tables with maps := f u.tables.maps }
        inspector := { u.inspector with overlays := o u.inspector.overlays } } =
      { appendEntry d g i none u with
        tables := { (appendEntry d g i none u).tables with maps := f (appendEntry d g i none u).tables.maps }
        inspector := { (appendEntry d g i none u).inspector with
          overlays := o (appendEntry d g i none u).inspector.overlays } } := by
    intro f o u
    unfold appendEntry writeEntry
    rw [show freeRoom { u with
        tables := { u.tables with maps := f u.tables.maps }
        inspector := { u.inspector with overlays := o u.inspector.overlays } } = freeRoom u from rfl]
    rw [show queueTakesAppend { u with
        tables := { u.tables with maps := f u.tables.maps }
        inspector := { u.inspector with overlays := o u.inspector.overlays } } = queueTakesAppend u from rfl]
    split
    · rfl
    · split <;> rfl
  cases e with
  | map c r =>
    unfold mapFollows
    dsimp only
    rw [windowOn_of (s := s) (t := appendEntry d g i none s) (by rw [h])]
    split
    · exact (key id (fun v => put v c (some r)) s).symm
    · exact (key (fun v => put v c r) id s).symm
  | _ => rfl

theorem entryWritten_setQueue (q : List StoreRequest) (e : TableEntry) (s : State) :
    entryWritten e (setQueue q s) = setQueue q (entryWritten e s) := by
  cases e with
  | map i m =>
    unfold entryWritten mapFollows
    dsimp only
    rw [windowOn_of (s := s) (t := writeImage _ (setQueue q s)) rfl, windowOn_of (s := s) (t := writeImage _ s) rfl]
    split <;> rfl
  | _ => rfl

theorem entryWritten_queue (e : TableEntry) (s : State) : (entryWritten e s).store.queue = s.store.queue := by
  unfold entryWritten
  rw [mapFollows_shape]
  rfl

theorem works_tableEntryWriteComplete (hi : ¬k.idle) (pass : Bool)
    (hc : k.apart → ∀ e c id rest, s.store.queue = .tableEntry e c id :: rest → clashes (storedTables s) e = false) :
    Works k a s (tableEntryWriteComplete pass s) := by
  unfold tableEntryWriteComplete
  split
  · next e carrier req rest hq =>
    cases pass with
    | true =>
      have hw : Works k a s (entryWritten e s) := works_entryWritten hi
        (fun ht => ((tablesLaw_iff s).1 ht).2.2 e carrier req (hq ▸ List.mem_cons_self)) fun hk => hc hk e _ _ _ hq
      refine hw.trans ((works_popped hi ((entryWritten_queue e s).trans hq)).trans (.trans ?_ (works_beginNext hi _)))
      rw [← entryWritten_setQueue]
      show Works k a (entryWritten e (setQueue rest s)) (tableWritten e carrier req (setQueue rest s))
      unfold tableWritten appendWritten
      dsimp only
      rw [mapFollows_append]
      exact .trans (Deed.move _ (.append _ _ _ _)).works (works_storePassed _ _ _ _)
    | false => exact works_complete hi hq (works_storeFailed _ _ _)
  · exact .refl

/-! ### The completion of a lock policy write (R162) -/

theorem works_lockWritten (hi : ¬k.idle) (p : LockPolicy) (carrier : Option (Nat × Fin 8)) (req : Nat) (s : State) :
    Works k a s (lockWritten p carrier req s) := by
  let e : TableEntry := .portSettings { (storedTables s).ports with lock := p }
  have hw : Works k a s { writeImage e s with
      tables := { s.tables with ports := { s.tables.ports with lock := p } } } := by
    refine (Deed.content (s := s) _ ?_ ?_ ?_ ?_ (fun _ hb => ?_) (fun _ _ h => ?_) fun h => absurd h hi).works
    · constructor <;> rfl
    · exact fun h => h
    · exact fun _ h => h
    · exact fun h => h
    · exact barLaw_of (s := writeImage e s) rfl rfl rfl (fun _ h => h) (barLaw_write_ne (by exact fun hc => nomatch hc) hb)
    · obtain ⟨h1, h2, h3⟩ := h
      have hch : channelsApart (storedTables (writeImage e s)).channels := by
        rw [storedTables_channels, storedContent_writeImage_ne (by exact fun hc => nomatch hc)]
        exact h3
      exact ⟨h1, h2, Eq.mpr (congrArg (fun tb : Tables => channelsApart tb.channels) (storedTables_of rfl)) hch⟩
  exact hw.trans (.trans (Deed.move _ (.append _ _ _ _)).works (works_storePassed _ _ _ _))

theorem works_lockPolicyWriteComplete (hi : ¬k.idle) (pass : Bool) (s : State) : Works k a s (lockPolicyWriteComplete pass s) := by
  unfold lockPolicyWriteComplete
  split
  · next p carrier req rest hq =>
    cases pass with
    | true => exact works_complete hi hq (works_lockWritten hi _ _ _ _)
    | false => exact works_complete hi hq (works_storeFailed _ _ _)
  · exact .refl

end Sys2Proof.Machine
end

section
/-! How a step goes: a run of deeds, or one of the few things that stand alone, a window taken, a digest started, the
lamp's toggle, a start, a tick. A law that each of these keeps, every step keeps. -/

namespace Sys2Proof.Machine

open Sys2Proof Sys2Proof.Safety

variable {a : Bool} {k : Known} {s t : State}

/-- No waiting write at the head of the queue clashes with the stored copy (R160). -/
def headLaw (s : State) : Prop :=
  ∀ e c id rest, s.store.queue = .tableEntry e c id :: rest → clashes (storedTables s) e = false

/-- How a command that acts on `s` may end. -/
inductive StepCase (k : Known) (s : State) : State → Prop
  | works (t : State) : Works k true s t → StepCase k s t
  | takes (x : PortState) (t : State) : (portLaw (s.port .W) → portLaw x) → TakesThen k.distinct (s.setPort .W x) t →
      StepCase k s t
  | starts (t : State) : StartsThen k.distinct s t → StepCase k s t
  | toggled : k.toggling → StepCase k s { s with grants := { s.grants with lamp := toggleLamp s.grants.lamp } }
  | cold (lines : Levels) : StepCase k s (coldStart lines s)
  | hot (lines : Levels) : StepCase k s (hotStart lines s)

theorem works_serve {m : Mgmt} {code : Nat} {f : MgmtExchange → State → State}
    (h : ∀ x, HoldsMgmt s x → Works k a s (f x s)) : Works k a s (serve m code f s) := by
  unfold serve
  split
  · next x hx => exact h x (HoldsMgmt.of_mgmt (servable_some hx))
  · exact .refl

theorem works_whenAwake {f : State → State} (h : Works k a s (f s)) : Works k a s (whenAwake s f) := by
  unfold whenAwake
  split
  · exact h
  · exact .refl

theorem StepCase.refl (k : Known) (s : State) : StepCase k s s := .works s .refl

theorem stepCase_routerTakesW (s : State) : StepCase k s (whenAwake s (routerTakes .W)) := by
  unfold whenAwake
  split
  · unfold routerTakes
    split
    · exact .refl k s
    · next f rest hrx =>
      have hpop : portLaw (s.port .W) → portLaw { s.port .W with rx := rest } := fun ⟨h1, h⟩ => by
        rw [hrx, List.length_cons] at h1
        exact ⟨(Nat.le_succ _).trans h1, h⟩
      obtain h | h := effect_classifyW (D := k.distinct) f (s.setPort .W { s.port .W with rx := rest })
      · exact .works _ (Course.works ((course_setPort hpop).trans (h true)))
      · exact .takes _ _ hpop h
  · exact .refl k s

theorem stepCase_accessProof (m : Mgmt) (s : State) : StepCase k s (serve m 0x11 (accessProof m) s) := by
  unfold serve
  split
  · next x hx =>
    obtain h | h := effect_accessProof (D := k.distinct) m (HoldsMgmt.of_mgmt (servable_some hx))
    · exact .works _ h.works
    · exact .starts _ h
  · exact .refl k s

theorem stepCase_acclmpToggle (h : k.toggling) (s : State) :
    StepCase k s (whenAwake s (fun s => { s with grants := { s.grants with lamp := toggleLamp s.grants.lamp } })) := by
  unfold whenAwake
  split
  · exact .toggled h
  · exact .refl k s

/-- The commands that complete a store operation. -/
def completesStore : Instr → Bool
  | .appendComplete _ | .failureCountWriteComplete _ | .tableEntryWriteComplete _ | .credentialWriteComplete _
  | .credentialWithdrawComplete _ | .lockPolicyWriteComplete _ | .trimComplete _ => true
  | _ => false

/-- How a command ends, by what is known of the state it acts on. -/
theorem exec_case (c : Instr) (hd : k.distinct → grantNumbersDistinct s) (hl : k.lockout → lockoutLaw s)
    (hp : k.proof → proofLaw s) (ha : k.apart → headLaw s) (hi : completesStore c = true → ¬k.idle)
    (ho : c = .appendComplete true → k.opening) (hg : c = .acclmpToggle → k.toggling) : ∃ t, exec c s = .next t ∧ StepCase k s t := by
  by_cases hc : beyondMoves c = false
  · obtain ⟨t, ht, h⟩ := exec_course (D := k.distinct) c hc hd
    exact ⟨t, ht, .works t h.works⟩
  · cases c with
    | coldStart lines => exact ⟨_, rfl, .cold lines⟩
    | hotStart lines =>
      refine ⟨_, rfl, ?_⟩
      split
      · exact .hot lines
      · exact .refl k s
    | wake _ lines =>
      refine ⟨_, rfl, ?_⟩
      split
      · exact .refl k s
      · exact .hot lines
    | routerTakesFrame p =>
      cases p with
      | W => exact ⟨_, rfl, stepCase_routerTakesW s⟩
      | E => exact absurd rfl hc
      | C => exact absurd rfl hc
    | accessProof m => exact ⟨_, rfl, stepCase_accessProof m s⟩
    | tableWriteWorking m =>
      refine ⟨_, rfl, .works _ (works_serve fun x _ => ?_)⟩
      split
      · exact .refl
      · exact works_writeWorking m x s
    | tableReload m => exact ⟨_, rfl, .works _ (works_serve fun x _ => works_tableReload m x s)⟩
    | appendComplete pass =>
      exact ⟨_, rfl, .works _ (works_whenAwake (works_appendComplete (hi rfl) (fun h => ho (by rw [h]))
        fun hk => (hp hk).1))⟩
    | failureCountWriteComplete pass =>
      exact ⟨_, rfl, .works _ (works_whenAwake (works_failureCountWriteComplete (hi rfl) pass s))⟩
    | tableEntryWriteComplete pass =>
      exact ⟨_, rfl, .works _ (works_whenAwake (works_tableEntryWriteComplete (hi rfl) pass ha))⟩
    | credentialWriteComplete pass =>
      exact ⟨_, rfl, .works _ (works_whenAwake (works_credentialWriteComplete (hi rfl) pass s))⟩
    | credentialWithdrawComplete pass =>
      exact ⟨_, rfl, .works _ (works_whenAwake (works_credentialWithdrawComplete (hi rfl) pass hd))⟩
    | lockPolicyWriteComplete pass =>
      exact ⟨_, rfl, .works _ (works_whenAwake (works_lockPolicyWriteComplete (hi rfl) pass s))⟩
    | trimComplete pass => exact ⟨_, rfl, .works _ (works_whenAwake (works_trimComplete (hi rfl) pass s))⟩
    | digestComplete => exact ⟨_, rfl, .works _ (works_whenAwake (works_digestComplete hl hp))⟩
    | lockoutExpiry => exact ⟨_, rfl, .works _ (works_whenAwake (works_lockoutOver s))⟩
    | acclmpToggle => exact ⟨_, rfl, stepCase_acclmpToggle (hg rfl) s⟩
    | _ => exact absurd rfl hc

/-- A law that each of the things a step is made of keeps. -/
structure Keeps (k : Known) (L : State → Prop) : Prop where
  deed    : ∀ {a s t}, Deed k a s t → L s → L t
  takes   : ∀ {s c w} (g : Nat) (i : Fin 8), Takes s c w → L s → L (takeWindow c g i w s)
  starts  : ∀ {s ch} (tag : List Byte), s.grants.challenge = some ch → s.grants.lockout = none → L s →
    L (startDigest (freeNumber s.grants.grants) ch tag s)
  toggled : ∀ {s : State}, L s → L { s with grants := { s.grants with lamp := toggleLamp s.grants.lamp } }
  cold    : ∀ {s} (lines : Levels), L s → L (coldStart lines s)
  hot     : ∀ {s} (lines : Levels), L s → L (hotStart lines s)
  tick    : ∀ {s}, L s → L (tick s)
  popped  : ∀ {s : State}, L s → L s.popped

theorem Keeps.stepCase {L : State → Prop} (h : Keeps k L) (hc : StepCase k s t) (hs : L s) : L t := by
  have course : ∀ {a s t}, Course k.distinct a s t → L s → L t := fun hc hs => Works.keeps h.deed hc.works hs
  cases hc with
  | works t hw => exact Works.keeps h.deed hw hs
  | takes x t hx ht =>
    obtain ⟨c, g, i, w, hT, hC⟩ := ht
    exact course hC (h.takes g i hT (course (course_setPort (a := true) hx) hs))
  | starts t ht =>
    obtain ⟨ch, tag, h1, h2, hC⟩ := ht
    exact course hC (h.starts tag h1 h2 hs)
  | toggled _ => exact h.toggled hs
  | cold lines => exact h.cold lines hs
  | hot lines => exact h.hot lines hs

/-- What a step is: a tick on an empty queue, or the front command on the queue's rest. -/
theorem step_cases (h : step s = .next t) :
    (s.pending = [] ∧ t = tick s) ∨ ∃ c, s.pending.head? = some c ∧ exec c s.popped = .next t := by
  unfold step at h
  split at h
  · next hp => exact .inl ⟨hp, (Host.Outcome.next.inj h).symm⟩
  · next c rest hp => exact .inr ⟨c, by rw [hp]; rfl, h⟩

theorem Keeps.step {L : State → Prop} (h : Keeps k L) (hd : k.distinct → grantNumbersDistinct s)
    (hl : k.lockout → lockoutLaw s) (hp : k.proof → proofLaw s) (ha : k.apart → headLaw s) (hi : ¬k.idle)
    (ho : k.opening) (hs : L s) (ht : step s = .next t)
    (hg : k.toggling := by trivial) : L t := by
  obtain ⟨_, rfl⟩ | ⟨c, _, hc⟩ := step_cases ht
  · exact h.tick hs
  · obtain ⟨u, hu, hcase⟩ := exec_case (k := k) (s := s.popped) c hd hl hp ha (fun _ => hi) (fun _ => ho) fun _ => hg
    obtain rfl : u = t := Host.Outcome.next.inj (hu.symm.trans hc)
    exact h.stepCase hcase (h.popped hs)

end Sys2Proof.Machine
end

section
/-! The laws of the credit, the record's room, the ports, the exchange list and the windows are kept by every step: what
the starts, a tick, a window taken and a digest started leave of them. -/

namespace Sys2Proof.Machine

open Sys2Proof Sys2Proof.Safety

variable {a : Bool} {k : Known} {s t : State}

/-! ### The shapes of what stands alone -/

/-- A window as it is taken for an Open (R113). -/
def takenWindow (c : Fin 16) (g : Nat) (i : Fin 8) : Window :=
  { channel := c, grant := g, slot := i, state := .openPending, range := none, run := none, inHand := none, grace := none,
    idle := none, hold := none, buffer := none, reservations := 2 }

/-- A grant as a window is taken under it (R104). -/
def boundTo (w : Fin 2) (x : Grant) : Grant := if x.binding = .none then { x with binding := .pending w } else x

theorem takeWindow_eq (c : Fin 16) (g : Nat) (i : Fin 8) (w : Fin 2) (s : State) :
    takeWindow c g i w s = relamp (updateGrant g (boundTo w) (setWindow w (some (takenWindow c g i)) s)) := rfl

theorem takeWindow_shape (c : Fin 16) (g : Nat) (i : Fin 8) (w : Fin 2) (s : State) :
    takeWindow c g i w s = { s with
      inspector := { s.inspector with windows := put s.inspector.windows w (some (takenWindow c g i)) }
      grants := { s.grants with
        grants := modifyFirst (fun x => x.number == g) (boundTo w) s.grants.grants
        lamp := (takeWindow c g i w s).grants.lamp } } := rfl

/-- A tick counts part time down, and everything else while AWAKE. -/
theorem tick_eq (s : State) : tick s = (if s.part.awake then tickSecond (tickAwake s) else tickSecond s) := by
  unfold tick whenAwake
  split <;> rfl

theorem coldStart_eq (lines : Levels) (s : State) : coldStart lines s = loadAll lines (powerLost s) := rfl

/-! ### The credit (R133, R140) -/

theorem keeps_creditLaw : Keeps k creditLaw where
  popped h := h
  deed hd h := hd.creditLaw h
  takes g i _ h := by rw [takeWindow_shape]; exact h
  starts tag _ _ h := h
  toggled h := h
  cold lines _ := ⟨le_rfl, le_rfl⟩
  hot lines _ := ⟨le_rfl, le_rfl⟩
  tick h := by
    rw [tick_eq]
    split
    · exact h
    · exact h

/-- What a law about nothing but the state may rest on: no more than the state itself. -/
abbrev nothingKnown : Known :=
  { distinct := False, lockout := False, proof := False, apart := False, idle := False, opening := True }

/-- Settles O5: each thing a step is made of keeps the credits within their ceilings. -/
theorem everyStepKeepsTheCreditLaw : Obligations.EveryStepKeepsTheCreditLaw := fun _ _ hs ht =>
  (keeps_creditLaw (k := nothingKnown)).step nofun nofun nofun nofun id trivial hs ht

/-! ### The ports (R2, R4, R7 to R10, R135) -/

theorem portLaw_start (r : Rate) (c : Counters) (h : countersInRange c) :
    portLaw { PortState.start r with counters := c } := by
  refine ⟨Nat.zero_le _, Nat.zero_le _, fun f hf => (nomatch hf), h, fun _ => show 0 < 128 by decide, fun _ => rfl, ?_⟩
  simp [PortState.start]

theorem portLaw_restart {x : PortState} (r : Rate) (h : portLaw x) : portLaw (x.restart r) := portLaw_start r _ h.2.2.2.1

theorem portLaw_tick {x : PortState} (h : portLaw x) : portLaw x.tick := by
  obtain ⟨h1, h2, h3, h4, h5, h6, h7⟩ := h
  refine ⟨h1, h2, h3, h4, h5, h6, h7.trans ?_⟩
  cases hr : x.recovery <;> simp [PortState.tick, countDown, hr]

theorem keeps_portsLaw : Keeps k portsLaw where
  popped h := h
  deed hd h := hd.portsLaw h
  takes g i _ h := by rw [takeWindow_shape]; exact h
  starts tag _ _ h := h
  toggled h := h
  cold lines _ := by
    have hz : countersInRange Counters.zero := by decide
    exact ⟨portLaw_start _ _ hz, portLaw_start _ _ hz, portLaw_start _ _ hz⟩
  hot lines h := by
    obtain ⟨hw, he, hc⟩ := h
    exact ⟨portLaw_restart _ hw, portLaw_restart _ he, portLaw_restart _ hc⟩
  tick h := by
    rw [tick_eq]
    split
    · obtain ⟨hw, he, hc⟩ := h
      exact ⟨portLaw_tick hw, portLaw_tick he, portLaw_tick hc⟩
    · exact h

/-- Settles O7: each thing a step is made of keeps FIFOs, queues, counters and withdrawal as the law says. -/
theorem everyStepKeepsThePortLaw : Obligations.EveryStepKeepsThePortLaw := fun _ _ hs ht =>
  (keeps_portsLaw (k := nothingKnown)).step nofun nofun nofun nofun id trivial hs ht

/-! ### The exchange list (R55) -/

theorem exchangeLaw_nil (h : t.exchanges = []) : exchangeLaw t := by
  unfold exchangeLaw pendingChannels pendingMgmt pendingIds
  rw [h]
  exact ⟨List.nodup_nil, List.nodup_nil, List.nodup_nil, fun n hn => (nomatch hn)⟩

theorem exchangeLaw_tick (h : exchangeLaw s) : exchangeLaw (tickAwake s) := by
  refine exchangeLaw_of_keys (s := s) ?_ ?_ ?_ le_rfl h
  · simp only [channelRecords, tickAwake, List.filterMap_map, List.map_filterMap]
    refine List.filterMap_congr fun e _ => ?_
    cases e <;> rfl
  · simp only [mgmtRecords, tickAwake, List.filterMap_map, List.map_filterMap]
    refine List.filterMap_congr fun e _ => ?_
    cases e <;> rfl
  · simp only [tickAwake, List.map_map]
    refine List.map_congr_left fun e _ => ?_
    cases e <;> rfl

theorem keeps_exchangeLaw : Keeps k exchangeLaw where
  popped h := h
  deed hd h := hd.exchangeLaw h
  takes g i _ h := by rw [takeWindow_shape]; exact h
  starts tag _ _ h := h
  toggled h := h
  cold lines _ := exchangeLaw_nil rfl
  hot lines _ := exchangeLaw_nil rfl
  tick h := by
    rw [tick_eq]
    split
    · exact exchangeLaw_tick h
    · exact h

/-- Settles O10: each thing a step is made of keeps the list to one exchange per channel and management channel. -/
theorem everyStepKeepsTheExchangeListLaw : Obligations.EveryStepKeepsTheExchangeListLaw := fun _ _ hs ht =>
  (keeps_exchangeLaw (k := nothingKnown)).step nofun nofun nofun nofun id trivial hs ht

/-! ### The windows (R112) -/

theorem windowLaw_none (h : ∀ w, t.window w = none) : windowLaw t := by
  refine ⟨fun v hv => ?_, fun v hv => ?_, fun v hv => ?_⟩
  · rw [h 0] at hv; cases hv
  · rw [h 0] at hv; cases hv
  · rw [h 1] at hv; cases hv

theorem clear_window (w : Fin 2) : Inspector.clear.windows.get w = none := by simp [Inspector.clear]

theorem windowLaw_take {c : Fin 16} {w : Fin 2} (g : Nat) (i : Fin 8) (hT : Takes s c w) (h : windowLaw s) :
    windowLaw (setWindow w (some (takenWindow c g i)) s) := by
  obtain ⟨_, h2⟩ := (windowLaw_iff s).1 h
  have hne : ∀ u v, s.window u = some v → v.channel ≠ c := fun u v hv e =>
    windowOn_ne_none.2 ⟨u, v, hv, e⟩ hT.channel
  refine (windowLaw_iff _).2 ⟨fun v hv x hx => ?_, fun u v hv => ?_⟩
  · rw [setWindow_window] at hv hx
    obtain rfl | rfl : w = 0 ∨ w = 1 := by omega
    · rw [if_pos rfl] at hv
      rw [if_neg (by decide)] at hx
      obtain rfl : takenWindow c g i = v := Option.some.inj hv
      exact (hne 1 x hx).symm
    · rw [if_neg (by decide)] at hv
      rw [if_pos rfl] at hx
      obtain rfl : takenWindow c g i = x := Option.some.inj hx
      exact hne 0 v hv
  · rw [setWindow_window] at hv
    split at hv
    · obtain rfl : takenWindow c g i = v := Option.some.inj hv
      exact le_rfl
    · exact h2 u v hv

theorem tickAwake_window (s : State) (w : Fin 2) : (tickAwake s).window w = (s.window w).map Window.tick := by
  simp [State.window, tickAwake]

theorem keeps_windowLaw : Keeps k windowLaw where
  popped h := h
  deed hd h := hd.windowLaw h
  takes {s c w} g i hT h := by
    rw [takeWindow_shape]
    exact windowLaw_of (s := setWindow w (some (takenWindow c g i)) s) rfl (windowLaw_take g i hT h)
  starts tag _ _ h := h
  toggled h := h
  cold lines _ := windowLaw_none clear_window
  hot lines _ := windowLaw_none clear_window
  tick {s} h := by
    rw [tick_eq]
    split
    · obtain ⟨h1, h2, h3⟩ := h
      have key : ∀ w v, v ∈ (tickAwake s).window w → ∃ x ∈ s.window w, v = x.tick := fun w v hv => by
        rw [tickAwake_window] at hv
        obtain ⟨x, hx, e⟩ := Option.map_eq_some_iff.1 hv
        exact ⟨x, hx, e.symm⟩
      refine ⟨fun v hv x hx => ?_, fun v hv => ?_, fun v hv => ?_⟩
      · obtain ⟨v', hv', rfl⟩ := key 0 v hv
        obtain ⟨x', hx', rfl⟩ := key 1 x hx
        exact h1 v' hv' x' hx'
      · obtain ⟨v', hv', rfl⟩ := key 0 v hv
        exact h2 v' hv'
      · obtain ⟨v', hv', rfl⟩ := key 1 v hv
        exact h3 v' hv'
    · exact h

/-! ### The record's room (R141, R151) -/

theorem passing_powerLost (s : State) : (passing (powerLost s).store.entries).length ≤ (passing s.store.entries).length := by
  unfold powerLost
  split
  · next r rest hq =>
    cases r with
    | append e =>
      show (passing (storedWith (tornEntry _ e) s.store.entries)).length ≤ _
      rw [passing_storedWith, tornEntry_fails]
      simp
    | trim n id =>
      show (passing (setQueue [] (nextDraw (tear (.trim n id) s))).store.entries).length ≤ _
      simp only [tear]
      split
      · show (passing (trimStored n s.store.entries)).length ≤ _
        rw [passing_trimStored, List.length_drop]
        exact Nat.sub_le _ _
      · exact le_rfl
    | failureCount n => exact le_rfl
    | tableEntry e c id => exact le_rfl
    | credentialWrite i key c id => exact le_rfl
    | credentialWithdraw i c id => exact le_rfl
    | lockPolicy p c id => exact le_rfl
  · exact le_rfl

theorem powerLost_queue (s : State) : (powerLost s).store.queue = [] := by
  unfold powerLost
  split
  · rfl
  · next h => exact h

theorem roomLaw_cold (lines : Levels) (h : roomLaw s) : roomLaw (coldStart lines s) := by
  obtain ⟨h1, _, h3⟩ := h
  have hk : (coldStart lines s).record.kept = passing (powerLost s).store.entries := storedKept_eq _
  refine ⟨?_, List.nodup_nil, hk⟩
  rw [occupied_eq] at h1 ⊢
  have hq : (coldStart lines s).store.queue = [] := powerLost_queue s
  have hg : (coldStart lines s).grants.grants = [] := rfl
  have hw : ∀ w, (coldStart lines s).window w = none := clear_window
  rw [hk, hq, hg, hw, hw]
  have := passing_powerLost s
  rw [h3] at h1
  simp only [List.filterMap_nil, List.length_nil, windowReservations, show grantReservations [] = 0 from rfl]
  omega

theorem roomLaw_hot (lines : Levels) (h : roomLaw s) : roomLaw (hotStart lines s) := by
  obtain ⟨h1, _, h3⟩ := h
  refine ⟨?_, List.nodup_nil, h3⟩
  rw [occupied_eq] at h1 ⊢
  have hw : ∀ w, (hotStart lines s).window w = none := clear_window
  have hg : (hotStart lines s).grants.grants = [] := rfl
  have hk : (hotStart lines s).record.kept = s.record.kept := rfl
  have hq : (hotStart lines s).store.queue = s.store.queue := rfl
  rw [hw, hw, hg, hk, hq]
  simp only [windowReservations, show grantReservations [] = 0 from rfl]
  omega

theorem tick_numbers (l : List Grant) : (l.map Grant.tick).map (·.number) = l.map (·.number) := by
  rw [List.map_map]; rfl

theorem windowReservations_tick (o : Option Window) : windowReservations (o.map Window.tick) = windowReservations o := by
  cases o <;> rfl

theorem grantReservations_tick (l : List Grant) : grantReservations (l.map Grant.tick) = grantReservations l := by
  unfold grantReservations
  rw [List.filter_map, List.length_map]
  rfl

theorem roomLaw_tickAwake (h : roomLaw s) : roomLaw (tickAwake s) := by
  obtain ⟨h1, h2, h3⟩ := h
  refine ⟨?_, ?_, h3⟩
  · rw [occupied_eq] at h1 ⊢
    rw [tickAwake_window, tickAwake_window, windowReservations_tick, windowReservations_tick]
    show s.record.kept.length + (s.store.queue.filterMap appendOf).length +
      (grantReservations (s.grants.grants.map Grant.tick) + _ + _) ≤ 128
    rw [grantReservations_tick]
    exact h1
  · show ((s.grants.grants.map Grant.tick).map (·.number)).Nodup
    rw [tick_numbers]
    exact h2

theorem roomLaw_take {c : Fin 16} {w : Fin 2} (g : Nat) (i : Fin 8) (hT : Takes s c w) (h : roomLaw s) :
    roomLaw (takeWindow c g i w s) := by
  obtain ⟨h1, h2, h3⟩ := h
  have ho := occupied_setWindow w (some (takenWindow c g i)) s
  have hr := hT.room
  rw [hT.free] at ho
  simp only [windowReservations, takenWindow] at ho
  unfold freeRoom at hr
  rw [takeWindow_eq]
  refine roomLaw_of (s := updateGrant g (boundTo w) (setWindow w (some (takenWindow c g i)) s)) rfl rfl rfl rfl rfl
    (roomLaw_updateGrant (fun x _ => ?_) ⟨?_, h2, h3⟩)
  · unfold boundTo
    split <;> exact ⟨rfl, rfl⟩
  · simp only [takenWindow]
    omega

theorem roomLaw_starts {ch : Challenge} (tag : List Byte) (h : roomLaw s) :
    roomLaw (startDigest (freeNumber s.grants.grants) ch tag s) := by
  obtain ⟨h1, h2, h3⟩ := h
  refine ⟨?_, distinct_freeNumber h2 ch, h3⟩
  rw [occupied_eq] at h1 ⊢
  simpa [startDigest, grantReservations_append, grantReservations_cons, checkingGrant, State.window,
    show grantReservations [] = 0 from rfl] using h1

theorem keeps_roomLaw (hk : k.distinct) : Keeps k roomLaw where
  popped h := h
  deed hd h := hd.roomLaw hk h
  takes g i hT h := roomLaw_take g i hT h
  starts tag _ _ h := roomLaw_starts tag h
  toggled h := h
  cold lines h := roomLaw_cold lines h
  hot lines h := roomLaw_hot lines h
  tick h := by
    rw [tick_eq]
    split
    · exact roomLaw_of rfl rfl rfl rfl rfl (roomLaw_tickAwake h)
    · exact roomLaw_of rfl rfl rfl rfl rfl h

/-- What a law that makes the grants' numbers distinct may rest on. -/
abbrev distinctKnown : Known :=
  { distinct := True, lockout := False, proof := False, apart := False, idle := False, opening := True }

/-- Settles O6: each thing a step is made of keeps the record's room and its kept entries. -/
theorem everyStepKeepsTheRecordRoomLaw : Obligations.EveryStepKeepsTheRecordRoomLaw := fun _ _ hs ht =>
  (keeps_roomLaw (k := distinctKnown) trivial).step (fun _ => hs.2.1) nofun nofun nofun id trivial hs ht

end Sys2Proof.Machine
end

section
/-! The laws of the lockout, of the proof and of the Grant Table are kept by every step. -/

namespace Sys2Proof.Machine

open Sys2Proof Sys2Proof.Safety

variable {a : Bool} {k : Known} {s t : State}

/-! ### The lockout (R97) -/

theorem powerLost_failures (s : State) : (powerLost s).store.failures.value = s.store.failures.value := by
  unfold powerLost
  split
  · next r rest hq =>
    cases r with
    | trim n id =>
      simp only [tear]
      split <;> rfl
    | _ => rfl
  · rfl

theorem loadedFailures_le {n : StoredNumber} (h : n.value ≤ 3) : loadedFailures n ≤ 3 := by
  unfold loadedFailures
  split
  · exact h
  · exact le_rfl

theorem lockoutLaw_cold (lines : Levels) (h : lockoutLaw s) : lockoutLaw (coldStart lines s) := by
  obtain ⟨_, _, _, h4, _⟩ := h
  have hv : (powerLost s).store.failures.value ≤ 3 := (powerLost_failures s).trans_le h4
  have hq : (coldStart lines s).store.queue = [] := powerLost_queue s
  refine ⟨loadedFailures_le hv, ?_, nofun, hv, fun n hn => ?_⟩
  · show (if loadedFailures _ = 3 then some 600000 else none).isSome = true ↔ loadedFailures _ = 3
    split
    · next e => simp [e]
    · next e => simp [e]
  · rw [mem_queuedCounts, hq] at hn
    cases hn

theorem lockoutLaw_hot (lines : Levels) (h : lockoutLaw s) : lockoutLaw (hotStart lines s) := by
  obtain ⟨h1, h2, _, h4⟩ := h
  exact ⟨h1, h2, nofun, h4⟩

theorem countDown_isSome (o : Option Nat) : (countDown o).isSome = o.isSome := by cases o <;> rfl

theorem lockoutLaw_tickAwake (h : lockoutLaw s) : lockoutLaw (tickAwake s) := by
  obtain ⟨h1, h2, h3, h4⟩ := h
  refine ⟨h1, ?_, fun hd => ?_, h4⟩
  · show (countDown s.grants.lockout).isSome = true ↔ _
    rw [countDown_isSome]
    exact h2
  · show countDown s.grants.lockout = none
    rw [h3 hd]
    rfl

theorem keeps_lockoutLaw (hk : k.lockout) : Keeps k lockoutLaw where
  popped h := h
  deed hd h := hd.lockoutLaw hk h
  takes g i _ h := by rw [takeWindow_shape]; exact h
  starts tag _ hl h := ⟨h.1, h.2.1, fun _ => hl, h.2.2.2⟩
  toggled h := h
  cold lines h := lockoutLaw_cold lines h
  hot lines h := lockoutLaw_hot lines h
  tick h := by
    rw [tick_eq]
    split
    · exact lockoutLaw_tickAwake h
    · exact h

/-! ### What grants descend from, through a step -/

theorem Works.stem (hk : ¬k.opening) (h : Works k a s t) : Stem a s t :=
  Works.relates (R := Stem a) (fun _ => .of_eq rfl) Stem.trans (fun hd => hd.stem hk) h

theorem Course.stem {D : Prop} (h : Course D a s t) : Stem a s t :=
  Course.relates (R := Stem a) (fun _ => .of_eq rfl) Stem.trans (fun hm => hm.stem) h

/-! ### The proof (R91, R93, R98) -/

theorem proofLaw_none (hg : t.grants.grants = []) (hd : t.grants.digest = none) : proofLaw t := by
  unfold proofLaw grantNumbersDistinct
  rw [hg, hd]
  exact ⟨List.nodup_nil, nofun, nofun, nofun⟩

theorem boundTo_regrant (w : Fin 2) (x : Grant) : (boundTo w x).number = x.number ∧ (boundTo w x).state = x.state ∧
    (boundTo w x).reservation = x.reservation ∧ (grantInRange x → grantInRange (boundTo w x)) := by
  unfold boundTo
  split
  · exact ⟨rfl, rfl, rfl, id⟩
  · exact ⟨rfl, rfl, rfl, id⟩

theorem mem_takeWindow {c : Fin 16} {g : Nat} {i : Fin 8} {w : Fin 2} {y : Grant}
    (h : y ∈ (takeWindow c g i w s).grants.grants) :
    y ∈ s.grants.grants ∨ ∃ x ∈ s.grants.grants, y = boundTo w x := by
  obtain h | ⟨x, hx, _, e⟩ := mem_updateGrant (s := s) (f := boundTo w) h
  · exact .inl h
  · exact .inr ⟨x, hx, e⟩

theorem proofLaw_take (c : Fin 16) (g : Nat) (i : Fin 8) (w : Fin 2) (h : proofLaw s) :
    proofLaw (takeWindow c g i w s) := by
  refine proofLaw_of (s := s) (distinct_of_table (s := updateGrant g (boundTo w) s) rfl
    (distinct_updateGrant (fun x _ => (boundTo_regrant w x).1) h.1)) (fun y hy hp => ?_) (.inl rfl) (.inl rfl)
    (fun d hd _ => ⟨hd, fun y hy _ hst => ?_⟩) h
  · obtain hy | ⟨x, hx, rfl⟩ := mem_takeWindow hy
    · exact ⟨y, hy, rfl, hp⟩
    · obtain ⟨e1, e2, _, _⟩ := boundTo_regrant w x
      exact ⟨x, hx, e1.symm, by rwa [inProof, e2] at hp⟩
  · obtain hy' | ⟨_, hy'⟩ := mem_updateGrant_of (s := s) (n := g) (f := boundTo w) hy
    · exact ⟨y, hy', rfl, hst⟩
    · obtain ⟨e1, e2, _, _⟩ := boundTo_regrant w y
      exact ⟨boundTo w y, hy', e1, e2.trans hst⟩

theorem proofLaw_starts {ch : Challenge} (tag : List Byte) (hc : s.grants.challenge = some ch)
    (hl : s.grants.lockout = none) (h : proofLaw s) :
    proofLaw (startDigest (freeNumber s.grants.grants) ch tag s) := by
  obtain ⟨h1, _, h3, _⟩ := h
  have hnone : ∀ g ∈ s.grants.grants, ¬inProof g := fun g hg hp => by
    rw [(h3 g hg hp).1] at hc
    cases hc
  have key : ∀ g ∈ (startDigest (freeNumber s.grants.grants) ch tag s).grants.grants, inProof g →
      g = checkingGrant (freeNumber s.grants.grants) ch := fun g hg hp => by
    obtain hg | hg := List.mem_append.1 hg
    · exact absurd hp (hnone g hg)
    · simpa using hg
  refine ⟨distinct_freeNumber h1 ch, fun g hg y hy hpg hpy => ?_, fun g hg hpg => ⟨rfl, hl⟩, fun d hd _ => ?_⟩
  · rw [key g hg hpg, key y hy hpy]
  · refine ⟨checkingGrant (freeNumber s.grants.grants) ch, List.mem_append_right _ (List.mem_singleton.2 rfl), ?_, rfl⟩
    obtain rfl := Option.some.inj hd
    rfl

theorem mem_tickAwake {y : Grant} : y ∈ (tickAwake s).grants.grants ↔ ∃ x ∈ s.grants.grants, y = x.tick := by
  show y ∈ s.grants.grants.map Grant.tick ↔ _
  rw [List.mem_map]
  exact ⟨fun ⟨x, hx, e⟩ => ⟨x, hx, e.symm⟩, fun ⟨x, hx, e⟩ => ⟨x, hx, e.symm⟩⟩

theorem distinct_tickAwake (h : grantNumbersDistinct s) : grantNumbersDistinct (tickAwake s) := by
  show ((s.grants.grants.map Grant.tick).map (·.number)).Nodup
  rw [tick_numbers]
  exact h

theorem proofLaw_tickAwake (h : proofLaw s) : proofLaw (tickAwake s) := by
  obtain ⟨h1, h2, h3, h4⟩ := h
  refine ⟨distinct_tickAwake h1, fun g hg y hy hpg hpy => ?_, fun g hg hpg => ?_, fun d hd hdd => ?_⟩
  · obtain ⟨g', hg', rfl⟩ := mem_tickAwake.1 hg
    obtain ⟨y', hy', rfl⟩ := mem_tickAwake.1 hy
    exact h2 g' hg' y' hy' hpg hpy
  · obtain ⟨g', hg', rfl⟩ := mem_tickAwake.1 hg
    obtain ⟨e1, e2⟩ := h3 g' hg' hpg
    refine ⟨?_, ?_⟩
    · show s.grants.challenge.map _ = none
      rw [e1]; rfl
    · show countDown s.grants.lockout = none
      rw [e2]; rfl
  · obtain ⟨x, hx, e1, e2⟩ := h4 d hd hdd
    exact ⟨x.tick, mem_tickAwake.2 ⟨x, hx, rfl⟩, e1, e2⟩

theorem keeps_proofLaw (hd : k.distinct) (hp : k.proof) : Keeps k proofLaw where
  popped h := h
  deed hdd h := hdd.proofLaw hd hp h
  takes g i _ h := proofLaw_take _ g i _ h
  starts tag hc hl h := proofLaw_starts tag hc hl h
  toggled h := h
  cold lines _ := proofLaw_none rfl rfl
  hot lines _ := proofLaw_none rfl rfl
  tick h := by
    rw [tick_eq]
    split
    · exact proofLaw_tickAwake h
    · exact h

/-- A state in which every ACTIVE grant was ACTIVE before. -/
def ActiveBefore (s t : State) : Prop :=
  ∀ g ∈ t.grants.grants, g.state = .active → ∃ h ∈ s.grants.grants, h.number = g.number ∧ h.state = .active

theorem Stem.activeBefore (h : Stem a s t) : ActiveBefore s t := fun g hg hst => by
  obtain ⟨x, hx, hd⟩ := h g hg
  exact ⟨x, hx, hd.number.symm, hd.active hst⟩

theorem ActiveBefore.trans {u : State} (h : ActiveBefore s t) (h' : ActiveBefore t u) : ActiveBefore s u :=
  fun g hg hst => by
    obtain ⟨y, hy, e, hst'⟩ := h' g hg hst
    obtain ⟨x, hx, e', hst''⟩ := h y hy hst'
    exact ⟨x, hx, e'.trans e, hst''⟩

/-- What a proof may rest on when no grant is to become ACTIVE. -/
abbrev proofKnown : Known :=
  { distinct := True, lockout := False, proof := True, apart := False, idle := False, opening := False }

theorem activeBefore_take (c : Fin 16) (g : Nat) (i : Fin 8) (w : Fin 2) (s : State) :
    ActiveBefore s (takeWindow c g i w s) := fun y hy hst => by
  obtain hy | ⟨x, hx, rfl⟩ := mem_takeWindow hy
  · exact ⟨y, hy, rfl, hst⟩
  · obtain ⟨e1, e2, _, _⟩ := boundTo_regrant w x
    exact ⟨x, hx, e1.symm, by rwa [e2] at hst⟩

theorem activeBefore_starts (n : Nat) (ch : Challenge) (tag : List Byte) (s : State) :
    ActiveBefore s (startDigest n ch tag s) := fun y hy hst => by
  obtain hy | hy := List.mem_append.1 hy
  · exact ⟨y, hy, rfl, hst⟩
  · obtain rfl := List.mem_singleton.1 hy
    cases hst

theorem activeBefore_stepCase (hk : ¬k.opening) (h : StepCase k s t) : ActiveBefore s t := by
  cases h with
  | works t hw => exact (hw.stem hk).activeBefore
  | takes x t _ ht =>
    obtain ⟨c, g, i, w, _, hC⟩ := ht
    have := (activeBefore_take c g i w (s.setPort .W x)).trans hC.stem.activeBefore
    exact this
  | starts t ht =>
    obtain ⟨ch, tag, _, _, hC⟩ := ht
    exact (activeBefore_starts _ ch tag s).trans hC.stem.activeBefore
  | toggled _ => exact fun g hg hst => ⟨g, hg, rfl, hst⟩
  | cold lines => exact fun g hg => nomatch hg
  | hot lines => exact fun g hg => nomatch hg

/-- While a lockout runs no proof is in progress, so the completion of an opening entry finds no grant to open. -/
theorem activeBefore_appendComplete (hs : proofLaw s) (hl : s.grants.lockout ≠ none) :
    ActiveBefore s (whenAwake s (appendComplete true)) := by
  have hnone : ∀ g ∈ s.grants.grants, g.state ≠ .recording := fun g hg hst => hl (hs.2.2.1 g hg (.inr hst)).2
  have hdec : ∀ n (u : State), u.grants.grants = s.grants.grants → grantDecided n true u = u := by
    intro n u hu
    unfold grantDecided
    split
    · rfl
    · next g hg =>
      have hm := List.mem_of_find?_eq_some hg
      have hq := List.find?_some hg
      simp only [Bool.and_eq_true, beq_iff_eq] at hq
      exact absurd hq.2 (hnone g (hu ▸ hm))
  unfold whenAwake
  split
  · unfold appendComplete
    split
    · next e rest hq =>
      have hr : reportOpened e true (appendPassed e (setQueue rest s)) = appendPassed e (setQueue rest s) := by
        unfold reportOpened
        split
        · exact hdec _ _ rfl
        · rfl
      have hw : Works proofKnown true s (beginNext (appendPassed e (setQueue rest s))) :=
        .trans (Deed.entryStored e rest id hq).works (works_beginNext id _)
      show ActiveBefore s (beginNext (reportOpened e true (appendPassed e (setQueue rest s))))
      rw [hr]
      exact (hw.stem id).activeBefore
    · exact fun g hg hst => ⟨g, hg, rfl, hst⟩
  · exact fun g hg hst => ⟨g, hg, rfl, hst⟩

theorem activeBefore_step (hs : proofLaw s) (hl : s.grants.lockout ≠ none) (h : step s = .next t) :
    ActiveBefore s t := by
  obtain ⟨_, rfl⟩ | ⟨c, _, hc⟩ := step_cases h
  · intro g hg hst
    rw [tick_eq] at hg
    split at hg
    · obtain ⟨x, hx, rfl⟩ := mem_tickAwake.1 hg
      exact ⟨x, hx, rfl, hst⟩
    · exact ⟨g, hg, rfl, hst⟩
  · by_cases ho : c = .appendComplete true
    · subst ho
      obtain rfl := Host.Outcome.next.inj hc
      exact activeBefore_appendComplete (s := s.popped) hs hl
    · obtain ⟨u, hu, hcase⟩ := exec_case (k := proofKnown) (s := s.popped) c (fun _ => hs.1) nofun (fun _ => hs) nofun
        (fun _ => id) (fun h => absurd h ho) fun _ => trivial
      obtain rfl : u = t := Host.Outcome.next.inj (hu.symm.trans hc)
      exact activeBefore_stepCase (s := s.popped) id hcase

/-- Settles O8: the lockout's law is kept by each thing a step is made of; and a grant becomes ACTIVE only as the entry of
its opening completes, which needs it RECORDING, while a lockout leaves no proof in progress. -/
theorem everyStepKeepsTheLockoutLaw : Obligations.EveryStepKeepsTheLockoutLaw := by
  refine ⟨fun s t hs ht => ?_, fun s t hs ht => ⟨?_, fun hl => activeBefore_step hs hl ht⟩⟩
  · exact (keeps_lockoutLaw (k := { nothingKnown with lockout := True }) trivial).step nofun (fun _ => hs) nofun nofun id
      trivial hs ht
  · exact (keeps_proofLaw (k := { proofKnown with opening := True }) trivial trivial).step (fun _ => hs.1) nofun
      (fun _ => hs) nofun id trivial hs ht

end Sys2Proof.Machine
end

section
/-! The law of the Grant Table and the histories of its grants: how a grant comes to be ACTIVE or HELD, and how its
binding runs (R96, R98, R104). -/

namespace Sys2Proof.Machine

open Sys2Proof Sys2Proof.Safety

variable {a : Bool} {k : Known} {s t u : State}

/-! ### The law -/

theorem grantInRange_tick {x : Grant} (h : grantInRange x) : grantInRange x.tick := h

theorem grantTableLaw_tickAwake (h : grantTableLaw s) : grantTableLaw (tickAwake s) := by
  obtain ⟨h1, h2, h3, h4⟩ := h
  refine ⟨?_, distinct_tickAwake h2, fun g hg => ?_, fun c hc => ?_⟩
  · exact (List.length_map _).trans_le h1
  · obtain ⟨x, hx, rfl⟩ := mem_tickAwake.1 hg
    exact grantInRange_tick (h3 x hx)
  · obtain ⟨x, hx, rfl⟩ := Option.map_eq_some_iff.1 (show s.grants.challenge.map _ = some c from hc)
    obtain ⟨h5, h6⟩ := h4 x hx
    exact ⟨(List.length_map _).trans_lt h5, h6⟩

theorem grantTableLaw_take (c : Fin 16) (g : Nat) (i : Fin 8) (w : Fin 2) (h : grantTableLaw s) :
    grantTableLaw (takeWindow c g i w s) := by
  refine grantTableLaw_of (s := s) (modifyFirst_length _ _ _).le (distinct_of_table (s := updateGrant g (boundTo w) s) rfl
    (distinct_updateGrant (fun x _ => (boundTo_regrant w x).1) h.2.1)) (fun y hy => ?_) (.inl rfl) h
  obtain hy | ⟨x, hx, rfl⟩ := mem_takeWindow hy
  · exact ⟨y, hy, id⟩
  · exact ⟨x, hx, (boundTo_regrant w x).2.2.2⟩

theorem grantTableLaw_starts {ch : Challenge} (tag : List Byte) (hc : s.grants.challenge = some ch)
    (h : grantTableLaw s) : grantTableLaw (startDigest (freeNumber s.grants.grants) ch tag s) := by
  obtain ⟨h1, h2, h3, h4⟩ := h
  obtain ⟨h5, h6, h7⟩ := h4 ch hc
  refine ⟨?_, distinct_freeNumber h2 ch, fun g hg => ?_, fun c hc => (nomatch hc)⟩
  · simpa [startDigest] using h5
  · obtain hg | hg := List.mem_append.1 hg
    · exact h3 g hg
    · obtain rfl := List.mem_singleton.1 hg
      exact ⟨(freeNumber_fresh _).1.trans_lt h5, h6, h7, Nat.zero_le _, Nat.zero_le _⟩

theorem grantTableLaw_none (hg : t.grants.grants = []) (hc : t.grants.challenge = none) : grantTableLaw t := by
  unfold grantTableLaw grantNumbersDistinct challengeInRange
  rw [hg, hc]
  exact ⟨Nat.zero_le _, List.nodup_nil, nofun, nofun⟩

theorem keeps_grantTableLaw : Keeps k grantTableLaw where
  popped h := h
  deed hd h := hd.grantTableLaw h
  takes g i _ h := grantTableLaw_take _ g i _ h
  starts tag hc _ h := grantTableLaw_starts tag hc h
  toggled h := h
  cold lines _ := grantTableLaw_none rfl rfl
  hot lines _ := grantTableLaw_none rfl rfl
  tick h := by
    rw [tick_eq]
    split
    · exact grantTableLaw_tickAwake h
    · exact h

/-! ### The history of a grant -/

/-- A grant `y` that a grant `x` has become in one step, by its number and its binding (R104). -/
structure Follows (x y : Grant) : Prop where
  number : y.number = x.number
  bound  : ∀ w, y.binding = .bound w → x.binding = .pending w ∨ x.binding = .bound w
  stays  : ∀ w, x.binding = .bound w → y.binding = .bound w ∨ y.binding = .ended
  ended  : x.binding = .ended → y.binding = .ended

theorem Descends.follows {x y : Grant} (h : Descends a x y) : Follows x y where
  number := h.number
  bound w hw := (h.bound w hw).elim .inr fun ⟨_, hp⟩ => .inl hp
  stays := h.stays
  ended := h.ended

/-- Every grant of the second table is new, with neither rights nor a window, or follows on one of the first, and is
granting only where that one was or `P` holds. -/
def Continues (P : Grant → Prop) (s t : State) : Prop :=
  ∀ g ∈ t.grants.grants, (∃ h ∈ s.grants.grants, Follows h g ∧ (granting g → granting h ∨ P g)) ∨
    ¬granting g ∧ (∀ w, g.binding ≠ .bound w) ∧ ∀ h ∈ s.grants.grants, h.number ≠ g.number

variable {P : Grant → Prop}

theorem Stem.continues (h : Stem a s t) : Continues P s t := fun g hg => by
  obtain ⟨x, hx, hd⟩ := h g hg
  exact .inl ⟨x, hx, hd.follows, fun hp => .inl (hd.granting hp)⟩

/-- A change of each grant that keeps its binding, or makes it PENDING where it was NONE, before one that makes no window
ACTIVE. -/
theorem Stem.continues_after {f : Grant → Grant} (h : Stem false t u)
    (ht : ∀ g ∈ t.grants.grants, ∃ x ∈ s.grants.grants, g = x ∨
      g = f x ∧ (granting (f x) → granting x ∨ ∀ y ∈ u.grants.grants, y.number = x.number → P y))
    (hn : ∀ x, (f x).number = x.number)
    (hb : ∀ x, (f x).binding = x.binding ∨ x.binding = .none ∧ ∃ w, (f x).binding = .pending w) :
    Continues P s u := fun y hy => by
  obtain ⟨z, hz, hd⟩ := h y hy
  obtain ⟨x, hx, rfl | ⟨rfl, hg⟩⟩ := ht z hz
  · exact .inl ⟨z, hx, hd.follows, fun hp => .inl (hd.granting hp)⟩
  · refine .inl ⟨x, hx, ⟨hd.number.trans (hn x), fun w hw => ?_, fun w hw => ?_, fun hw => ?_⟩, fun hp =>
      (hg (hd.granting hp)).imp id fun h => h y hy (hd.number.trans (hn x))⟩
    · obtain hw | ⟨hf, _⟩ := hd.bound w hw
      · obtain e | ⟨_, w', e⟩ := hb x
        · exact .inr (e ▸ hw)
        · rw [e] at hw; cases hw
      · cases hf
    · obtain e | ⟨e, _⟩ := hb x
      · exact hd.stays w (e ▸ hw)
      · rw [e] at hw; cases hw
    · obtain e | ⟨e, _⟩ := hb x
      · exact hd.ended (e ▸ hw)
      · rw [e] at hw; cases hw

theorem boundTo_binding (w : Fin 2) (x : Grant) :
    (boundTo w x).binding = x.binding ∨ x.binding = .none ∧ ∃ w', (boundTo w x).binding = .pending w' := by
  unfold boundTo
  split
  · next h => exact .inr ⟨h, w, rfl⟩
  · exact .inl rfl

theorem continues_takes {c : Fin 16} {g : Nat} {i : Fin 8} {w : Fin 2}
    (h : Stem false (takeWindow c g i w s) t) : Continues P s t := by
  refine h.continues_after (f := boundTo w) (fun y hy => ?_) (fun x => (boundTo_regrant w x).1) (boundTo_binding w)
  obtain hy | ⟨x, hx, e⟩ := mem_takeWindow hy
  · exact ⟨y, hy, .inl rfl⟩
  · exact ⟨x, hx, .inr ⟨e, fun hp => .inl (by rwa [granting, (boundTo_regrant w x).2.1] at hp)⟩⟩

theorem continues_starts {ch : Challenge} {tag : List Byte}
    (h : Stem a (startDigest (freeNumber s.grants.grants) ch tag s) t) : Continues P s t := fun y hy => by
  obtain ⟨z, hz, hd⟩ := h y hy
  obtain hz | hz := List.mem_append.1 hz
  · exact .inl ⟨z, hz, hd.follows, fun hp => .inl (hd.granting hp)⟩
  · obtain rfl := List.mem_singleton.1 hz
    refine .inr ⟨fun hp => ?_, fun w hw => ?_, fun x hx e => ?_⟩
    · obtain h | h := hd.granting hp <;> cases h
    · obtain h | ⟨_, h⟩ := hd.bound w hw <;> cases h
    · exact (freeNumber_fresh _).2 x hx (e.trans hd.number)

theorem continues_stepCase (hk : ¬k.opening) (h : StepCase k s t) : Continues P s t := by
  cases h with
  | works t hw => exact (hw.stem hk).continues
  | takes x t _ ht =>
    obtain ⟨c, g, i, w, _, hC⟩ := ht
    exact (continues_takes hC.stem : Continues P (s.setPort .W x) t)
  | starts t ht =>
    obtain ⟨ch, tag, _, _, hC⟩ := ht
    exact continues_starts hC.stem
  | toggled _ => exact (Stem.of_eq (a := true) rfl).continues
  | cold lines => exact fun g hg => nomatch hg
  | hot lines => exact fun g hg => nomatch hg

/-! ### The opening entry's completion (R96) -/

/-- A grant's own GRANT_OPENED entry, at the head of the queue of `s`, is kept in `t`. -/
def OpeningKept (s t : State) (g : Grant) : Prop :=
  ∃ e rest a b d, s.store.queue = .append e :: rest ∧ e.detail = .grantOpened a b d ∧ e.grant = some g.number ∧
    e ∈ t.record.kept

theorem beginQueue_record (q : List StoreRequest) (s : State) : (beginQueue q s).record = s.record := by
  induction q generalizing s with
  | nil => rfl
  | cons r rest ih =>
    cases r with
    | tableEntry e c id =>
      simp only [beginQueue]
      split
      · exact ih _
      · rfl
    | _ => rfl

theorem answerProof_eq (n : Nat) (reply : List Byte) (s : State) :
    answerProof n reply s = { s with exchanges := (answerProof n reply s).exchanges } := by
  unfold answerProof
  split
  · split <;> rfl
  · rfl

theorem grantDecided_kept (n : Nat) (pass : Bool) (s : State) : (grantDecided n pass s).record.kept = s.record.kept := by
  unfold grantDecided
  split
  · rfl
  · next g _ =>
    split
    · rw [answerProof_eq]; rfl
    · split
      · next cause _ =>
        obtain ⟨q, m, n', l, e, _⟩ := grantClose_shape g cause s
        rw [answerProof_eq, e]
      · rw [answerProof_eq]; rfl

/-- What the passing completion of an opening entry makes of the grant it opens. -/
def openedGrant (now : Nat) (x : Grant) : Grant :=
  { x with state := .active, remaining := x.granted, activation := some now, seconds := some 1000 }

theorem continues_decided {n : Nat} (h : Stem false (grantDecided n true s) u)
    (hP : ∀ y ∈ u.grants.grants, y.number = n → P y) : Continues P s u := by
  unfold grantDecided at h
  split at h
  · exact h.continues
  · next g hg =>
    rw [if_neg (by decide)] at h
    split at h
    · next cause _ =>
      obtain ⟨q, m, n', l, e, _⟩ := grantClose_shape g cause s
      rw [answerProof_eq, e] at h
      exact (Stem.trans (.of_subset fun _ => List.mem_of_mem_eraseP) h).continues
    · rw [answerProof_eq] at h
      refine h.continues_after (f := openedGrant s.record.partTime) (fun y hy => ?_) (fun _ => rfl) fun _ => .inl rfl
      obtain hy | ⟨x, hx, hfx, e⟩ := mem_updateGrant (s := s) (f := openedGrant s.record.partTime) hy
      · exact ⟨y, hy, .inl rfl⟩
      · exact ⟨x, hx, .inr ⟨e, fun _ => .inr fun y hy e => hP y hy (e.trans (findGrant_some hfx).2)⟩⟩

theorem continues_appendComplete (s : State) :
    Continues (OpeningKept s (appendComplete true s)) s (appendComplete true s) := by
  unfold appendComplete
  split
  · next e rest hq =>
    show Continues (OpeningKept s (beginNext (reportOpened e true (appendPassed e (setQueue rest s))))) s
      (beginNext (reportOpened e true (appendPassed e (setQueue rest s))))
    have hb : ∀ u : State, Stem false u (beginNext u) := fun u => (works_beginNext (k := proofKnown) id u).stem id
    have hk : ∀ u : State, (beginNext u).record = u.record := fun u => beginQueue_record _ _
    unfold reportOpened
    split
    · next n hd hg =>
      refine continues_decided (s := appendPassed e (setQueue rest s)) (hb _) fun y _ hy => ?_
      refine ⟨e, rest, _, _, _, hq, hd, hy ▸ hg, ?_⟩
      rw [hk, grantDecided_kept]
      exact List.mem_append_right _ (List.mem_singleton.2 rfl)
    · exact (hb (appendPassed e (setQueue rest s))).continues (s := s)
  · exact (Stem.of_eq (a := true) rfl).continues

/-- Every grant after a step continues one before it, becoming ACTIVE or HELD by its own opening entry alone. -/
theorem continues_step (hd : grantNumbersDistinct s) (h : step s = .next t) :
    Continues (fun g => s.pending.head? = some (.appendComplete true) ∧ OpeningKept s t g) s t := by
  obtain ⟨_, rfl⟩ | ⟨c, hp, hc⟩ := step_cases h
  · rw [tick_eq]
    split
    · intro g hg
      obtain ⟨x, hx, rfl⟩ := mem_tickAwake.1 hg
      exact .inl ⟨x, hx, ⟨rfl, fun _ => .inr, fun _ => .inl, id⟩, .inl⟩
    · exact (Stem.of_eq (a := true) rfl).continues
  · by_cases ho : c = .appendComplete true
    · subst ho
      obtain rfl := Host.Outcome.next.inj hc
      have key : Continues (OpeningKept s.popped (whenAwake s.popped (appendComplete true))) s.popped
          (whenAwake s.popped (appendComplete true)) := by
        unfold whenAwake
        split
        · exact continues_appendComplete _
        · exact (Stem.of_eq (a := true) rfl).continues
      exact fun g hg => (key g hg).imp (fun ⟨x, hx, hf, hP⟩ => ⟨x, hx, hf, fun h => (hP h).imp id fun h => ⟨hp, h⟩⟩) id
    · obtain ⟨u, hu, hcase⟩ := exec_case (k := { distinctKnown with opening := False }) (s := s.popped) c (fun _ => hd) nofun nofun nofun
        (fun _ => id) (fun h => absurd h ho) fun _ => trivial
      obtain rfl : u = t := Host.Outcome.next.inj (hu.symm.trans hc)
      exact (continues_stepCase id hcase : Continues _ s.popped _)

/-- Settles O9: each thing a step is made of keeps the table's law, and every grant continues one of the same number, which
is the only one of it. -/
theorem everyStepKeepsTheGrantTableLaw : Obligations.EveryStepKeepsTheGrantTableLaw := by
  intro s t hs ht
  have hc := continues_step hs.2.1 ht
  refine ⟨(keeps_grantTableLaw (k := distinctKnown)).step (fun _ => hs.2.1) nofun nofun nofun id trivial hs ht,
    fun g hg hp => ?_, fun g hg w hw => ?_, fun g hg x hx e => ?_⟩
  · obtain ⟨x, hx, hf, hP⟩ | ⟨hn, _⟩ := hc g hg
    · obtain h | ⟨hpend, e, rest, i, j, n, h⟩ := hP hp
      · exact .inl ⟨x, hx, hf.number.symm, h⟩
      · exact .inr ⟨e, rest, i, j, n, hpend, h⟩
    · exact absurd hp hn
  · obtain ⟨x, hx, hf, _⟩ | ⟨_, hn, _⟩ := hc g hg
    · exact ⟨x, hx, hf.number.symm, hf.bound w hw⟩
    · exact absurd hw (hn w)
  · obtain ⟨y, hy, hf, _⟩ | ⟨_, _, hn⟩ := hc g hg
    · obtain rfl : x = y := number_unique hs.2.1 hx hy (e.trans hf.number)
      exact ⟨hf.stays, hf.ended⟩
    · exact absurd e (hn x hx)

end Sys2Proof.Machine
end

section
/-! The access lamp follows its table at every step, and its toggle runs unbroken while a window is open (R106). -/

namespace Sys2Proof.Machine

open Sys2Proof Sys2Proof.Safety

variable {a : Bool} {k : Known} {s t u : State}

/-- What a step keeps of the lamp's toggle: it begins, lit, with the first window, and runs unbroken while one is open. -/
def Unbroken (s t : State) : Prop :=
  (¬windowOpen s → windowOpen t → t.grants.lamp = .toggling true 500) ∧
    (windowOpen s → windowOpen t → t.grants.lamp = s.grants.lamp)

/-- The laws of the proof and the lamp stay, and no window opens. -/
def LampKept (s t : State) : Prop :=
  proofLaw s ∧ lampLaw s → (proofLaw t ∧ lampLaw t) ∧
    (windowOpen t → windowOpen s ∧ t.grants.lamp = s.grants.lamp)

theorem LampKept.unbroken (h : LampKept s t) (hs : proofLaw s ∧ lampLaw s) : lampLaw t ∧ Unbroken s t := by
  obtain ⟨⟨_, hl⟩, ho⟩ := h hs
  exact ⟨hl, fun hn ht => absurd (ho ht).1 hn, fun _ ht => (ho ht).2⟩

theorem works_lampKept (hd : k.distinct) (hp : k.proof) (h : Works k a s t) : LampKept s t :=
  Works.relates (R := LampKept) (fun _ hs => ⟨hs, fun ho => ⟨ho, rfl⟩⟩)
    (fun h h' hs => by
      obtain ⟨hm, ho⟩ := h hs
      obtain ⟨ht, ho'⟩ := h' hm
      exact ⟨ht, fun hw => ⟨(ho (ho' hw).1).1, (ho' hw).2.trans (ho (ho' hw).1).2⟩⟩)
    (fun hdd hs => by
      obtain ⟨hl, ho⟩ := hdd.lampLaw hd hp hs.1.1 hs.2
      exact ⟨⟨hdd.proofLaw hd hp hs.1, hl⟩, ho⟩) h

/-- A window taken sets the toggle going where none was open. -/
theorem unbroken_take {c : Fin 16} (g : Nat) (i : Fin 8) (w : Fin 2) (h : lampLaw s) :
    Unbroken s (takeWindow c g i w s) := by
  have hopen : windowOpen (updateGrant g (boundTo w) (setWindow w (some (takenWindow c g i)) s)) := by
    have hw : (setWindow w (some (takenWindow c g i)) s).window w ≠ none := by
      rw [setWindow_window, if_pos rfl]; simp
    obtain rfl | rfl : w = 0 ∨ w = 1 := by omega
    · exact .inl hw
    · exact .inr hw
  obtain ⟨h1, h2⟩ := lampOf_open hopen
  refine ⟨fun hn _ => h2 fun lit n e => ?_, fun ho _ => ?_⟩
  · have e : s.grants.lamp = .toggling lit n := e
    by_cases hg : ∃ g ∈ s.grants.grants, granting g
    · rw [h.2.1 hn hg] at e; cases e
    · rw [h.2.2 hn fun g hm hgr => hg ⟨g, hm, hgr⟩] at e; cases e
  · obtain ⟨lit, n, e⟩ := h.1 ho
    exact h1 lit n e

theorem Unbroken.then (h : Unbroken s t) (hu : windowOpen u → windowOpen t ∧ u.grants.lamp = t.grants.lamp) :
    Unbroken s u :=
  ⟨fun hn ho => (hu ho).2.trans (h.1 hn (hu ho).1), fun hs ho => (hu ho).2.trans (h.2 hs (hu ho).1)⟩

theorem lampLaw_dark (hw : ∀ w, t.window w = none) (hg : t.grants.grants = []) (hl : t.grants.lamp = .dark) :
    lampLaw t ∧ ¬windowOpen t := by
  have hn : ¬windowOpen t := fun h => h.elim (fun h => h (hw 0)) fun h => h (hw 1)
  refine ⟨⟨fun h => absurd h hn, fun _ ⟨g, hm, _⟩ => ?_, fun _ _ => hl⟩, hn⟩
  rw [hg] at hm
  cases hm

theorem windowOpen_tickAwake (s : State) : windowOpen (tickAwake s) ↔ windowOpen s := by
  unfold windowOpen
  rw [tickAwake_window, tickAwake_window]
  cases s.window 0 <;> cases s.window 1 <;> simp

theorem lampLaw_tickAwake (h : lampLaw s) : lampLaw (tickAwake s) := by
  obtain ⟨h1, h2, h3⟩ := h
  have hl : (tickAwake s).grants.lamp = s.grants.lamp.tick := rfl
  refine ⟨fun ho => ?_, fun ho hg => ?_, fun ho hg => ?_⟩
  · obtain ⟨lit, n, e⟩ := h1 ((windowOpen_tickAwake s).1 ho)
    exact ⟨lit, n - 1, by rw [hl, e]; rfl⟩
  · obtain ⟨g, hm, hgr⟩ := hg
    obtain ⟨x, hx, rfl⟩ := mem_tickAwake.1 hm
    rw [hl, h2 (fun hc => ho ((windowOpen_tickAwake s).2 hc)) ⟨x, hx, hgr⟩]
    rfl
  · rw [hl, h3 (fun hc => ho ((windowOpen_tickAwake s).2 hc)) fun g hm hgr => hg g.tick (mem_tickAwake.2 ⟨g, hm, rfl⟩) hgr]
    rfl

/-- What the lamp may rest on when it is not toggled. -/
abbrev lampKnown : Known :=
  { distinct := True, lockout := False, proof := True, apart := False, idle := False, opening := True, toggling := False }

theorem lamp_stepCase (h : StepCase lampKnown s t) (hs : proofLaw s ∧ lampLaw s) : lampLaw t ∧ Unbroken s t := by
  cases h with
  | works t hw => exact (works_lampKept trivial trivial hw).unbroken hs
  | takes x t _ ht =>
    obtain ⟨c, g, i, w, _, hC⟩ := ht
    obtain ⟨⟨_, hl⟩, ho⟩ := works_lampKept (k := lampKnown) trivial trivial hC.works
      ⟨proofLaw_take c g i w (s := s.setPort .W x) hs.1, lampLaw_relamp _⟩
    exact ⟨hl, (unbroken_take (s := s.setPort .W x) g i w hs.2).then ho⟩
  | starts t ht =>
    obtain ⟨ch, tag, h1, h2, hC⟩ := ht
    have hl : lampLaw (startDigest (freeNumber s.grants.grants) ch tag s) := by
      refine lampLaw_of (s := s) rfl Iff.rfl ⟨fun ⟨g, hm, hgr⟩ => ?_, fun ⟨g, hm, hgr⟩ =>
        ⟨g, List.mem_append_left _ hm, hgr⟩⟩ hs.2
      obtain hm | hm := List.mem_append.1 hm
      · exact ⟨g, hm, hgr⟩
      · obtain rfl := List.mem_singleton.1 hm
        obtain h | h := hgr <;> cases h
    obtain ⟨⟨_, hl'⟩, ho⟩ := works_lampKept (k := lampKnown) trivial trivial hC.works
      ⟨proofLaw_starts tag h1 h2 hs.1, hl⟩
    exact ⟨hl', fun hn ho' => absurd (ho ho').1 hn, fun _ ho' => (ho ho').2⟩
  | toggled h => exact absurd h id
  | cold lines =>
    obtain ⟨hl, hn⟩ := lampLaw_dark (t := coldStart lines s) clear_window rfl rfl
    exact ⟨hl, fun _ h => absurd h hn, fun _ h => absurd h hn⟩
  | hot lines =>
    obtain ⟨hl, hn⟩ := lampLaw_dark (t := hotStart lines s) clear_window rfl rfl
    exact ⟨hl, fun _ h => absurd h hn, fun _ h => absurd h hn⟩

theorem lampLaw_toggled (h : lampLaw s) :
    lampLaw { s with grants := { s.grants with lamp := toggleLamp s.grants.lamp } } := by
  obtain ⟨h1, h2, h3⟩ := h
  refine ⟨fun ho => ?_, fun ho hg => ?_, fun ho hg => ?_⟩
  · obtain ⟨lit, n, e⟩ := h1 ho
    exact ⟨!lit, 500, by rw [e]; rfl⟩
  · show toggleLamp s.grants.lamp = _
    rw [h2 ho hg]; rfl
  · show toggleLamp s.grants.lamp = _
    rw [h3 ho hg]; rfl

/-- What every step leaves of the lamp (R106). -/
theorem lamp_step (hp : proofLaw s) (hl : lampLaw s) (h : step s = .next t) : lampLaw t ∧
    (¬windowOpen s → windowOpen t → t.grants.lamp = .toggling true 500) ∧
    (windowOpen s → windowOpen t → s.pending ≠ [] → s.pending.head? ≠ some .acclmpToggle →
      t.grants.lamp = s.grants.lamp) := by
  obtain ⟨hn, rfl⟩ | ⟨c, hc, he⟩ := step_cases h
  · rw [tick_eq]
    split
    · exact ⟨lampLaw_tickAwake hl, fun h h' => absurd ((windowOpen_tickAwake s).1 h') h, fun _ _ h => absurd hn h⟩
    · exact ⟨hl, fun h h' => absurd h' h, fun _ _ h => absurd hn h⟩
  · by_cases ht : c = .acclmpToggle
    · subst ht
      obtain rfl := Host.Outcome.next.inj he
      unfold whenAwake
      split
      · exact ⟨lampLaw_toggled (s := s.popped) hl, fun h h' => absurd h' h, fun _ _ _ h => absurd hc h⟩
      · exact ⟨hl, fun h h' => absurd h' h, fun _ _ _ h => absurd hc h⟩
    · obtain ⟨u, hu, hcase⟩ := exec_case (k := lampKnown) (s := s.popped) c (fun _ => hp.1) nofun (fun _ => hp) nofun
        (fun _ => id) (fun _ => trivial) ht
      obtain rfl : u = t := Host.Outcome.next.inj (hu.symm.trans he)
      obtain ⟨h1, h2, h3⟩ := lamp_stepCase (s := s.popped) hcase ⟨hp, hl⟩
      exact ⟨h1, h2, fun h h' _ _ => h3 h h'⟩

end Sys2Proof.Machine
end

section
/-! The tables are kept within their ranges, the identifiers of live channels apart, and what a stored map bars stays
barred, by every step (R19, R111, R159). -/

namespace Sys2Proof.Machine

open Sys2Proof Sys2Proof.Safety

variable {a : Bool} {k : Known} {s t u : State}

/-! ### What a cold start finds in the store (R166) -/

theorem storedImage_setImage (x : TableId) (i : Image) (s : State) (y : TableId) :
    storedImage (setImage x i s) y = if y = x then i else storedImage s y := by
  unfold storedImage setImage
  rw [put_get]
  by_cases h : y = x
  · rw [if_pos (congrArg tableFin h), if_pos h]
  · rw [if_neg fun hc => h (tableFin_injective hc), if_neg h]

/-- An image is as it was, or one entry of it has been cut short and it fails. -/
def TornFrom (s t : State) (x : TableId) : Prop :=
  storedImage t x = storedImage s x ∨ (storedImage t x).passes = false ∧
    ∃ i b, (storedImage t x).entries = (baseImages s x).set i b

theorem tornFrom_setImage (draw : Nat) (y : TableId) (i n : Nat) (s : State) (x : TableId) :
    TornFrom s (setImage y (tornImage draw (baseImages s y) i n) s) x := by
  unfold TornFrom
  rw [storedImage_setImage]
  split
  · next h =>
    subst h
    exact .inr ⟨tornImage_fails _ _ _ _, i, _, rfl⟩
  · exact .inl rfl

theorem powerLost_image (s : State) (x : TableId) : TornFrom s (powerLost s) x := by
  unfold powerLost
  split
  · next r rest _ =>
    show TornFrom s (tear r s) x
    cases r with
    | tableEntry e c id => exact tornFrom_setImage _ _ _ _ _ _
    | lockPolicy p c id => exact tornFrom_setImage _ _ _ _ _ _
    | trim n id =>
      simp only [tear]
      split <;> exact .inl rfl
    | _ => exact .inl rfl
  · exact .inl rfl

theorem powerLost_content (s : State) (x : TableId) :
    storedContent (powerLost s) x = storedContent s x ∨ storedContent (powerLost s) x = .fallback := by
  unfold storedContent
  obtain h | ⟨h, _⟩ := powerLost_image s x
  · exact .inl (by rw [h])
  · exact .inr (by rw [h, if_neg (by decide)])

theorem channelsApart_fallback : channelsApart Tables.fallback.channels := by
  intro i j _ hi
  rw [fallback_channel] at hi
  cases hi

theorem powerLost_apart (h : channelsApart (storedTables s).channels) :
    channelsApart (storedTables (powerLost s)).channels := by
  rw [storedTables_channels] at h ⊢
  obtain e | e := powerLost_content s .channelTable <;> rw [e]
  · exact h
  · exact channelsApart_fallback

/-! ### The tables as a start leaves them -/

theorem agree_channel (tb : Tables) (i : Fin 16) : (agree tb).channels.get i =
    if clashesManagement tb.ports (tb.channels.get i) then { tb.channels.get i with live := false }
    else tb.channels.get i := by
  simp [agree]

theorem agree_valid {tb : Tables} (h : TablesValid tb) : TablesValid (agree tb) := by
  refine { h with channels := fun i => ?_ }
  rw [agree_channel]
  obtain ⟨h1, h2, h3, h4, h5, h6, h7, h8⟩ := h.channels i
  split
  · exact ⟨h1, h2, h3, h4, h5, h6, h7, fun hc => (by cases hc.1)⟩
  · exact ⟨h1, h2, h3, h4, h5, h6, h7, h8⟩

theorem agree_clear (tb : Tables) : clearOfManagement (agree tb) := by
  refine (clearOfManagement_iff _).2 fun i => ?_
  rw [agree_channel]
  split
  · rfl
  · next h => exact Bool.eq_false_iff.2 h

theorem agree_apart {tb : Tables} (h : channelsApart tb.channels) : channelsApart (agree tb).channels := by
  have key : ∀ i, ((agree tb).channels.get i).live = true → (agree tb).channels.get i = tb.channels.get i := fun i hi => by
    rw [agree_channel] at hi ⊢
    split
    · next hc => rw [if_pos hc] at hi; cases hi
    · rfl
  intro i j hij hi hj
  have ei := key i hi
  have ej := key j hj
  rw [ei] at hi
  rw [ej] at hj
  rw [ei, ej]
  exact h i j hij hi hj

theorem hotTables_map (s : State) (c : Fin 16) :
    (hotTables s).maps.get c = (s.inspector.overlays.get c).getD (s.tables.maps.get c) := by
  simp [hotTables, resolvedMap]

theorem clear_overlay (c : Fin 16) : Inspector.clear.overlays.get c = none := by simp [Inspector.clear]

/-! ### The ranges (R159) -/

theorem tablesLaw_cold (lines : Levels) (s : State) : tablesLaw (coldStart lines s) := by
  refine (tablesLaw_iff _).2 ⟨agree_valid (storedTables_valid _), fun c m hm => ?_, fun e c id hm => ?_⟩
  · rw [show (coldStart lines s).inspector.overlays.get c = none from clear_overlay c] at hm
    cases hm
  · rw [show (coldStart lines s).store.queue = [] from powerLost_queue s] at hm
    cases hm

theorem tablesLaw_hot (lines : Levels) (h : tablesLaw s) : tablesLaw (hotStart lines s) := by
  obtain ⟨h1, h2, h3⟩ := (tablesLaw_iff s).1 h
  refine (tablesLaw_iff _).2 ⟨{ h1 with maps := fun i => ?_ }, fun c m hm => ?_, h3⟩
  · show mapValid ((hotTables s).maps.get i)
    rw [hotTables_map]
    cases ho : s.inspector.overlays.get i with
    | none => exact h1.maps i
    | some m => exact h2 i m ho
  · rw [show (hotStart lines s).inspector.overlays.get c = none from clear_overlay c] at hm
    cases hm

theorem keeps_tablesLaw : Keeps k tablesLaw where
  popped h := h
  deed hd h := hd.tablesLaw h
  takes g i _ h := by rw [takeWindow_shape]; exact h
  starts tag _ _ h := h
  toggled h := h
  cold lines _ := tablesLaw_cold lines _
  hot lines h := tablesLaw_hot lines h
  tick h := by
    rw [tick_eq]
    split <;> exact h

/-! ### What a stored map bars (R111) -/

theorem barLaw_cold (lines : Levels) (h : barLaw s) : barLaw (coldStart lines s) := by
  have himg : (coldStart lines s).store.images = (powerLost s).store.images := rfl
  have hst : storedTables (coldStart lines s) = storedTables (powerLost s) := storedTables_of himg
  refine (barLaw_iff _).2 ⟨?_, fun _ c => .of_map ?_, fun c m hm => ?_⟩
  · show (storedImage (powerLost s) .regionMap).entries.length = 16
    obtain e | ⟨_, i, b, e⟩ := powerLost_image s .regionMap
    · rw [e]; exact h.1
    · rw [e, List.length_set, baseImages_length h]
  · rw [hst]
    exact Bars.refl _
  · rw [show (coldStart lines s).inspector.overlays.get c = none from clear_overlay c] at hm
    cases hm

theorem barLaw_hot (lines : Levels) (h : barLaw s) : barLaw (hotStart lines s) := by
  have himg : (hotStart lines s).store.images = s.store.images := rfl
  obtain ⟨h1, h2, h3⟩ := (barLaw_iff s).1 h
  refine (barLaw_iff _).2 ⟨h1, fun hp c => ?_, fun c m hm => ?_⟩
  · have hm : (hotStart lines s).tables.maps.get c = _ := hotTables_map s c
    cases ho : s.inspector.overlays.get c with
    | none =>
      rw [ho] at hm
      exact (h2 ((mapsPass_of himg).1 hp) c).of_same himg hm (by rw [ho]; exact clear_overlay c)
    | some m =>
      rw [ho] at hm
      refine .of_map ?_
      rw [storedTables_of himg, (h3 c m ho).2.1, hm]
      exact Bars.refl _
  · rw [show (hotStart lines s).inspector.overlays.get c = none from clear_overlay c] at hm
    cases hm

theorem barLaw_take {c : Fin 16} {w : Fin 2} (g : Nat) (i : Fin 8) (hT : Takes s c w) (h : barLaw s) :
    barLaw (takeWindow c g i w s) := by
  refine barLaw_of (s := s) rfl rfl rfl (fun d hd => ?_) h
  obtain ⟨u, v, hv, e⟩ := windowOn_ne_none.1 hd
  refine windowOn_ne_none.2 ⟨u, v, ?_, e⟩
  have hu : u ≠ w := fun hc => by rw [hc, hT.free] at hv; cases hv
  show (setWindow w (some (takenWindow c g i)) s).window u = some v
  rw [setWindow_window, if_neg hu]
  exact hv

theorem barLaw_tickAwake (h : barLaw s) : barLaw (tickAwake s) := by
  refine barLaw_of (s := s) rfl rfl rfl (fun d hd => ?_) h
  obtain ⟨u, v, hv, e⟩ := windowOn_ne_none.1 hd
  exact windowOn_ne_none.2 ⟨u, v.tick, by rw [tickAwake_window, hv]; rfl, e⟩

theorem keeps_barLaw : Keeps k (fun s => tablesLaw s ∧ barLaw s) where
  popped h := h
  deed hd h := ⟨hd.tablesLaw h.1, hd.barLaw h.1 h.2⟩
  takes g i hT h := ⟨keeps_tablesLaw.takes (k := nothingKnown) g i hT h.1, barLaw_take g i hT h.2⟩
  starts tag _ _ h := ⟨h.1, barLaw_same (s := _) rfl rfl rfl h.2⟩
  toggled h := ⟨h.1, barLaw_same (s := _) rfl rfl rfl h.2⟩
  cold lines h := ⟨tablesLaw_cold lines _, barLaw_cold lines h.2⟩
  hot lines h := ⟨tablesLaw_hot lines h.1, barLaw_hot lines h.2⟩
  tick {s} h := by
    refine ⟨keeps_tablesLaw.tick (k := nothingKnown) h.1, ?_⟩
    rw [tick_eq]
    split
    · exact barLaw_same (s := tickAwake s) rfl rfl rfl (barLaw_tickAwake h.2)
    · exact barLaw_same (s := s) rfl rfl rfl h.2

/-- Settles O40: a region's bars are covered where every address they hold is; and each thing a step is made of keeps what
the stored maps bar barred. -/
theorem looserMapIsAnUnbarredAddress : Obligations.LooserMapIsAnUnbarredAddress :=
  ⟨noLooser_iff, fun _ _ ht hb h =>
    ((keeps_barLaw (k := nothingKnown)).step nofun nofun nofun nofun id trivial ⟨ht, hb⟩ h).2⟩

/-! ### The identifiers apart (R19) -/

theorem copiesApart_cold (lines : Levels) (h : copiesApart s) : copiesApart (coldStart lines s) := by
  have hst : storedTables (coldStart lines s) = storedTables (powerLost s) := storedTables_of rfl
  have hap := powerLost_apart h.2.2
  refine ⟨agree_apart hap, agree_clear _, ?_⟩
  rw [hst]
  exact hap

theorem keeps_copiesApart (hk : k.apart) : Keeps k (fun s => tablesLaw s ∧ copiesApart s) where
  popped h := h
  deed hd h := ⟨hd.tablesLaw h.1, hd.copiesApart hk h.1 h.2⟩
  takes g i hT h := ⟨keeps_tablesLaw.takes (k := nothingKnown) g i hT h.1, by rw [takeWindow_shape]; exact h.2⟩
  starts tag _ _ h := h
  toggled h := h
  cold lines h := ⟨tablesLaw_cold lines _, copiesApart_cold lines h.2⟩
  hot lines h := ⟨tablesLaw_hot lines h.1, h.2⟩
  tick {s} h := by
    refine ⟨keeps_tablesLaw.tick (k := nothingKnown) h.1, ?_⟩
    rw [tick_eq]
    split <;> exact h.2

/-! ### The write at the head of the queue (R160) -/

theorem headLaw_of {q : List StoreRequest} (hi : t.store.images = s.store.images) (hq : t.store.queue = s.store.queue ++ q)
    (hh : ∀ e c id, q.head? = some (.tableEntry e c id) → clashes (storedTables s) e = false) (h : headLaw s) :
    headLaw t := by
  intro e c id rest he
  rw [storedTables_of hi]
  rw [hq] at he
  cases hs : s.store.queue with
  | nil =>
    rw [hs, List.nil_append] at he
    exact hh e c id (by rw [he]; rfl)
  | cons r l =>
    rw [hs, List.cons_append] at he
    obtain ⟨rfl, _⟩ := List.cons.inj he
    exact h e c id l hs

theorem headLaw_same (hi : t.store.images = s.store.images) (hq : t.store.queue = s.store.queue) (h : headLaw s) :
    headLaw t := headLaw_of (q := []) hi (by rw [hq, List.append_nil]) (fun _ _ _ h => by cases h) h

theorem headLaw_append {q : List StoreRequest} (hi : t.store.images = s.store.images)
    (hq : t.store.queue = s.store.queue ++ q) (ha : q = [] ∨ ∃ e, q = [.append e]) (h : headLaw s) : headLaw t := by
  refine headLaw_of hi hq (fun e c id he => ?_) h
  obtain rfl | ⟨e, rfl⟩ := ha <;> cases he

theorem Move.headLaw {D : Prop} (hm : Move D a s t) (h : headLaw s) : headLaw t := by
  cases hm with
  | inert t hi => exact headLaw_same hi.images hi.queue h
  | ports t e _ => rw [e]; exact h
  | release n => rw [testHead_touches]; exact h
  | credit n v _ => cases n <;> exact h
  | exchanges t e _ => rw [e]; exact h
  | push r hr =>
    refine headLaw_of (s := s) (q := [r]) rfl rfl (fun e c id he => ?_) h
    obtain rfl := Option.some.inj he
    exact hr.2
  | append d g i c =>
    obtain ⟨q, m, n, e, hq⟩ := appendEntry_shape d g i c s
    rw [e]
    exact headLaw_append (s := s) rfl rfl hq h
  | window w v x _ _ _ => exact h
  | spend w v x d g i c _ _ _ =>
    obtain ⟨q, m, n, e, hq⟩ := writeEntry_shape d g i c (setWindow w (some x) s)
    rw [e]
    exact headLaw_append (s := s) rfl rfl hq h
  | windowGone w v x _ _ => rw [removeWindow_shape]; exact h
  | grant n f _ => exact h
  | grantClosed g cause _ =>
    obtain ⟨q, m, n, l, e, hq⟩ := grantClose_shape g cause s
    rw [e]
    exact headLaw_append (s := s) rfl rfl hq h
  | checkingEnds g _ => exact h
  | challengeGone => exact h
  | challengeIssued ch _ _ _ _ _ => exact h

theorem Deed.headLaw (hi : k.idle) (hd : Deed k a s t) (h : headLaw s) : headLaw t := by
  cases hd with
  | move t hm => exact hm.headLaw h
  | content t hu _ _ _ _ _ him => exact headLaw_same (him hi) hu.queue h
  | popped r rest hn _ => exact absurd hi hn
  | clamped n m id rest hn _ => exact absurd hi hn
  | entryStored e rest hn _ => exact absurd hi hn
  | countStored n rest hn _ => exact absurd hi hn
  | countPushed n _ => exact headLaw_of (s := s) (q := [.failureCount n]) rfl rfl (fun _ _ _ h => by cases h) h
  | recording n d g i c _ _ =>
    obtain ⟨q, m, n', e, hq⟩ := writeEntry_shape d g i c s
    rw [e]
    exact headLaw_append (s := s) rfl rfl hq h
  | _ => exact h

theorem headLaw_empty (h : t.store.queue = []) : headLaw t := fun e c id rest he => by rw [h] at he; cases he

theorem keeps_headLaw (hi : k.idle) : Keeps k headLaw where
  popped h := h
  deed hd h := hd.headLaw hi h
  takes g i _ h := by rw [takeWindow_shape]; exact h
  starts tag _ _ h := h
  toggled h := h
  cold lines _ := headLaw_empty (powerLost_queue _)
  hot lines h := h
  tick h := by
    rw [tick_eq]
    split <;> exact h

/-- A write that begins has been compared with the stored copy as it stands. -/
theorem headLaw_beginQueue (q : List StoreRequest) (s : State) : headLaw (beginQueue q s) := by
  induction q generalizing s with
  | nil => exact headLaw_empty rfl
  | cons r rest ih =>
    have other : ∀ l : List StoreRequest, (∀ e c id, l.head? ≠ some (.tableEntry e c id)) → headLaw (setQueue l s) :=
      fun l hl e c id _ he => absurd (by rw [show l = _ from he]; rfl) (hl e c id)
    cases r with
    | tableEntry e c id =>
      simp only [beginQueue]
      split
      · exact ih _
      · next hc =>
        intro e' c' id' rest' he
        obtain ⟨he, _⟩ := List.cons.inj he
        cases he
        exact Bool.eq_false_iff.2 hc
    | trim n id => exact other (.trim _ id :: rest) fun _ _ _ h => by cases h
    | append e => exact other (.append e :: rest) fun _ _ _ h => by cases h
    | failureCount n => exact other (.failureCount n :: rest) fun _ _ _ h => by cases h
    | credentialWrite i key c id => exact other (.credentialWrite i key c id :: rest) fun _ _ _ h => by cases h
    | credentialWithdraw i c id => exact other (.credentialWithdraw i c id :: rest) fun _ _ _ h => by cases h
    | lockPolicy p c id => exact other (.lockPolicy p c id :: rest) fun _ _ _ h => by cases h

theorem headLaw_complete (rest : List StoreRequest) (effect : State → State) (s : State) :
    headLaw (complete rest effect s) := headLaw_beginQueue _ _

theorem headLaw_completion {c : Instr} (hc : completesStore c = true) (h : headLaw s) :
    ∃ t, exec c s = .next t ∧ headLaw t := by
  have awake : ∀ f : State → State, headLaw (f s) → headLaw (whenAwake s f) := fun f hf => by
    unfold whenAwake
    split
    · exact hf
    · exact h
  cases c with
  | appendComplete pass =>
    refine ⟨_, rfl, awake _ ?_⟩
    unfold appendComplete
    split
    · exact headLaw_complete _ _ _
    · exact h
  | failureCountWriteComplete pass =>
    refine ⟨_, rfl, awake _ ?_⟩
    unfold failureCountWriteComplete
    split
    · exact headLaw_complete _ _ _
    · exact h
  | tableEntryWriteComplete pass =>
    refine ⟨_, rfl, awake _ ?_⟩
    unfold tableEntryWriteComplete
    split
    · exact headLaw_complete _ _ _
    · exact h
  | credentialWriteComplete pass =>
    refine ⟨_, rfl, awake _ ?_⟩
    unfold credentialWriteComplete
    split
    · exact headLaw_complete _ _ _
    · exact h
  | credentialWithdrawComplete pass =>
    refine ⟨_, rfl, awake _ ?_⟩
    unfold credentialWithdrawComplete
    split
    · exact headLaw_complete _ _ _
    · exact h
  | lockPolicyWriteComplete pass =>
    refine ⟨_, rfl, awake _ ?_⟩
    unfold lockPolicyWriteComplete
    split
    · exact headLaw_complete _ _ _
    · exact h
  | trimComplete pass =>
    refine ⟨_, rfl, awake _ ?_⟩
    unfold trimComplete
    split
    · exact headLaw_complete _ _ _
    · exact h
  | _ => cases hc

/-- What the write at the head of the queue may rest on while no store operation completes. -/
abbrev idleKnown : Known :=
  { distinct := False, lockout := False, proof := False, apart := False, idle := True, opening := True }

theorem headLaw_step (h : headLaw s) (ht : step s = .next t) : headLaw t := by
  obtain ⟨_, rfl⟩ | ⟨c, _, he⟩ := step_cases ht
  · exact (keeps_headLaw (k := idleKnown) trivial).tick h
  · by_cases hc : completesStore c = true
    · obtain ⟨u, hu, hL⟩ := headLaw_completion (s := s.popped) hc h
      obtain rfl : u = t := Host.Outcome.next.inj (hu.symm.trans he)
      exact hL
    · obtain ⟨u, hu, hcase⟩ := exec_case (k := idleKnown) (s := s.popped) c nofun nofun nofun nofun
        (fun h => absurd h hc) (fun _ => trivial) fun _ => trivial
      obtain rfl : u = t := Host.Outcome.next.inj (hu.symm.trans he)
      exact (keeps_headLaw (k := idleKnown) trivial).stepCase (s := s.popped) hcase h

/-- Settles O12: each thing a step is made of keeps the ranges; the identifiers stay apart in both copies, since a write
that has begun has passed its comparison. -/
theorem everyStepKeepsTheTablesInRange : Obligations.EveryStepKeepsTheTablesInRange := by
  refine ⟨fun s t hs ht => (keeps_tablesLaw (k := nothingKnown)).step nofun nofun nofun nofun id trivial hs ht,
    fun s t hs hi ht => ?_⟩
  obtain ⟨h1, h2, h3, hh⟩ := hi
  obtain ⟨_, h1', h2', h3'⟩ := (keeps_copiesApart (k := { nothingKnown with apart := True }) trivial).step nofun nofun nofun
    (fun _ => hh) id trivial ⟨hs, h1, h2, h3⟩ ht
  exact ⟨h1', h2', h3', headLaw_step hh ht⟩

end Sys2Proof.Machine
end

section
/-! What every command keeps to: it answers, it leaves the waiting commands, and while the part is ASLEEP nearly every
one changes nothing (R14). And the laws right after reset. -/

namespace Sys2Proof.Machine

open Sys2Proof Sys2Proof.Safety

variable {a : Bool} {k : Known} {s t : State}

/-! ### The waiting commands -/

theorem Move.pending {D : Prop} (hm : Move D a s t) : t.pending = s.pending := by
  cases hm with
  | inert t hi => exact hi.pending
  | ports t e _ => rw [e]
  | release n => rw [testHead_touches]
  | credit n v _ => cases n <;> rfl
  | exchanges t e _ => rw [e]
  | append d g i c => obtain ⟨q, m, n, e, _⟩ := appendEntry_shape d g i c s; rw [e]
  | spend w v x d g i c _ _ _ =>
    obtain ⟨q, m, n, e, _⟩ := writeEntry_shape d g i c (setWindow w (some x) s); rw [e]; rfl
  | windowGone w v x _ _ => rw [removeWindow_shape]
  | grantClosed g cause _ => obtain ⟨q, m, n, l, e, _⟩ := grantClose_shape g cause s; rw [e]
  | _ => rfl

theorem Deed.pending (hd : Deed k a s t) : t.pending = s.pending := by
  cases hd with
  | move t hm => exact hm.pending
  | content t hu _ _ _ _ _ _ => exact hu.pending
  | recording n d g i c _ _ => obtain ⟨q, m, n', e, _⟩ := writeEntry_shape d g i c s; rw [e]; rfl
  | _ => rfl

theorem Works.pending (h : Works k a s t) : t.pending = s.pending :=
  Works.relates (R := fun s t => t.pending = s.pending) (fun _ => rfl) (fun h h' => h'.trans h) (fun hd => hd.pending) h

theorem powerLost_pending (s : State) : (powerLost s).pending = s.pending := by
  unfold powerLost
  split
  · next r rest _ =>
    show (tear r s).pending = s.pending
    cases r with
    | trim n id =>
      simp only [tear]
      split <;> rfl
    | _ => rfl
  · rfl

theorem StepCase.pending (h : StepCase k s t) : t.pending = s.pending := by
  cases h with
  | works t hw => exact hw.pending
  | takes x t _ ht =>
    obtain ⟨c, g, i, w, _, hC⟩ := ht
    rw [(Course.works hC).pending, takeWindow_shape]
    rfl
  | starts t ht =>
    obtain ⟨ch, tag, _, _, hC⟩ := ht
    exact (Course.works hC).pending
  | toggled _ => rfl
  | cold lines => exact powerLost_pending s
  | hot lines => rfl

/-- Settles O1: an empty-queue step apart, a step is the front command's meaning. -/
theorem stepRunsFrontCommand : Obligations.StepRunsFrontCommand := by
  intro c rest s h
  unfold step State.popped
  rw [h]
  rfl

/-- Settles O2: every command ends in one of the ways a step is made of, and none touches the waiting commands. -/
theorem commandsAnswerAndKeepTheQueue : Obligations.CommandsAnswerAndKeepTheQueue := fun c s => by
  obtain ⟨t, ht, hc⟩ := exec_case (k := nothingKnown) (s := s) c nofun nofun nofun nofun (fun _ => id) (fun _ => trivial)
    fun _ => trivial
  exact ⟨t, ht, hc.pending⟩

/-! ### ASLEEP (R14) -/

theorem whenAwake_awake (h : s.part.awake = true) (f : State → State) : whenAwake s f = f s := if_pos h

theorem whenAwake_asleep (h : s.part.awake = false) (f : State → State) : whenAwake s f = s := by
  simp [whenAwake, h]

theorem serve_asleep (h : s.part.awake = false) (m : Mgmt) (code : Nat) (f : MgmtExchange → State → State) :
    serve m code f s = s := by
  have : servable s m code = none := by
    unfold servable
    split
    · simp [h]
    · rfl
  unfold serve
  rw [this]

/-- Every command that does not act on an ASLEEP part is one of two things: done while AWAKE, or a request served. -/
theorem exec_forms (c : Instr) (hc : actsAsleep c = false) :
    (∃ f : State → State, ∀ s, exec c s = .next (whenAwake s f)) ∨
      ∃ m code f, ∀ s, exec c s = .next (serve m code f s) := by
  cases c
  case coldStart | hotStart | wake | partTimeTick => cases hc
  case identityRead | statusRead | attentionRead | countersRead | trafficList | grantList | tableRead | recordRead |
      accessRequest | accessProof | grantExtend | grantRevoke | credentialWrite | credentialWithdraw |
      tableWriteWorking | tableWriteStored | tableReload | lockPolicyWrite | recordAcknowledge | restart =>
    exact .inr ⟨_, _, _, fun _ => rfl⟩
  all_goals exact .inl ⟨_, fun _ => rfl⟩

/-- Settles O3: what is done while AWAKE is not done ASLEEP, and no request is served. -/
theorem asleepPartKeepsEverything : Obligations.AsleepPartKeepsEverything := fun c s h hc => by
  obtain ⟨f, hf⟩ | ⟨m, code, f, hf⟩ := exec_forms c hc
  · rw [hf, whenAwake_asleep h]
  · rw [hf, serve_asleep h]

/-! ### The laws at reset -/

theorem reset_window (w : Fin 2) : State.reset.window w = none := by simp [State.reset, State.window]

theorem reset_image (k : TableId) : storedImage .reset k = Image.of (Tables.fallback.images k) := by
  cases k <;> rfl

theorem reset_base (k : TableId) : baseImages .reset k = Tables.fallback.images k := by
  unfold baseImages
  rw [reset_image, Image.of_passes, if_pos rfl]
  rfl

theorem reset_storedChannel (i : Fin 16) : (storedTables .reset).channels.get i = .fallback := by
  rw [storedChannel_eq, reset_base, imageAt_images (show i.val < tableSize .channelTable from i.isLt)]
  show (decodeChannel (encodeChannel (Tables.fallback.channels.get (Fin.ofNat 16 i.val)))).getD _ = _
  rw [decodeChannel_encode (fallback_valid.channels _), ofNat_val]
  exact fallback_channel i

theorem reset_storedMap (i : Fin 16) : (storedTables .reset).maps.get i = .fallback := by
  rw [storedMap_eq, reset_base, imageAt_images (show i.val < tableSize .regionMap from i.isLt)]
  show (decodeMap (encodeMap (Tables.fallback.maps.get (Fin.ofNat 16 i.val)))).getD _ = _
  rw [decodeMap_encode (fallback_valid.maps _), ofNat_val]
  exact fallback_map i

theorem reset_overlay (c : Fin 16) : State.reset.inspector.overlays.get c = none := by simp [State.reset]

theorem roomLaw_reset : roomLaw .reset := ⟨by decide, List.nodup_nil, rfl⟩

theorem portsLaw_reset : portsLaw .reset := by
  have h : countersInRange .zero := by decide
  exact ⟨portLaw_start _ _ h, portLaw_start _ _ h, portLaw_start _ _ h⟩

theorem tablesLaw_reset : tablesLaw .reset := by
  refine (tablesLaw_iff _).2 ⟨fallback_valid, fun c m hm => ?_, fun e c id h => by cases h⟩
  rw [reset_overlay] at hm
  cases hm

theorem downloadLaw_reset : downloadLaw .reset := by
  refine ⟨fun v hv => ?_, fun v hv => ?_, fun c x hx => by cases hx⟩ <;>
  · rw [reset_window] at hv
    cases hv

theorem identifiersLaw_reset : identifiersLaw .reset := by
  refine ⟨channelsApart_fallback, fun i hi => ?_, fun i j _ hi => ?_, fun e k id rest h => by cases h⟩
  · rw [show State.reset.tables.channels.get i = _ from fallback_channel i] at hi
    cases hi
  · rw [reset_storedChannel] at hi
    cases hi

theorem barLaw_reset : barLaw .reset := by
  refine (barLaw_iff _).2 ⟨?_, fun _ c => Holding.of_map ?_, fun c m hm => ?_⟩
  · rw [reset_image]
    simp [Image.of, Tables.images, tableSize]
  · rw [reset_storedMap]
    exact bars_fallback _
  · rw [reset_overlay] at hm
    cases hm

/-- Settles O4: nothing is held right after reset, and every table is at its fallback content. -/
theorem lawsAtReset : Obligations.LawsAtReset :=
  ⟨by decide, roomLaw_reset, portsLaw_reset, by decide, grantTableLaw_none rfl rfl, exchangeLaw_nil rfl,
    windowLaw_none reset_window, tablesLaw_reset, proofLaw_none rfl rfl, downloadLaw_reset, identifiersLaw_reset,
    barLaw_reset, (lampLaw_dark reset_window rfl rfl).1⟩

end Sys2Proof.Machine
end

section
/-! The rows of the Bus Ports, the lines, sleep and the Load Meter, and what the Router drops (chapters 1, 2 and 8). -/

namespace Sys2Proof.Machine

open Sys2Proof Sys2Proof.Safety

variable {s t : State}

/-- A row of an AWAKE part is its function. -/
theorem awake_next {c : Instr} {f : State → State} (h : s.part.awake = true) (he : exec c s = .next (whenAwake s f)) :
    exec c s = .next (f s) := by
  rw [he, whenAwake_awake h]

theorem count_eq (s : State) (p : Port) (f : Counters → Counters) :
    s.count p f = s.setPort p { s.port p with counters := f (s.port p).counters } := rfl

/-! ### Reception -/

theorem presetQuiet_port (s : State) (p : Port) : (presetQuiet s).port p = s.port p := by cases p <;> rfl

/-- Settles O18: a WITHDRAWN port takes nothing; an ACTIVE one counts the frame and then keeps it or counts it again. -/
theorem receivedFrameIsKeptOrCounted : Obligations.ReceivedFrameIsKeptOrCounted := by
  rintro p f s h x q rfl rfl
  have he : exec (.frameReceived p f) s = .next (receive p f s) := awake_next h rfl
  refine ⟨fun hw => ?_, fun ha => ?_⟩
  · rw [he, receive, if_pos hw]
  · have hr : receive p f s = if f.remote then ((presetQuiet s).count p Counters.addReceived).count p
        Counters.addUnroutable else fifoOffer p (keptFrame f) ((presetQuiet s).count p Counters.addReceived) := by
      rw [receive, if_neg (by rw [ha]; decide)]
    rw [he, hr]
    refine ⟨fun hf => ?_, fun hf hl => ?_, fun hf hl => ?_⟩
    · rw [if_pos hf, count_eq, count_port_self, count_eq, setPort_setPort, presetQuiet_port]
      rfl
    · rw [hf, if_neg Bool.false_ne_true, fifoOffer, count_port_self, presetQuiet_port, if_pos hl, count_eq,
        setPort_setPort]
      rfl
    · rw [hf, if_neg Bool.false_ne_true, fifoOffer, count_port_self, presetQuiet_port, if_neg (Nat.not_lt.2 hl),
        count_eq, count_port_self, count_eq, setPort_setPort, presetQuiet_port]
      rfl

/-! ### Recovery and the bit rate -/

/-- Settles O21, port by port. -/
theorem recoveredPortIsActiveAndRateTakesEffect : Obligations.RecoveredPortIsActiveAndRateTakesEffect := by
  rintro p s h x rfl
  refine ⟨?_, ?_⟩
  · rintro hw q rfl
    have hr : exec (.portRecovery p) s = .next (refillPort p (s.setPort p { s.port p with
        status := .active, fault := 0, out := [], recovery := none })) := by
      rw [awake_next h rfl, recover, if_pos hw]
    rw [hr]
    refine ⟨?_, ?_, ?_⟩ <;> (rintro rfl; rfl)
  · rw [awake_next h rfl]
    cases p <;> rfl

/-! ### The lines -/

theorem sampleTooldet_same {level : Bool} (h : level = s.lines.tooldet) :
    sampleTooldet level s = { s with lines := { s.lines with raw := level, debounce := 0 } } := by
  unfold sampleTooldet
  simp only [if_pos h]
  exact if_neg (by decide)

theorem sampleTooldet_counts {level : Bool} (h : level ≠ s.lines.tooldet) (hn : s.lines.debounce + 1 < 200) :
    sampleTooldet level s = { s with lines := { s.lines with raw := level, debounce := s.lines.debounce + 1 } } := by
  unfold sampleTooldet
  simp only [if_neg h]
  exact if_neg (Nat.not_le.2 hn)

/-- The 200th sample in a row is taken. -/
theorem sampleTooldet_takes {level : Bool} (h : level ≠ s.lines.tooldet) (hn : 200 ≤ s.lines.debounce + 1) :
    sampleTooldet level s =
      debounced { s with lines := { s.lines with raw := level, debounce := s.lines.debounce + 1 } } := by
  unfold sampleTooldet
  simp only [if_neg h]
  exact if_pos hn

/-- Presence: the debounced state is asserted and every mirror position QUIET. -/
theorem debounced_asserted (h : s.lines.raw = true) : debounced s = { s with
    lines := { s.lines with tooldet := true, debounce := 0, tooldetChanged := true },
    mirror := Vector.replicate 32 .quiet } := by
  unfold debounced
  simp only [h, if_true]
  rfl

theorem debounceCompletes_changed (h : s.lines.raw ≠ s.lines.tooldet) : debounceCompletes s = debounced s := if_neg h

/-- Settles O22, line by line. -/
theorem linesAreSampledAndDebounced : Obligations.LinesAreSampledAndDebounced := by
  intro level s h
  refine ⟨by rw [awake_next h rfl], fun hl => ?_, fun hl hw => ?_, fun hl => ?_, fun hl hn => ?_, ?_, fun hl => ?_⟩
  · rw [awake_next h rfl, ignonChanges, if_pos hl]
  · rw [awake_next h rfl, ignonChanges, if_neg hl]
    refine congrArg _ (reportConditions_noWindow ?_ _)
    exact hw
  · rw [awake_next h rfl, sampleTooldet_same hl]
  · rw [awake_next h rfl, sampleTooldet_counts hl hn]
  · rintro ht q rfl
    refine ⟨fun hn => ?_, fun hr => ?_⟩
    · rw [awake_next h rfl, sampleTooldet_takes (by rw [ht]; decide) hn, debounced_asserted rfl]
    · rw [awake_next h rfl, debounceCompletes_changed (by rw [ht, hr]; decide), debounced_asserted hr, ← hr]
  · rw [awake_next h rfl, debounceCompletes, if_pos hl]

/-! ### Sleep -/

theorem sleepConditions_iff (s : State) : sleepConditions s = true ↔
    s.lines.ignon = false ∧ s.lines.tooldet = false ∧ s.grants.grants = [] ∧ s.exchanges = [] ∧
      (∀ p, (s.port p).rx = [] ∧ (s.port p).out = []) ∧ s.store.queue = [] := by
  have hp : (∀ p, (s.port p).rx = [] ∧ (s.port p).out = []) ↔ ((s.ports.w.rx = [] ∧ s.ports.w.out = []) ∧
      (s.ports.e.rx = [] ∧ s.ports.e.out = []) ∧ s.ports.c.rx = [] ∧ s.ports.c.out = []) :=
    ⟨fun h => ⟨h .W, h .E, h .C⟩, fun ⟨hw, he, hc⟩ p => by cases p <;> assumption⟩
  rw [hp]
  simp only [sleepConditions, Bool.and_eq_true, Bool.not_eq_true', List.isEmpty_iff]
  tauto

/-- Settles O24: both rows are the sleep test. -/
theorem partFallsAsleepOnlyWhenQuiet : Obligations.PartFallsAsleepOnlyWhenQuiet := by
  intro s h quietPart hq
  have hq : quietPart ↔ sleepConditions s = true := hq.trans (sleepConditions_iff s).symm
  refine ⟨fun h1 => ?_, fun h1 => ?_, fun h1 h2 => ?_, fun h1 => ?_⟩
  · rw [awake_next h rfl]
    exact congrArg _ (if_pos ⟨rfl, hq.1 h1⟩)
  · rw [awake_next h rfl]
    exact congrArg _ (if_neg fun hc => h1 (hq.2 hc.2))
  · rw [awake_next h rfl, sleepTest, if_pos ⟨h2, hq.1 h1⟩]
  · rw [awake_next h rfl, sleepTest, if_neg fun hc => h1 ⟨hq.2 hc.2, hc.1⟩]

/-! ### The refill of a bucket -/

/-- The credit of a bucket after a refill, before any release. -/
def refilled (s : State) (n : Net) : Nat := min (ceilingOf s.tables.ports n) (s.credit n + refillOf s n)

theorem refill_touches (n : Net) (s : State) :
    refill n s = { s with meter := (refill n s).meter, ports := (refill n s).ports } := by
  unfold refill
  rw [testHead_touches]
  cases n <;> rfl

theorem refill_tables (n : Net) (s : State) : (refill n s).tables = s.tables := by rw [refill_touches]

theorem refill_releases {n : Net} {f : OutFrame} {rest : List OutFrame} (h : (s.port (netPort n)).out = f :: rest)
    (ha : (s.port (netPort n)).status = .active) (hf : f.released = false)
    (hc : frameCost f.frame * 100 ≤ refilled s n) :
    (refill n s).credit n = refilled s n - frameCost f.frame * 100 ∧
      (refill n s).port (netPort n) = { s.port (netPort n) with out := { f with released := true } :: rest } := by
  have hp : ∀ v, (s.setCredit n v).port (netPort n) = s.port (netPort n) := fun v => setCredit_port s n v _
  have hr : releasable (s.setCredit n (refilled s n)) n = true :=
    (releasable_iff_of_head (by rw [hp]; exact h)).2 ⟨by rw [hp]; exact ha, hf, by rw [setCredit_credit_self]; exact hc⟩
  have he : refill n s = testHead n (s.setCredit n (refilled s n)) := rfl
  rw [he, testHead_of_releasable (by rw [hp]; exact h) hr]
  simp

theorem refill_leaves {n : Net} (h : ∀ f rest, (s.port (netPort n)).out = f :: rest → f.released = true ∨
    (s.port (netPort n)).status = .withdrawn ∨ refilled s n < frameCost f.frame * 100) :
    refill n s = s.setCredit n (refilled s n) := by
  have he : refill n s = testHead n (s.setCredit n (refilled s n)) := rfl
  rw [he, testHead_of_head_left]
  simpa using h

/-- The refill of one bucket leaves the other port, its credit and the share it gains. -/
theorem refill_apart {n m : Net} (h : m ≠ n) : (refill n s).credit m = s.credit m ∧
    (refill n s).port (netPort m) = s.port (netPort m) ∧ refilled (refill n s) m = refilled s m := by
  have hp : netPort m ≠ netPort n := by cases n <;> cases m <;> simp_all [netPort]
  have hport : (refill n s).port (netPort m) = s.port (netPort m) := by
    obtain ⟨_, e⟩ | ⟨f, rest, _, _, _, _, _, e⟩ := testHead_cases n (s.setCredit n (refilled s n)) <;>
      simp [refill, refilled] at e ⊢ <;> simp [e, setPort_port, hp]
  have hcredit : (refill n s).credit m = s.credit m := by
    obtain ⟨_, e⟩ | ⟨f, rest, _, _, _, _, _, e⟩ := testHead_cases n (s.setCredit n (refilled s n)) <;>
      simp [refill, refilled] at e ⊢ <;> simp [e, setCredit_credit, h]
  refine ⟨hcredit, hport, ?_⟩
  unfold refilled refillOf
  rw [hcredit, hport, refill_tables]

theorem netPort_ne_W (n : Net) : Port.W ≠ netPort n := by cases n <;> decide

theorem refill_W (n : Net) (s : State) : (refill n s).ports.w = s.ports.w := by
  obtain ⟨_, e⟩ | ⟨f, rest, _, _, _, _, _, e⟩ := testHead_cases n (s.setCredit n (refilled s n)) <;>
    simp only [refilled] at e <;> rw [refill, e] <;> cases n <;> rfl

/-- One bucket, once both are refilled, is as its own refill left it. -/
theorem refill_both (n : Net) (s : State) : ∃ u, (refill .C (refill .E s)).credit n = (refill n u).credit n ∧
    (refill .C (refill .E s)).port (netPort n) = (refill n u).port (netPort n) ∧
    u.port (netPort n) = s.port (netPort n) ∧ refilled u n = refilled s n := by
  cases n with
  | E => exact ⟨s, (refill_apart (by decide)).1, (refill_apart (by decide)).2.1, rfl, rfl⟩
  | C => exact ⟨refill .E s, rfl, rfl, (refill_apart (by decide)).2.1, (refill_apart (by decide)).2.2⟩

/-- Settles O26: each bucket is refilled on its own. -/
theorem meterRefillGainsTheShareOfTheRate : Obligations.MeterRefillGainsTheShareOfTheRate := by
  intro s h
  refine ⟨_, awake_next h rfl, ?_, ?_, ?_⟩
  · rintro n r share depth rfl rfl rfl credit hc
    have hcredit : credit = refilled s n := hc.trans (by cases n <;> rfl)
    obtain ⟨u, h1, h2, h3, h4⟩ := refill_both n s
    refine ⟨fun f rest hf ha hr hle => ?_, fun hl => ?_⟩
    · obtain ⟨h5, h6⟩ := refill_releases (s := u) (n := n) (by rw [h3]; exact hf) (by rw [h3]; exact ha) hr
        (by rw [h4, ← hcredit]; exact hle)
      exact ⟨h1.trans (h5.trans (by rw [h4, ← hcredit])), h2.trans (h6.trans (by rw [h3]))⟩
    · have h5 := refill_leaves (s := u) (n := n) (by rw [h3, h4, ← hcredit]; exact hl)
      rw [h5] at h1 h2
      refine ⟨h1.trans ?_, h2.trans ?_⟩
      · rw [setCredit_credit_self, h4, hcredit]
      · rw [setCredit_port, h3]
  · exact (refill_W .C _).trans (refill_W .E s)
  · show refill .C (refill .E s) = _
    rw [refill_touches .C, refill_touches .E]

/-! ### What the Router drops -/

/-- Settles O27. -/
theorem droppedFramesAreCounted : Obligations.DroppedFramesAreCounted := by
  intro s h
  refine ⟨fun p hp => ?_, fun f rest hf hm hd => ?_, ?_⟩
  · rw [awake_next h rfl, routerTakes, hp]
  · have hc : findChannel (taken s .W rest) (fun e => decide (e.ids.request = f.id)) = none :=
      findChannel_none fun d hl => decide_eq_false (hd d hl)
    rw [awake_next h rfl, routerTakes, show (s.port .W).rx = f :: rest from hf]
    show Host.Outcome.next (classifyW f (taken s .W rest)) = _
    rw [classifyW, if_neg (show ¬f.id = (taken s .W rest).tables.ports.wPair.request from hm), hc]
    rfl
  · rintro c f rest p hs hx rfl
    have hx' : channelExchange (taken s (netPort (s.channel c).port) rest) c = none := by
      unfold channelExchange
      rw [setPort_exchanges]
      exact hx
    rw [routerTakes_controller hs, controllerFrame, hx']
    show Host.Outcome.next (dropLate c _) = _
    unfold dropLate targetPort
    rw [setPort_channel, count_eq, setPort_port_self, setPort_setPort]
    rfl

/-! ### The mirror timer -/

/-- Settles O30. -/
theorem mirrorTimerSendsTheHeldFrame : Obligations.MirrorTimerSendsTheHeldFrame := by
  intro i s h
  refine ⟨fun left hl => ?_, ?_⟩
  · rw [awake_next h rfl, mirrorExpired, hl]
    rfl
  · rintro left f hl q rfl
    have he : exec (.mirrorIntervalExpiry i) s = .next (setMirror i (.timing (s.tables.mirrors.get i).interval)
        (offerState .W (offered f .mirror 0 .plain) s)) := by
      rw [awake_next h rfl, mirrorExpired, hl]
      rfl
    refine ⟨fun hr => ?_, fun hr => ?_⟩
    · rw [he, offerState_W hr]
      rfl
    · rw [he, offerState_discarded hr]
      rfl

end Sys2Proof.Machine
end

section
/-! What vehicle traffic brings about: the values of the signals (R82) and the decision of the Mirror List (R28 to R31). -/

namespace Sys2Proof.Machine

open Sys2Proof Sys2Proof.Safety

variable {s t : State} {n : Net} {f : Frame} {rest : List Frame}

/-! ### The values of signals -/

theorem fieldAt_of_getElem? {l : List Byte} {i : Nat} {a : Byte} (h : l[i]? = some a) : fieldAt l i 1 = a.toNat := by
  obtain ⟨hi, he⟩ := List.getElem?_eq_some_iff.1 h
  rw [fieldAt, List.drop_eq_getElem_cons hi, he]
  simp [beNat]

theorem lt_of_getElem? {l : List Byte} {i : Nat} {a : Byte} (h : l[i]? = some a) : i < l.length :=
  (List.getElem?_eq_some_iff.1 h).1

/-- A signal takes a value only from a whole frame of its own. -/
theorem signalValue_none {e : SignalEntry}
    (h : e.live = false ∨ e.port ≠ n ∨ e.id ≠ f.id ∨ f.data.length < e.offset + (if e.wide then 2 else 1)) :
    signalValue e n f = none := by
  unfold signalValue
  by_cases hw : (e.live && e.port == n && e.id == f.id) = true
  · simp only [Bool.and_eq_true, beq_iff_eq] at hw
    obtain ⟨⟨hl, hp⟩, hi⟩ := hw
    have hs : f.data.length < e.offset + (if e.wide then 2 else 1) := by simpa [hl, hp, hi] using h
    cases hwide : e.wide <;> simp only [hwide, if_true, Bool.false_eq_true, if_false] at hs ⊢ <;>
      simp [Nat.not_le.2 hs]
  · rw [if_neg hw]

theorem signalValue_byte {e : SignalEntry} {a : Byte} (hl : e.live = true) (hp : e.port = n) (hi : e.id = f.id)
    (hw : e.wide = false) (ha : f.data[e.offset]? = some a) : signalValue e n f = some a.toNat := by
  have := lt_of_getElem? ha
  simp [signalValue, hl, hp, hi, hw, fieldAt_of_getElem? ha, Nat.succ_le_of_lt this]

theorem signalValue_wide {e : SignalEntry} {a b : Byte} (hl : e.live = true) (hp : e.port = n) (hi : e.id = f.id)
    (hw : e.wide = true) (ha : f.data[e.offset]? = some a) (hb : f.data[e.offset + 1]? = some b) :
    signalValue e n f =
      some (if e.little then b.toNat * 256 + a.toNat else a.toNat * 256 + b.toNat) := by
  have : e.offset + 2 ≤ f.data.length := lt_of_getElem? hb
  simp [signalValue, hl, hp, hi, hw, fieldAt_of_getElem? ha, fieldAt_of_getElem? hb, this]

theorem takeValue_none {e : SignalEntry} {g : SignalState} (h : signalValue e n f = none) : takeValue e n f g = g := by
  rw [takeValue, h]

theorem takeValue_some {e : SignalEntry} {g : SignalState} {v : Nat} (h : signalValue e n f = some v) :
    takeValue e n f g =
      { raw := some v, available := decide (v ≠ notAvailable e), fresh := true, timer := some e.stale } := by
  rw [takeValue, h]
  by_cases hv : v = notAvailable e <;> simp [hv]

/-- Settles O28. -/
theorem vehicleFrameGivesSignalsTheirValues : Obligations.VehicleFrameGivesSignalsTheirValues := by
  intro n f rest s h ht hw
  have hq : offerSignals n f (taken s (netPort n) rest) =
      { taken s (netPort n) rest with signals := signalsAfter n f (taken s (netPort n) rest) } := by
    refine reportConditions_noWindow (fun w => ?_) _
    exact (setPort_window s _ _ w).trans (hw w)
  have hb : broadcast n f (taken s (netPort n) rest) =
      { taken s (netPort n) rest with signals := signalsAfter n f (taken s (netPort n) rest) } := by
    rw [broadcast, hq]
    refine if_neg fun hl => ?_
    rw [setPort_lines, ht] at hl
    cases hl
  have hstatus : ((taken s (netPort n) rest).port (netPort n)).status = (s.port (netPort n)).status := by
    rw [taken, setPort_port_self]
  refine ⟨_, routerTakes_vehicle h, ?_, fun hd => ?_, ?_⟩
  · rw [hb]
  · rw [hb, signalsAfter, hstatus, hd]
    simp
  · rintro ha i e rfl
    have hget : (broadcast n f (taken s (netPort n) rest)).signals.get i =
        takeValue (s.tables.signals.get i) n f (s.signals.get i) := by
      rw [hb, signalsAfter, hstatus, ha]
      simp
    rw [hget]
    refine ⟨fun hn => takeValue_none (signalValue_none hn), fun a hl hp hi hw ha => ?_, ?_⟩
    · rw [takeValue_some (signalValue_byte hl hp hi hw ha), notAvailable, hw]
      rfl
    · rintro a b v hl hp hi hw ha hb rfl
      rw [takeValue_some (signalValue_wide hl hp hi hw ha hb), notAvailable, hw]
      rfl

/-! ### The Mirror List -/

/-- Two values agree where the mask is 1 exactly when the masked difference is 0. -/
theorem masked_eq_zero_iff {w : Nat} (a v k : BitVec w) :
    ((a ^^^ v) &&& k == 0) = true ↔ ∀ j, k.getLsbD j = true → a.getLsbD j = v.getLsbD j := by
  rw [beq_iff_eq, BitVec.eq_of_getLsbD_eq_iff]
  simp only [BitVec.getLsbD_and, BitVec.getLsbD_xor]
  constructor
  · intro h j hj
    have hlt : j < w := BitVec.lt_of_getLsbD hj
    have := h j hlt
    simpa [hj] using this
  · intro h j _
    by_cases hj : k.getLsbD j = true
    · simp [h j hj]
    · simp [hj]

theorem identMatches_iff (m : MatchId) (i : Ident) : identMatches m i = true ↔
    (∃ v k a : BitVec 11, m = .std v k ∧ i = .std a ∧ ∀ j, k.getLsbD j = true → a.getLsbD j = v.getLsbD j) ∨
      ∃ v k a : BitVec 29, m = .ext v k ∧ i = .ext a ∧ ∀ j, k.getLsbD j = true → a.getLsbD j = v.getLsbD j := by
  cases m <;> cases i <;> simp [identMatches, ← masked_eq_zero_iff]

theorem mirrorMatches_iff (e : MirrorEntry) (n : Net) (f : Frame) : mirrorMatches e n f = true ↔
    e.inUse = true ∧ e.port = n ∧ identMatches e.ids f.id = true := by
  simp [mirrorMatches, and_assoc]

theorem decidingPosition_none (h : ∀ j, mirrorMatches (s.tables.mirrors.get j) n f = false) :
    decidingPosition s n f = none := by
  simp [decidingPosition, h]

theorem find?_finRange {m : Nat} {p : Fin m → Bool} {i : Fin m} (h : p i = true) (hb : ∀ j, j < i → p j = false) :
    (List.finRange m).find? p = some i := by
  rw [List.find?_eq_some_iff_getElem]
  refine ⟨h, i.val, by simp, by simp, fun j hj => ?_⟩
  simp [hb ⟨j, by omega⟩ (by simpa [Fin.lt_def] using hj)]

theorem decidingPosition_first {i : Fin 32} (h : mirrorMatches (s.tables.mirrors.get i) n f = true)
    (hb : ∀ j, j < i → mirrorMatches (s.tables.mirrors.get j) n f = false) : decidingPosition s n f = some i :=
  find?_finRange h hb

/-- A frame no signal watches changes no signal and no condition. -/
theorem offerSignals_unwatched (h : ∀ i, (s.tables.signals.get i).live = true → (s.tables.signals.get i).port = n →
    (s.tables.signals.get i).id ≠ f.id) : offerSignals n f s = s := by
  have hs : signalsAfter n f s = s.signals := by
    unfold signalsAfter
    split
    · rfl
    · refine Vector.ext fun i hi => ?_
      have : (tabulate 4 fun i => takeValue (s.tables.signals.get i) n f (s.signals.get i)).get ⟨i, hi⟩ =
          s.signals.get ⟨i, hi⟩ := by
        rw [tabulate_get]
        refine takeValue_none (signalValue_none ?_)
        have := h ⟨i, hi⟩
        by_cases hl : (s.tables.signals.get ⟨i, hi⟩).live = true
        · by_cases hp : (s.tables.signals.get ⟨i, hi⟩).port = n
          · exact .inr (.inr (.inl (this hl hp)))
          · exact .inr (.inl hp)
        · exact .inl (by simpa using hl)
      exact this
  rw [offerSignals, hs]
  exact if_pos rfl

/-- An offer to port W by the Mirror List, with room. -/
theorem offerMirror_room (h : hasRoom s .W) (f : Frame) :
    offerMirror f s = withReply s (offered f .mirror 0 .plain) := offerState_W h _

/-! The deciding position: BLOCK, PASS without an interval, QUIET, and TIMING or HOLDING. -/

theorem mirrorFrame_blocks {i : Fin 32} (h : (s.tables.mirrors.get i).pass = false) : mirrorFrame i f s = s := if_pos h

theorem mirrorFrame_always {i : Fin 32} (h : (s.tables.mirrors.get i).pass = true)
    (hi : (s.tables.mirrors.get i).interval = 0) : mirrorFrame i f s = offerMirror f s := by
  rw [mirrorFrame, if_neg (by simp [h]), if_pos hi]

theorem mirrorFrame_quiet {i : Fin 32} (h : (s.tables.mirrors.get i).pass = true)
    (hi : (s.tables.mirrors.get i).interval ≠ 0) (hq : s.mirror.get i = .quiet) :
    mirrorFrame i f s = setMirror i (.timing (s.tables.mirrors.get i).interval) (offerMirror f s) := by
  rw [mirrorFrame, if_neg (by simp [h]), if_neg hi, hq]

theorem mirrorFrame_held {i : Fin 32} {left : Nat} (h : (s.tables.mirrors.get i).pass = true)
    (hi : (s.tables.mirrors.get i).interval ≠ 0)
    (hq : s.mirror.get i = .timing left ∨ ∃ g, s.mirror.get i = .holding left g) :
    mirrorFrame i f s = setMirror i (.holding left f) s := by
  obtain hq | ⟨g, hq⟩ := hq <;> rw [mirrorFrame, if_neg (by simp [h]), if_neg hi, hq]

/-- Settles O29. -/
theorem mirrorListDecidesOnVehicleFrames : Obligations.MirrorListDecidesOnVehicleFrames := by
  refine ⟨fun e n f => (mirrorMatches_iff e n f).trans (by rw [identMatches_iff]), ?_⟩
  rintro n f rest s h hr hs q out rfl rfl
  have htab : (taken s (netPort n) rest).tables = s.tables := setPort_tables ..
  have hmir : (taken s (netPort n) rest).mirror = s.mirror := setPort_mirror ..
  have htool : (taken s (netPort n) rest).lines.tooldet = s.lines.tooldet := by rw [taken, setPort_lines]
  have hroom : hasRoom (taken s (netPort n) rest) .W := by
    have : (taken s (netPort n) rest).port .W = s.port .W := by
      rw [taken, setPort_port, if_neg (netPort_ne_W n)]
    rw [hasRoom, this]
    exact hr
  have he : exec (.routerTakesFrame (netPort n)) s = .next (offerMirrors n f (taken s (netPort n) rest)) := by
    rw [routerTakes_vehicle h, broadcast, offerSignals_unwatched (by rw [htab]; exact hs)]
  refine ⟨fun ht => ?_, fun hm => ?_, ?_⟩
  · rw [he, offerMirrors, if_neg (by simp [ht])]
  · rw [he, offerMirrors, decidingPosition_none (by rw [htab]; exact hm)]
    split <;> rfl
  · rintro i e rfl ht hm hb
    have hgo : exec (.routerTakesFrame (netPort n)) s = .next (mirrorFrame i f (taken s (netPort n) rest)) := by
      rw [he, offerMirrors, if_pos (htool.trans ht),
        decidingPosition_first (by rw [htab]; exact hm) (by rw [htab]; exact hb)]
    rw [hgo]
    refine ⟨fun hp => ?_, fun hp hi => ?_, fun hp hi hq => ?_, fun left hp hi hq => ?_⟩
    · rw [mirrorFrame_blocks (by rw [htab]; exact hp)]
    · rw [mirrorFrame_always (by rw [htab]; exact hp) (by rw [htab]; exact hi), offerMirror_room hroom]
    · rw [mirrorFrame_quiet (by rw [htab]; exact hp) (by rw [htab]; exact hi) (by rw [hmir]; exact hq),
        offerMirror_room hroom, htab]
      simp [setMirror]
    · rw [mirrorFrame_held (by rw [htab]; exact hp) (by rw [htab]; exact hi) (by rw [hmir]; exact hq)]
      simp [setMirror]

end Sys2Proof.Machine
end

section
/-! What the starts leave (R15, R16, R166, R167): the cold start from the store as it is found, the cold start in the
middle of a store operation, and the hot start. -/

namespace Sys2Proof.Machine

open Sys2Proof Sys2Proof.Safety

variable {s t : State} {lines : Levels}

/-! ### What both starts leave -/

/-- A state whose parts are those of a start. -/
theorem started_of (hp : t.part.awake = true ∧ t.part.quiet = 5000) (hl : t.lines = firstSample lines)
    (hm : t.mirror = Vector.replicate 32 .quiet) (hs : t.signals = Vector.replicate 4 .stale) (hx : t.exchanges = [])
    (hg : t.grants.challenge = none ∧ t.grants.digest = none ∧ t.grants.grants = [] ∧ t.grants.lamp = .dark)
    (hi : t.inspector = .clear) (hc : t.meter = fullMeter t.tables.ports)
    (ha : t.agent.sideW = .absent ∧ t.agent.sideC = .absent ∧ t.agent.restart = .idle) : Started lines t where
  part := hp
  lineStates := hl
  mirrors i := by simp [hm]
  signals i := by simp [hs, SignalState.stale]
  exchanges := hx
  grants := hg
  windows w := by simp [State.window, hi, Inspector.clear]
  overlays c := by rw [hi]; exact clear_overlay c
  credit := by rw [hc]; exact ⟨rfl, rfl⟩
  agent := ha

theorem coldStart_started (lines : Levels) (s : State) : Started lines (coldStart lines s) :=
  started_of ⟨rfl, rfl⟩ rfl rfl rfl rfl ⟨rfl, rfl, rfl, rfl⟩ rfl rfl ⟨rfl, rfl, rfl⟩

theorem hotStart_started (lines : Levels) (s : State) : Started lines (hotStart lines s) :=
  started_of ⟨rfl, rfl⟩ rfl rfl rfl rfl ⟨rfl, rfl, rfl, rfl⟩ rfl rfl ⟨rfl, rfl, rfl⟩

/-! ### The hot start -/

theorem hotStart_hotStarted (lines : Levels) (s : State) : HotStarted lines s (hotStart lines s) where
  started := hotStart_started lines s
  pending := rfl
  ports p := by cases p <;> rfl
  tables := ⟨rfl, rfl, rfl, rfl, rfl, rfl⟩
  maps c := hotTables_map s c
  kept := ⟨rfl, rfl, rfl, rfl⟩
  record := rfl
  attention := rfl
  store := rfl

theorem hotStartDue_iff (s : State) : hotStartDue s = true ↔ s.agent.restart = .due ∧ s.store.queue = [] := by
  simp [hotStartDue]

/-- Settles O17. -/
theorem hotStartAndWakeLeaveTheHotStartState : Obligations.HotStartAndWakeLeaveTheHotStartState := by
  intro lines cause s
  refine ⟨fun hd hq => ⟨hotStart lines s, congrArg _ (if_pos ((hotStartDue_iff s).2 ⟨hd, hq⟩)),
      hotStart_hotStarted lines s⟩, fun h => congrArg _ (if_neg fun hc => ?_),
    fun h => ⟨hotStart lines s, congrArg _ (if_neg (by simp [h])), hotStart_hotStarted lines s⟩,
    fun h => congrArg _ (if_pos h)⟩
  obtain ⟨hd, hq⟩ := (hotStartDue_iff s).1 hc
  exact h.elim (fun h => h hd) fun h => h hq

/-! ### What a cold start loads, by the check words (R164, R167) -/

theorem powerLost_idle (h : s.store.queue = []) : powerLost s = s := by
  unfold powerLost
  rw [h]

theorem image_passes_iff (i : Image) : i.passes = true ↔ i.check = checkWord i.entries := beq_iff_eq

theorem slotStateByte_eq (k : SlotState) : slotStateByte k = byte k.number := by cases k <;> rfl

theorem storedSlot_passes_iff (k : StoredSlot) :
    k.passes = true ↔ k.check = checkWord [slotStateByte k.slot.state :: beBytes 16 k.slot.key.toNat] := by
  rw [slotStateByte_eq]
  exact beq_iff_eq

theorem count_passes_iff (n : StoredNumber) : n.countPasses = true ↔ n.check = checkWord [beBytes 1 n.value] :=
  beq_iff_eq

theorem mark_passes_iff (n : StoredNumber) : n.markPasses = true ↔ n.check = checkWord [beBytes 4 n.value] :=
  beq_iff_eq

theorem loadedSlot_eq (k : StoredSlot) : loadedSlot k =
    if k.check = checkWord [slotStateByte k.slot.state :: beBytes 16 k.slot.key.toNat] then k.slot
    else { k.slot with state := .withdrawn } := by
  simp only [loadedSlot, storedSlot_passes_iff]

theorem loadedFailures_eq (n : StoredNumber) :
    loadedFailures n = if n.check = checkWord [beBytes 1 n.value] then n.value else 3 := by
  simp only [loadedFailures, count_passes_iff]

theorem any_toList {α : Type} {n : Nat} (v : Vector α n) (p : α → Bool) :
    v.toList.any p = true ↔ ∃ i, p (v.get i) = true := by
  rw [List.any_eq_true]
  constructor
  · rintro ⟨x, hx, hp⟩
    obtain ⟨i, hi, rfl⟩ := Vector.mem_iff_getElem.1 (Vector.mem_toList_iff.1 hx)
    exact ⟨⟨i, hi⟩, hp⟩
  · rintro ⟨i, hp⟩
    exact ⟨_, Vector.mem_toList_iff.2 (Vector.getElem_mem i.isLt), hp⟩

theorem tableFin_surjective : ∀ j : Fin 7, ∃ k, tableFin k = j
  | 0 => ⟨.portSettings, rfl⟩
  | 1 => ⟨.channelTable, rfl⟩
  | 2 => ⟨.serviceClassMap, rfl⟩
  | 3 => ⟨.classPolicy, rfl⟩
  | 4 => ⟨.signalTable, rfl⟩
  | 5 => ⟨.mirrorList, rfl⟩
  | 6 => ⟨.regionMap, rfl⟩

theorem images_fail_iff (s : State) : s.store.images.toList.any (fun i => !i.passes) = true ↔
    ∃ k, (storedImage s k).check ≠ checkWord (storedImage s k).entries := by
  rw [any_toList]
  constructor
  · rintro ⟨j, h⟩
    obtain ⟨k, rfl⟩ := tableFin_surjective j
    exact ⟨k, by simpa [Image.passes, storedImage] using h⟩
  · rintro ⟨k, h⟩
    exact ⟨tableFin k, by simpa [Image.passes, storedImage] using h⟩

theorem loadFails_iff (s : State) : loadFails s = true ↔
    (∃ k, (storedImage s k).check ≠ checkWord (storedImage s k).entries) ∨
    (∃ i k, k = s.store.slots.get i ∧
      k.check ≠ checkWord [slotStateByte k.slot.state :: beBytes 16 k.slot.key.toNat]) ∨
    s.store.failures.check ≠ checkWord [beBytes 1 s.store.failures.value] := by
  have hs : s.store.slots.toList.any (fun k => !k.passes) = true ↔ ∃ i k, k = s.store.slots.get i ∧
      k.check ≠ checkWord [slotStateByte k.slot.state :: beBytes 16 k.slot.key.toNat] := by
    rw [any_toList]
    simp only [exists_eq_left, ← storedSlot_passes_iff, ne_eq, Bool.not_eq_true', Bool.not_eq_true]
  have hn : (!s.store.failures.countPasses) = true ↔
      s.store.failures.check ≠ checkWord [beBytes 1 s.store.failures.value] := by
    rw [ne_eq, ← count_passes_iff, Bool.not_eq_true', Bool.not_eq_true]
  rw [loadFails, Bool.or_eq_true, Bool.or_eq_true, images_fail_iff, hs, hn, or_assoc]

theorem entryFails_iff (s : State) :
    entryFails s = true ↔ ∃ y ∈ s.store.entries, y.check ≠ checkWord [entryBytes y.entry] := by
  simp [entryFails, StoredEntry.passes]

/-- Settles O14. -/
theorem coldStartLeavesTheColdStartState : Obligations.ColdStartLeavesTheColdStartState := by
  intro lines s
  refine ⟨coldStart lines s, rfl, coldStart_started lines s, powerLost_pending s, fun p => by cases p <;> rfl, rfl, rfl,
    rfl, powerLost_queue s, rfl, ⟨rfl, rfl, rfl, rfl, rfl⟩, fun hq => ?_⟩
  have hs : coldStart lines s = loadAll lines s := by rw [coldStart, powerLost_idle hq]
  rw [hs]
  refine ⟨storedKept_eq s, ?_, ?_, ?_, entryFails_iff s, loadFails_iff s⟩
  · rintro n rfl
    exact loadedFailures_eq _
  · rintro n rfl
    exact if_congr (mark_passes_iff _) rfl rfl
  · rintro i k rfl
    show (mapAll s.store.slots loadedSlot).get i = _
    rw [mapAll_get, loadedSlot_eq]

/-! ### The working tables (R167, R22) -/

/-- The entry numbered by a place of a table that has that place. -/
theorem ofNat_eq {n i : Nat} [NeZero n] (h : i < n) : Fin.ofNat n i = ⟨i, h⟩ := Fin.ext (Nat.mod_eq_of_lt h)

/-- An entry whose image reads back is loaded as it reads. -/
theorem tableFrom_entry {k : TableId} {i : Nat} {e : TableEntry} {images : List (List Byte)} (tb : Tables)
    (hi : i < tableSize k) (h : readEntry k (entryNumber k i) (imageAt images i) = some e) :
    (tableFrom k images tb).entry k i = e := by
  cases k with
  | portSettings =>
    obtain rfl : i = 0 := Nat.lt_one_iff.1 hi
    have h : (decodePortSettings (imageAt images 0)).map .portSettings = some e := h
    obtain ⟨x, hx, rfl⟩ := Option.map_eq_some_iff.1 h
    exact congrArg (fun o => TableEntry.portSettings (o.getD .fallback)) hx
  | serviceClassMap =>
    have hi : i < 126 := hi
    have hn : 1 ≤ i + 1 ∧ i + 1 ≤ 126 := by omega
    obtain ⟨x, hx, rfl⟩ := Option.map_eq_some_iff.1 ((dif_pos hn).symm.trans h)
    dsimp only [Tables.entry, tableFrom]
    rw [ofNat_eq (n := 126) hi, tabulate_get]
    exact congrArg (fun o => TableEntry.code ⟨i, hi⟩ (o.getD .fallback)) hx
  | channelTable =>
    obtain ⟨x, hx, rfl⟩ := Option.map_eq_some_iff.1 ((dif_pos hi).symm.trans h)
    dsimp only [Tables.entry, tableFrom]
    rw [ofNat_eq (n := 16) hi, tabulate_get]
    exact congrArg (fun o => TableEntry.channel ⟨i, hi⟩ (o.getD .fallback)) hx
  | classPolicy =>
    obtain ⟨x, hx, rfl⟩ := Option.map_eq_some_iff.1 ((dif_pos hi).symm.trans h)
    dsimp only [Tables.entry, tableFrom]
    rw [ofNat_eq (n := 5) hi, tabulate_get]
    exact congrArg (fun o => TableEntry.policy ⟨i, hi⟩ (o.getD .fallback)) hx
  | signalTable =>
    obtain ⟨x, hx, rfl⟩ := Option.map_eq_some_iff.1 ((dif_pos hi).symm.trans h)
    dsimp only [Tables.entry, tableFrom]
    rw [ofNat_eq (n := 4) hi, tabulate_get]
    exact congrArg (fun o => TableEntry.signal ⟨i, hi⟩ (o.getD .fallback)) hx
  | mirrorList =>
    obtain ⟨x, hx, rfl⟩ := Option.map_eq_some_iff.1 ((dif_pos hi).symm.trans h)
    dsimp only [Tables.entry, tableFrom]
    rw [ofNat_eq (n := 32) hi, tabulate_get]
    exact congrArg (fun o => TableEntry.mirror ⟨i, hi⟩ (o.getD .fallback)) hx
  | regionMap =>
    obtain ⟨x, hx, rfl⟩ := Option.map_eq_some_iff.1 ((dif_pos hi).symm.trans h)
    dsimp only [Tables.entry, tableFrom]
    rw [ofNat_eq (n := 16) hi, tabulate_get]
    exact congrArg (fun o => TableEntry.map ⟨i, hi⟩ (o.getD .fallback)) hx

theorem storedTables_entry (s : State) (k : TableId) (i : Nat) :
    (storedTables s).entry k i = (storedContent s k).entry k i := by
  cases k <;> rfl

theorem storedContent_passing {k : TableId} (h : (storedImage s k).check = checkWord (storedImage s k).entries) :
    storedContent s k = tableFrom k (storedImage s k).entries .fallback :=
  if_pos ((image_passes_iff _).2 h)

theorem storedContent_failing {k : TableId} (h : (storedImage s k).check ≠ checkWord (storedImage s k).entries) :
    storedContent s k = .fallback :=
  if_neg fun hc => h ((image_passes_iff _).1 hc)

theorem agree_entry {k : TableId} (h : k ≠ .channelTable) (tb : Tables) (i : Nat) :
    (agree tb).entry k i = tb.entry k i := by
  cases k with
  | channelTable => exact absurd rfl h
  | _ => rfl

/-- The management identifiers are agreed with by a channel that is not live. -/
theorem agree_fallback {tb : Tables} {i : Fin 16} (h : tb.channels.get i = .fallback) :
    (agree tb).channels.get i = .fallback := by
  rw [agree_channel, h]
  split <;> rfl

theorem loadedTables_failing {k : TableId} (h : storedContent s k = .fallback) (i : Nat) :
    (loadedTables s).entry k i = Tables.fallback.entry k i := by
  by_cases hk : k = .channelTable
  · subst hk
    have hc : (storedTables s).channels = Tables.fallback.channels := by rw [storedTables_channels, h]
    have hf : ((storedTables s).channels.get (Fin.ofNat 16 i)) = .fallback := by rw [hc]; exact fallback_channel _
    show TableEntry.channel _ ((agree (storedTables s)).channels.get _) = _
    rw [agree_fallback hf, Tables.entry, fallback_channel]
  · rw [loadedTables, agree_entry hk, storedTables_entry, h]

theorem inPair_iff (p : IdPair) (i : Ident) : inPair p i = true ↔ ¬outside p i := by
  simp only [inPair, outside, Bool.or_eq_true, beq_iff_eq]
  constructor
  · rintro (h | h) ⟨h1, h2⟩
    · exact h1 h.symm
    · exact h2 h.symm
  · intro h
    by_cases hr : p.request = i
    · exact .inl hr
    · exact .inr (by_contra fun hc => h ⟨fun e => hr e.symm, fun e => hc e.symm⟩)

theorem clashesManagement_iff (p : PortSettings) (e : ChannelEntry) : clashesManagement p e = true ↔ e.live = true ∧
    ∃ j, (j = e.ids.request ∨ j = e.ids.response) ∧ (¬outside p.wPair j ∨ e.port = .C ∧ ¬outside p.cPair j) := by
  simp only [clashesManagement, Bool.and_eq_true, Bool.or_eq_true, beq_iff_eq, inPair_iff]
  constructor
  · rintro ⟨hl, (h | h) | ⟨hp, h | h⟩⟩
    · exact ⟨hl, _, .inl rfl, .inl h⟩
    · exact ⟨hl, _, .inr rfl, .inl h⟩
    · exact ⟨hl, _, .inl rfl, .inr ⟨hp, h⟩⟩
    · exact ⟨hl, _, .inr rfl, .inr ⟨hp, h⟩⟩
  · rintro ⟨hl, j, rfl | rfl, h | ⟨hp, h⟩⟩
    · exact ⟨hl, .inl (.inl h)⟩
    · exact ⟨hl, .inr ⟨hp, .inl h⟩⟩
    · exact ⟨hl, .inl (.inr h)⟩
    · exact ⟨hl, .inr ⟨hp, .inr h⟩⟩

theorem loadedFlags_get (s : State) (k : TableId) : (loadedFlags s).get (tableFin k) = !(storedImage s k).passes := by
  simp [loadedFlags, storedImage]

/-- A loaded channel: not live if it has an identifier of a management pair, and as it was read otherwise. -/
theorem loadedChannel {i : Fin 16} {e : ChannelEntry} {own : Prop} (he : (storedTables s).channels.get i = e)
    (ho : own ↔ ∃ j, (j = e.ids.request ∨ j = e.ids.response) ∧ (¬outside (loadedTables s).ports.wPair j ∨
      e.port = .C ∧ ¬outside (loadedTables s).ports.cPair j)) :
    (own → (loadedTables s).channels.get i = { e with live := false }) ∧
      (¬own → (loadedTables s).channels.get i = e) := by
  have hc : clashesManagement (storedTables s).ports e = true ↔ e.live = true ∧ own :=
    (clashesManagement_iff _ e).trans (and_congr_right fun _ => ho.symm)
  rw [loadedTables, agree_channel, he]
  refine ⟨fun h => ?_, fun h => if_neg fun hx => h (hc.1 hx).2⟩
  by_cases hl : e.live = true
  · exact if_pos (hc.2 ⟨hl, h⟩)
  · rw [if_neg fun hx => hl (hc.1 hx).1]
    obtain ⟨live, _⟩ := e
    obtain rfl : live = false := by simpa using hl
    rfl

/-- Settles O15. -/
theorem coldStartLoadsTheStoredTables : Obligations.ColdStartLoadsTheStoredTables := by
  intro lines s k hq
  refine ⟨loadAll lines s, congrArg (fun u => Host.Outcome.next (loadAll lines u)) (powerLost_idle hq), fun hp => ?_, fun hp => ?_, rfl⟩
  · refine ⟨?_, fun hk i e hi hr => ?_, ?_⟩
    · show (loadedFlags s).get (tableFin k) = false
      rw [loadedFlags_get, (image_passes_iff _).2 hp]
      rfl
    · show (loadedTables s).entry k i = e
      rw [loadedTables, agree_entry hk, storedTables_entry, storedContent_passing hp]
      exact tableFrom_entry _ hi hr
    · rintro rfl i e hr own ho
      refine loadedChannel ?_ ho
      have he := tableFrom_entry .fallback (k := .channelTable) i.isLt hr
      rw [← storedContent_passing hp, ← storedTables_entry] at he
      have := (TableEntry.channel.inj he).2
      rwa [ofNat_val] at this
  · refine ⟨?_, (loadFails_iff s).2 (.inl ⟨k, hp⟩), fun i _ => loadedTables_failing (storedContent_failing hp) i⟩
    show (loadedFlags s).get (tableFin k) = true
    rw [loadedFlags_get, Bool.not_eq_true', Bool.eq_false_iff]
    exact fun h => hp ((image_passes_iff _).1 h)

/-! ### A store operation cut short (R166) -/

variable {r : StoreRequest} {rest : List StoreRequest}

theorem powerLost_busy (h : s.store.queue = r :: rest) : powerLost s = setQueue [] (nextDraw (tear r s)) := by
  unfold powerLost
  rw [h]

theorem storedEntries_powerLost (h : s.store.queue = r :: rest) :
    (powerLost s).store.entries = (tear r s).store.entries := by
  rw [powerLost_busy h]
  rfl

/-- An image cut short is loaded as fallback content, with its flag and FALLBACK. -/
theorem loadAll_failing {k : TableId} (h : (storedImage s k).passes = false) :
    (loadAll lines s).store.fallback.get (tableFin k) = true ∧ (loadAll lines s).agent.attention.fallback = true ∧
      ∀ i, (loadAll lines s).tables.entry k i = Tables.fallback.entry k i := by
  have hp : (storedImage s k).check ≠ checkWord (storedImage s k).entries := fun hc => by
    rw [(image_passes_iff _).2 hc] at h
    cases h
  refine ⟨?_, (loadFails_iff s).2 (.inl ⟨k, hp⟩), loadedTables_failing (storedContent_failing hp)⟩
  show (loadedFlags s).get (tableFin k) = true
  rw [loadedFlags_get, h]
  rfl

/-- A slot whose stored copy has been cut short is loaded WITHDRAWN. -/
theorem loadedSlot_torn (i : Fin 8) (s : State) : (loadedSlot ((tornSlot i s).store.slots.get i)).state = .withdrawn := by
  have h : ((tornSlot i s).store.slots.get i).passes = false := by simp [tornSlot, StoredSlot.passes, wrongCheck_ne]
  rw [loadedSlot, h]
  rfl

theorem loadedFailures_torn (s : State) : loadedFailures (tornCount s).store.failures = 3 := by
  have h : (tornCount s).store.failures.countPasses = false := by
    simp [tornCount, StoredNumber.countPasses, wrongCheck_ne]
  rw [loadedFailures, h]
  rfl

/-- Settles O16, by the kind of the operation that is cut short. -/
theorem coldStartCutsShortTheOperation : Obligations.ColdStartCutsShortTheOperation := by
  intro lines s r rest hq
  have hslots : (coldStart lines s).grants.slots = mapAll (tear r s).store.slots loadedSlot := by
    rw [coldStart, powerLost_busy hq]
    rfl
  have hkept : (coldStart lines s).record.kept = passing (tear r s).store.entries := by
    rw [← storedEntries_powerLost hq]
    exact storedKept_eq _
  refine ⟨coldStart lines s, rfl, powerLost_queue s, ?_, ?_, ?_, ?_, ?_, ?_, ?_⟩
  · rintro e c q rfl
    have hf : (storedImage (powerLost s) (tableOf e)).passes = false := by
      rw [powerLost_busy hq]
      show (storedImage (setImage _ _ s) _).passes = false
      rw [storedImage_setImage, if_pos rfl, tornImage_fails]
    obtain ⟨h1, h2, h3⟩ := loadAll_failing (lines := lines) hf
    exact ⟨h1, h2, fun i _ => h3 i⟩
  · rintro i key c q rfl
    rw [hslots, mapAll_get]
    exact loadedSlot_torn i s
  · rintro i c q rfl
    rw [hslots, mapAll_get]
    exact loadedSlot_torn i s
  · rintro n rfl
    have hn : loadedFailures (powerLost s).store.failures = 3 := by
      rw [powerLost_busy hq]
      exact loadedFailures_torn s
    exact ⟨hn, if_pos hn⟩
  · rintro p c q rfl
    have hf : (storedImage (powerLost s) .portSettings).passes = false := by
      rw [powerLost_busy hq]
      show (storedImage (setImage _ _ s) _).passes = false
      rw [storedImage_setImage, if_pos rfl, tornImage_fails]
    exact TableEntry.portSettings.inj ((loadAll_failing (lines := lines) hf).2.2 0)
  · rintro e rfl
    have he : (tear (.append e) s).store.entries = storedWith (tornEntry s.part.draws e) s.store.entries := rfl
    refine ⟨?_, ?_⟩
    · rw [hkept, he, passing_storedWith, tornEntry_fails]
      exact List.append_nil _
    · show entryFails (powerLost s) = true
      rw [entryFails, storedEntries_powerLost hq, he, storedWith, List.any_append]
      simp [tornEntry_fails]
  · rintro n q rfl
    rw [hkept]
    simp only [tear]
    split
    · exact .inr (passing_trimStored n _)
    · exact .inl rfl

end Sys2Proof.Machine
end

section
/-! The timers of exchanges and messages: the reply timer, the segment timers and the gaps (R48, R50, R53, R64). -/

namespace Sys2Proof.Machine

open Sys2Proof Sys2Proof.Safety

variable {s t : State} {x : ChannelExchange}

/-! ### The close of an exchange without a window -/

theorem inspectorClosed_free (h : x.window = none) (cause : Closing) (s : State) : inspectorClosed x cause s = s := by
  unfold inspectorClosed
  rw [h]

theorem closeExchange_free {cause : Closing} {r : Reason} (h : x.window = none) (hr : closingReason cause = some r)
    (hw : hasRoom s .W) : closeExchange x cause s =
      withReply (dropChannelExchange x.id s) (replyFrame s x.channel x.code (reasonCode r)) := by
  unfold closeExchange
  rw [inspectorClosed_free h, hr]
  exact gatewayReply_W (s := dropChannelExchange x.id s) hw _ _ _

/-- Settles O37. -/
theorem replyTimerClosesTheExchange : Obligations.ReplyTimerClosesTheExchange := by
  intro c s h
  refine ⟨fun x left _ hx hs ht hw hr => ?_, fun hx => ?_⟩
  · rw [awake_next h rfl, replyExpired, hx]
    show Host.Outcome.next (if x.state = .awaiting ∧ x.timer.isRunning = true then _ else _) = _
    rw [if_pos ⟨hs, by rw [ht]; rfl⟩, closeExchange_free hw rfl hr, (channelExchange_some hx).2]
    rfl
  · rw [awake_next h rfl, replyExpired]
    split
    · next x hc =>
      refine congrArg _ (if_neg fun hn => ?_)
      obtain e | e := hx x hc <;> rw [e] at hn <;> cases hn.2
    · rfl

/-! ### Segment timers -/

theorem offerMgmt_room {m : Mgmt} {part : MgmtPart} (h : hasRoom s (mgmtPort m)) (f : OutFrame) (go : State → State) :
    offerMgmt m part f go s = go (offerState (mgmtPort m) f s) := by
  unfold offerMgmt
  rw [offerResult_hasRoom h]

theorem looseRefusal_room {m : Mgmt} (h : hasRoom s (mgmtPort m)) (id : Ident) (code : Byte) (r : Refuse) :
    looseRefusal m id code r s =
      offerState (mgmtPort m) (mgmtFrameOut m .loose id 0 (negativeData code (refuseCode r)) .plain) s :=
  offerMgmt_room h _ _

theorem closeMgmt_touches (n : Nat) (s : State) :
    closeMgmt n s = { s with exchanges := s.exchanges.eraseP (isMgmt n), agent := (closeMgmt n s).agent } := rfl

/-- Settles O38, by the kind of the message. -/
theorem segmentTimerBreaksTheMessage : Obligations.SegmentTimerBreaksTheMessage := by
  intro s h _
  refine ⟨fun c x left hx ht hw hr => ?_, fun c x hx ht => ?_, fun m x left hx ht hs hr => ?_,
    fun m x left hx ht hs => ?_, fun id seg msg gap left hs ht => ?_, fun id seg msg gap left hs ht => ?_⟩
  · rw [awake_next h rfl, segmentExpired, hx]
    show Host.Outcome.next (if x.seg.timer.isSome then _ else _) = _
    rw [ht, Option.isSome_some, if_pos rfl, closeExchange_free hw rfl hr, (channelExchange_some hx).2]
    rfl
  · rw [awake_next h rfl, segmentExpired, hx]
    show Host.Outcome.next (if x.seg.timer.isSome then _ else _) = _
    rw [ht]
    rfl
  · obtain rfl : x.chan = m := (mgmtExchange_some hx).2
    have hroom : hasRoom (closeMgmt x.id s) (mgmtPort x.chan) := hr
    have he : exec (.segmentTimerExpiry (.management x.chan)) s = .next (offerState (mgmtPort x.chan)
        (mgmtFrameOut x.chan .loose x.response 0 (negativeData x.code (refuseCode .malformed)) .plain)
        (closeMgmt x.id s)) := by
      rw [awake_next h rfl, segmentExpired, hx]
      show Host.Outcome.next (mgmtExpired x s) = _
      rw [mgmtExpired, ht, hs]
      exact congrArg _ (looseRefusal_room hroom _ _ _)
    refine ⟨_, he, ?_, ?_, ?_⟩
    · rw [offerState_touches]
      rfl
    · rw [offerState_queued hroom]
      rfl
    · rw [offerState_touches]
      rfl
  · obtain rfl : x.chan = m := (mgmtExchange_some hx).2
    refine ⟨closeMgmt x.id s, ?_, closeMgmt_touches _ _⟩
    rw [awake_next h rfl, segmentExpired, hx]
    show Host.Outcome.next (mgmtExpired x s) = _
    rw [mgmtExpired, ht, hs]
  · rw [awake_next h rfl, segmentExpired, sideOf, hs]
    show Host.Outcome.next (if seg.timer.isSome then _ else _) = _
    rw [ht]
    rfl
  · rw [awake_next h rfl, segmentExpired, sideOf, hs]
    show Host.Outcome.next (if seg.timer.isSome then _ else _) = _
    rw [ht]
    rfl

/-! ### Gaps -/

theorem gapRuns_of {g : Seg} {left : Nat} (h : g.phase = .followsDue) : gapRuns g (some left) = true := by
  simp [gapRuns, h]

theorem roomFor_one {p : Port} (h : hasRoom s p) : roomFor s p 1 := ⟨h.1, h.2⟩

/-- Settles O39, by the kind of the message: each is the sender's plan for one follow. -/
theorem gapOffersTheNextFollow : Obligations.GapOffersTheNextFollow := by
  intro s h hs
  refine ⟨?_, ?_, ?_⟩
  · rintro m x reply left p rfl hx hst hw hph ha hn hg hr
    have hp := planned_one hn ha
    obtain ⟨t, e, h1, _, h2, h3⟩ := replyFollows_spec (k := 1) hs hx hw hn ha (by rw [hp]; exact roomFor_one hr)
    rw [hp] at h1 h2
    refine ⟨t, ?_, h1, h2, h3⟩
    rw [awake_next h rfl, gapPassed, hx, ← e]
    exact congrArg _ (if_pos ⟨hst, by rw [hg]; exact gapRuns_of hph⟩)
  · rintro m id seg msg left p rfl hx hph ha hn hr
    have hp := planned_one hn ha
    obtain ⟨t, e, h1, _, h2, h3, h4⟩ :=
      sideFollows_spec (m := m) (id := id) (k := 1) (msg := msg) hn ha (by rw [hp]; exact roomFor_one hr)
    rw [hp] at h1 h2
    refine ⟨t, ?_, h1, h2, h3, h4⟩
    rw [awake_next h rfl, gapPassed, hx, ← e]
    exact congrArg _ (if_pos (gapRuns_of hph))
  · rintro c x w v b left p msg hx hst hw hv hb hph ha hn hg rfl hr rfl
    have hp := planned_one hn ha
    obtain ⟨t, e, h1, _, h2, h3⟩ :=
      sendFollows_spec (k := 1) hs hx hw hv hb hn ha (by rw [hp]; exact roomFor_one hr)
    rw [hp] at h1 h2
    refine ⟨t, ?_, h1, h2, h3⟩
    rw [awake_next h rfl, gapPassed, hx, ← e]
    exact congrArg _ (if_pos ⟨hst, by rw [hg]; exact gapRuns_of hph⟩)

end Sys2Proof.Machine
end

section
/-! The timers of windows and signals, and what the end of a window that has been ACTIVE leaves (R83, R84, R116 to R118,
R125 to R127). -/

namespace Sys2Proof.Machine

open Sys2Proof Sys2Proof.Safety

variable {s t : State} {w : Fin 2} {v : Window}

/-! ### The conditions as a set (R84) -/

theorem conditionSet_bit : ∀ (a b c d e : Bool) (i : Fin 4),
    (BitVec.ofNat 5 (a.toNat + 2 * b.toNat + 4 * c.toNat + 8 * d.toNat + 16 * e.toNat)).getLsbD i.val =
      [a, b, c, d][i.val] := by decide

theorem conditions_bit (s : State) (i : Fin 4) : (conditions s).getLsbD i.val = condition s i := by
  unfold conditions
  rw [conditionSet_bit]
  match i with
  | 0 | 1 | 2 | 3 => rfl

theorem allTrue_iff (s : State) (r : BitVec 5) : allTrue s r = true ↔ r &&& ~~~(conditions s) = 0 := beq_iff_eq

/-- A condition that is required and false. -/
theorem allTrue_lost {r : BitVec 5} {i : Fin 4} (hr : r.getLsbD i.val = true) (h : condition s i = false) :
    allTrue s r = false := by
  refine Bool.eq_false_iff.2 fun hc => ?_
  have hb := congrArg (·.getLsbD i.val) ((allTrue_iff s r).1 hc)
  have hlt : i.val < 5 := by omega
  simp [BitVec.getLsbD_and, hr, conditions_bit, h] at hb
  omega

/-! ### The watched conditions (R125) -/

/-- With a watched condition false no window resumes: its test is whether it is to be suspended. -/
theorem testWindow_lost (h : allTrue s (watched s) = false) (w : Fin 2) : testWindow w s = suspendTest w s := by
  unfold testWindow
  split
  · next v hv =>
    split
    · next hs =>
      rw [if_neg (by simp [h]), suspendTest, hv]
      exact (if_neg fun hc => by rw [hs] at hc; cases hc.1).symm
    · rfl
  · next hv => rw [suspendTest, hv]

theorem suspendTest_suspends (h : allTrue s (watched s) = false) (hv : s.window w = some v) (ha : v.state = .active) :
    suspendTest w s = setWindow w (some { v with state := .suspended, grace := some 5000 }) s := by
  rw [suspendTest, hv]
  exact if_pos ⟨ha, h⟩

theorem suspendTest_touches (w : Fin 2) (s : State) :
    suspendTest w s = { s with inspector := (suspendTest w s).inspector } := by
  unfold suspendTest
  split
  · split <;> rfl
  · rfl

theorem suspendTest_other {u : Fin 2} (h : u ≠ w) : (suspendTest w s).window u = s.window u := by
  unfold suspendTest
  split
  · split
    · rw [setWindow_window, if_neg h]
    · rfl
  · rfl

theorem suspendTest_lost (h : allTrue s (watched s) = false) (u : Fin 2) :
    allTrue (suspendTest u s) (watched (suspendTest u s)) = false := by
  rw [suspendTest_touches]
  exact h

theorem testWindows_lost (h : allTrue s (watched s) = false) :
    testWindows s = suspendTest 1 (suspendTest 0 s) := by
  rw [testWindows, testWindow_lost h, testWindow_lost (suspendTest_lost h 0)]

/-- The loss of a watched condition suspends every window that is ACTIVE. -/
theorem testWindows_suspends (h : allTrue s (watched s) = false) (hv : s.window w = some v) (ha : v.state = .active) :
    (testWindows s).window w = some { v with state := .suspended, grace := some 5000 } ∧
      testWindows s = { s with inspector := (testWindows s).inspector } := by
  rw [testWindows_lost h]
  refine ⟨?_, by rw [suspendTest_touches 1, suspendTest_touches 0]⟩
  obtain rfl | rfl : w = 0 ∨ w = 1 := by omega
  · rw [suspendTest_other (by decide), suspendTest_suspends h hv ha, setWindow_window_self]
  · have hv' : (suspendTest 0 s).window 1 = some v := (suspendTest_other (by decide)).trans hv
    rw [suspendTest_suspends (suspendTest_lost h 0) hv' ha, setWindow_window_self]

/-! ### HOLD_TIMER_EXPIRY and STALENESS_TIMER_EXPIRY -/

theorem offerThen_room {x : ChannelExchange} {p : Port} (h : hasRoom s p) (f : OutFrame) (go : State → State) :
    offerThen x p f go s = go (offerState p f s) := by
  rw [offerThen, offerResult_hasRoom h, failedOffer]

theorem holdExpired_running {x : ChannelExchange} {left : Nat} (hv : s.window w = some v)
    (hx : linkedExchange s w = some x) (hh : v.hold = some left) : holdExpired w s =
      if x.state = .stagedHold then holdReply x (setWindow w (some { v with hold := some 2000 }) s)
      else if x.state = .staging ∧ x.seg.phase = .paceDue then
        sendWait x (setWindow w (some { v with hold := some 2000 }) s)
      else setWindow w (some { v with hold := some 2000 }) s := by
  rw [holdExpired, hv, hx]
  exact if_pos (by rw [hh]; rfl)

/-- A signal once its staleness timer has run out. -/
def staled (i : Fin 4) (s : State) : State :=
  { s with signals := put s.signals i { s.signals.get i with fresh := false, timer := none } }

theorem signalStale_running {i : Fin 4} {left : Nat} (h : (s.signals.get i).timer = some left) :
    signalStale i s = reportConditions (conditions s) (staled i s) :=
  if_pos (by rw [h]; rfl)

theorem condition_staled (i : Fin 4) (s : State) : condition (staled i s) i = false := by
  unfold condition signalCondition staled
  rw [put_get_self]
  split <;> simp

/-- A condition that was true is lost with its signal's freshness. -/
theorem conditions_staled {i : Fin 4} (h : condition s i = true) : conditions (staled i s) ≠ conditions s := fun hc => by
  have hb := congrArg (·.getLsbD i.val) hc
  simp only [conditions_bit, condition_staled, h] at hb
  cases hb

/-- Settles O44. -/
theorem holdAndStalenessTimersAct : Obligations.HoldAndStalenessTimersAct := by
  intro s h
  refine ⟨fun w v x left hv hx hh hr => ?_, ?_, fun i hi => ?_⟩
  · have hr' : hasRoom (setWindow w (some { v with hold := some 2000 }) s) .W := hr
    refine ⟨fun hs => ?_, fun hs hp => ?_⟩
    · rw [awake_next h rfl, holdExpired_running hv hx hh, if_pos hs, holdReply, gatewayReply_W hr']
      rfl
    · rw [awake_next h rfl, holdExpired_running hv hx hh, if_neg (by rw [hs]; decide), if_pos ⟨hs, hp⟩, sendWait,
        offerThen_room hr', offerState_W hr']
      rfl
  · rintro i left hi q rfl
    refine ⟨fun hw => ?_, fun w v hv ha hc hr => ?_⟩
    · rw [awake_next h rfl, signalStale_running hi, reportConditions_noWindow (s := staled i s) hw]
      rfl
    · have hl : allTrue (staled i s) (watched (staled i s)) = false := allTrue_lost hr (condition_staled i s)
      obtain ⟨h1, h2⟩ := testWindows_suspends (s := staled i s) hl hv ha
      refine ⟨testWindows (staled i s), ?_, ?_, h1, h2⟩
      · rw [awake_next h rfl, signalStale_running hi]
        exact congrArg _ (if_neg (conditions_staled hc))
      · rw [h2]
        rfl
  · rw [awake_next h rfl]
    exact congrArg _ (if_neg (by rw [hi]; decide))

/-! ### The end of a window that has been ACTIVE (R116, R117) -/

theorem relamp_touches (s : State) : relamp s = { s with grants := { s.grants with lamp := lampOf s } } := rfl

/-- An entry into one of a window's reservations, with a place in the queue. -/
theorem appendEnded_room (h1 : 1 ≤ v.reservations) (hq : s.store.queue.length < 16) {a l : Nat}
    (hr : v.range = some (a, l)) (o : Outcome) (c : EndCause) :
    appendEnded w v o c s = { s with
      inspector := (setWindow w (some { v with reservations := v.reservations - 1 }) s).inspector
      store := { s.store with queue := s.store.queue ++ [.append (entryNow s (.downloadEnded a l (endRemaining v) o c)
        (some v.grant) (some v.slot) (some (v.channel, (s.channel v.channel).label)))] }
      record := { s.record with mark := (s.record.mark + 1) % 4294967296, unrecorded := 0 }
      agent := { s.agent with attention := { s.agent.attention with downloadEnded := true } } } := by
  have hd : decide (0 < v.reservations) = true := decide_eq_true h1
  rw [appendEnded_eq, hd, appendInto_held, writeEntry_room (by simpa using hq), hr]
  rfl

/-- The grants once REPROGRAM has left the grant of an ended window. -/
abbrev consumed (s : State) (n : Nat) : List Grant :=
  grantsWith s n fun y => { y with binding := .ended, classes := y.classes &&& ~~~bitReprogram }

/-- The report of an ACTIVE window's end to a bound ACTIVE grant that keeps other classes. -/
theorem reportEndedActive_keeps {g : Grant} (hd : grantNumbersDistinct s) (hg : g ∈ s.grants.grants)
    (hb : g.binding = .bound w) (ha : g.state = .active) (hc : g.classes &&& ~~~bitReprogram ≠ 0) :
    reportEndedActive g.number w s = { s with grants := { s.grants with grants := consumed s g.number } } := by
  have hm : grantsWith s g.number (fun y => { y with binding := .ended, classes := g.classes &&& ~~~bitReprogram }) =
      consumed s g.number := by
    refine List.map_congr_left fun y hy => ?_
    split
    · next e => rw [List.inj_on_of_nodup_map hd hy hg e]
    · rfl
  rw [reportEndedActive, findGrant_of_mem hd hg]
  simp only [if_pos hb, ha, reduceCtorEq, if_false, hc, and_false]
  rw [updateGrant_distinct hd, hm]

@[simp] theorem put_put {α : Type} {n : Nat} (l : Vector α n) (i : Fin n) (x y : α) : put (put l i x) i y = put l i y := by
  simp [put]

/-- What is left once an ended window is gone, its entry taken by the store, before the grant is told. -/
theorem removeWindow_entered (h1 : 1 ≤ v.reservations) (hq : s.store.queue.length < 16) {a l : Nat}
    (hr : v.range = some (a, l)) (o : Outcome) (c : EndCause) :
    ∃ lamp, removeWindow w v (appendEnded w v o c s) = { s with
      tables := { s.tables with maps := resolvedMaps s v.channel }
      inspector := { s.inspector with
        overlays := resolvedOverlays s v.channel, windows := put s.inspector.windows w none }
      exchanges := unlinked w s
      grants := { s.grants with lamp := lamp }
      store := { s.store with queue := s.store.queue ++ [.append (entryNow s (.downloadEnded a l (endRemaining v) o c)
        (some v.grant) (some v.slot) (some (v.channel, (s.channel v.channel).label)))] }
      record := { s.record with mark := (s.record.mark + 1) % 4294967296, unrecorded := 0 }
      agent := { s.agent with attention := { s.agent.attention with downloadEnded := true } } } := by
  refine ⟨(removeWindow w v (appendEnded w v o c s)).grants.lamp, (removeWindow_shape _ _ _).trans ?_⟩
  generalize (removeWindow w v (appendEnded w v o c s)).grants.lamp = lamp
  rw [appendEnded_room h1 hq hr]
  simp only [setWindow, put_put]
  rfl

/-- What the end of a window that has been ACTIVE leaves, its entry taken by the store and its grant still of use. -/
theorem endActive_keeps {g : Grant} {r : WindowRun} {a l : Nat} (h1 : 1 ≤ v.reservations)
    (hq : s.store.queue.length < 16) (hrun : v.run = some r) (hr : v.range = some (a, l)) (hd : grantNumbersDistinct s)
    (hg : g ∈ s.grants.grants) (hn : g.number = v.grant) (hb : g.binding = .bound w) (ha : g.state = .active)
    (hc : g.classes &&& ~~~bitReprogram ≠ 0) (o : Outcome) (c : EndCause) :
    ∃ lamp, endActive w v o c true s = { s with
      tables := { s.tables with maps := resolvedMaps s v.channel }
      inspector := { s.inspector with
        overlays := resolvedOverlays s v.channel, windows := put s.inspector.windows w none }
      exchanges := unlinked w s
      grants := { s.grants with lamp := lamp, grants := consumed s v.grant }
      store := { s.store with queue := s.store.queue ++ [.append (entryNow s (.downloadEnded a l r.remaining o c)
        (some v.grant) (some v.slot) (some (v.channel, (s.channel v.channel).label)))] }
      record := { s.record with mark := (s.record.mark + 1) % 4294967296, unrecorded := 0 }
      agent := { s.agent with attention := { s.agent.attention with downloadEnded := true } } } := by
  obtain ⟨lamp, e⟩ := removeWindow_entered (w := w) h1 hq hr o c
  refine ⟨lamp, ?_⟩
  rw [endActive, if_pos rfl, e, endRemaining, hrun, ← hn]
  exact reportEndedActive_keeps hd hg hb ha hc

theorem resolvedOverlays_get (s : State) (c : Fin 16) : (resolvedOverlays s c).get c = none := by
  unfold resolvedOverlays
  split
  · rw [put_get_self]
  · next h => exact h

theorem closeLinked_none (h : linkedExchange s w = none) (r : Reason) : closeLinked w r s = s := by
  rw [closeLinked, h]

/-- Settles O43: with no linked exchange, both rows are the end of a window that has been ACTIVE. -/
theorem graceAndIdleTimersEndTheWindow : Obligations.GraceAndIdleTimersEndTheWindow := by
  intro w s h
  refine ⟨fun v hv hg => ?_, fun v hv hi => ?_, fun v r a l g hv hrun hr h1 hq hl hd hg hn hb ha hc cmd cause hcmd => ?_⟩
  · rw [awake_next h rfl, graceExpired, hv]
    exact congrArg _ (if_neg (by rw [hg]; decide))
  · rw [awake_next h rfl, idleExpired, hv]
    exact congrArg _ (if_neg (by rw [hi]; decide))
  · have he : exec cmd s = .next (endActive w v .aborted cause true s) := by
      obtain ⟨rfl, rfl, ht⟩ | ⟨rfl, rfl, ht⟩ := hcmd
      · have hx : abortWindow w .condition .condition true s = endActive w v .aborted .condition true s := by
          rw [abortWindow, hv]
          show endAborted w v .condition true (closeLinked w .condition s) = _
          rw [closeLinked_none hl, endAborted, hrun]
        rw [awake_next h rfl, graceExpired, hv, ← hx]
        exact congrArg _ (if_pos ht)
      · rw [awake_next h rfl, idleExpired, hv]
        exact congrArg _ (if_pos ht)
    obtain ⟨lamp, e⟩ := endActive_keeps h1 hq hrun hr hd hg hn hb ha hc .aborted cause
    refine ⟨_, he, ?_, fun u hu => ?_, ?_, ?_, ?_, ?_, ?_, ?_, ?_, ?_⟩ <;> rw [e]
    · exact setWindow_window_self s w none
    · exact (setWindow_window s w u none).trans (if_neg hu)
    · exact (resolvedMaps_get s v.channel v.channel).trans (if_pos rfl)
    · exact resolvedOverlays_get s v.channel

end Sys2Proof.Machine
end

section
/-! The Admission Unit: what it admits and what it refuses, and how the first frame of a request comes before it (R57, R77
to R80, R113, R124). -/

namespace Sys2Proof.Machine

open Sys2Proof Sys2Proof.Safety

variable {s : State} {c : Fin 16} {code : Byte} {first : Ssx} {cls : ServiceClass} {role : Option Role}

/-! ### Cover (R78) -/

theorem covers_iff (g : Grant) (c : Fin 16) (cls : ServiceClass) (opening : Bool) : covers g c cls opening = true ↔
    g.state = .active ∧ g.channels.getLsbD c.val = true ∧ g.classes &&& classBit cls ≠ 0 ∧
      (opening = true → g.binding = .none) := by
  cases opening <;> simp [covers, hasBit, and_assoc]

theorem covers_opening_iff (g : Grant) (c : Fin 16) : covers g c .reprogram true = true ↔ coversOpen g c := by
  rw [covers_iff]
  simp [coversOpen, classBit, bitReprogram]

theorem coveringGrant_some {opening : Bool} {g : Grant} (h : coveringGrant s c cls opening = some g) :
    g ∈ s.grants.grants ∧ covers g c cls opening = true := by
  unfold coveringGrant at h
  exact ⟨List.mem_of_find?_eq_some h, by simpa using List.find?_some h⟩

theorem coveringGrant_none {opening : Bool} :
    coveringGrant s c cls opening = none ↔ ∀ g ∈ s.grants.grants, ¬covers g c cls opening = true := List.find?_eq_none

theorem coveringGrant_isSome {opening : Bool} (h : ∃ g ∈ s.grants.grants, covers g c cls opening = true) :
    ∃ g, coveringGrant s c cls opening = some g := by
  obtain ⟨g, hg, hc⟩ := h
  exact Option.ne_none_iff_exists'.1 fun hn => coveringGrant_none.1 hn g hg hc

theorem needsGrant_iff (s : State) (c : Fin 16) (cls : ServiceClass) : needsGrant s c cls = true ↔
    classOpen (s.channel c) cls = false ∧ (policyOf s cls).grantNeeded = true := by
  simp [needsGrant]

/-! ### The judgement of a class (R78 to R80) -/

/-- A request that is no Open, refused for want of a grant, for a false condition, or passed. -/
theorem judgeClass_plain (h : role ≠ some .opening) : judgeClass s c cls role first =
    if needsGrant s c cls = true ∧ coveringGrant s c cls false = none then .refuse .notGranted
    else if allTrue s (policyOf s cls).required = false then .refuse .condition
    else .pass cls role := by
  simp only [judgeClass, h, decide_false, Bool.or_false, Bool.and_eq_true, Option.isNone_iff_eq_none]

/-- An Open without a covering grant, with one and a false condition, and with one that is judged. -/
theorem judgeClass_uncovered (h : coveringGrant s c cls true = none) :
    judgeClass s c cls (some .opening) first = .refuse .notGranted := by
  simp [judgeClass, h]

theorem judgeClass_covered {g : Grant} (h : coveringGrant s c cls true = some g) :
    judgeClass s c cls (some .opening) first =
      if allTrue s (policyOf s cls).required = false then .refuse .condition else judgeOpening s c first g := by
  simp [judgeClass, h]

/-! ### The judgement of an Open (R113) -/

theorem freeWindow_none : freeWindow s = none ↔ ∀ w, s.window w ≠ none := by
  have hall : (∀ w, s.window w ≠ none) ↔ s.window 0 ≠ none ∧ s.window 1 ≠ none :=
    ⟨fun h => ⟨h 0, h 1⟩, fun h w => by match w with | 0 => exact h.1 | 1 => exact h.2⟩
  rw [hall, freeWindow]
  cases h0 : s.window 0 <;> cases h1 : s.window 1 <;> simp

theorem freeWindow_some {w : Fin 2} : freeWindow s = some w ↔ s.window w = none ∧ (w = 1 → s.window 0 ≠ none) := by
  rw [freeWindow]
  obtain rfl | rfl : w = 0 ∨ w = 1 := by omega
  · cases h0 : s.window 0 <;> cases h1 : s.window 1 <;> simp
  · cases h0 : s.window 0 <;> cases h1 : s.window 1 <;> simp

theorem judgeOpening_busy {g : Grant} (h : windowOn s c ≠ none ∨ freeWindow s = none) :
    judgeOpening s c first g = .refuse .windowBusy := by
  unfold judgeOpening
  split
  · next h1 h2 => exact absurd h (by simp [h1, h2])
  · rfl

theorem judgeOpening_free {g : Grant} {w : Fin 2} (h1 : windowOn s c = none) (h2 : freeWindow s = some w) :
    judgeOpening s c first g = if oneFollow first = false then .refuse .outOfWindow
      else if freeRoom s < 2 then .refuse .recordFull else .opening g.number g.slot w := by
  simp only [judgeOpening, h1, h2, Bool.not_eq_true']

/-! ### The decision (R77) -/

/-- The codes of the steps of a download that has been opened. -/
def isStep (r : Role) : Prop := r = .block ∨ r = .closing ∨ r = .erase

/-- Admission is a refusal for a code without a class, the judgement of a step, or the judgement of a class. -/
theorem admission_cases (s : State) (c : Fin 16) (code : Byte) (first : Ssx) :
    ((classOf s code = none ∨ ∃ r, classOf s code = some { cls := .forbidden, role := r }) ∧
      admission s c code first = .refuse .forbidden) ∨
    (∃ r, isStep r ∧ classOf s code = some { cls := .reprogram, role := some r } ∧
      admission s c code first = judgeStep s c r first) ∨
    ∃ e, classOf s code = some e ∧ e.cls ≠ .forbidden ∧ (∀ r, isStep r → e ≠ { cls := .reprogram, role := some r }) ∧
      admission s c code first = judgeClass s c e.cls e.role first := by
  unfold admission
  split
  · next h => exact .inl ⟨.inl h, rfl⟩
  · next e h =>
    obtain ⟨cls, role⟩ := e
    dsimp only
    split
    · exact .inl ⟨.inr ⟨_, h⟩, rfl⟩
    · exact .inr (.inl ⟨_, .inl rfl, h, rfl⟩)
    · exact .inr (.inl ⟨_, .inr (.inl rfl), h, rfl⟩)
    · exact .inr (.inl ⟨_, .inr (.inr rfl), h, rfl⟩)
    · next h1 h2 h3 h4 =>
      refine .inr (.inr ⟨_, h, fun hc => h1 hc, ?_, rfl⟩)
      rintro r (rfl | rfl | rfl) e
      · exact h2 (CodeEntry.mk.inj e).1 (CodeEntry.mk.inj e).2
      · exact h3 (CodeEntry.mk.inj e).1 (CodeEntry.mk.inj e).2
      · exact h4 (CodeEntry.mk.inj e).1 (CodeEntry.mk.inj e).2

theorem admission_forbidden (h : classOf s code = none ∨ ∃ r, classOf s code = some { cls := .forbidden, role := r }) :
    admission s c code first = .refuse .forbidden := by
  obtain ⟨_, e⟩ | ⟨r, _, hc, _⟩ | ⟨e, hc, hn, _⟩ := admission_cases s c code first
  · exact e
  · simp [hc] at h
  · obtain h | ⟨r, h⟩ := h <;> rw [hc] at h
    · cases h
    · exact absurd (congrArg CodeEntry.cls (Option.some.inj h)) hn

theorem admission_step {r : Role} (hr : isStep r) (h : classOf s code = some { cls := .reprogram, role := some r }) :
    admission s c code first = judgeStep s c r first := by
  obtain ⟨hc, _⟩ | ⟨q, _, hc, e⟩ | ⟨e, hc, _, hn, _⟩ := admission_cases s c code first
  · simp [h] at hc
  · rw [h] at hc
    cases hc
    exact e
  · rw [h] at hc
    exact absurd (Option.some.inj hc).symm (hn r hr)

theorem admission_class {e : CodeEntry} (h : classOf s code = some e) (hf : e.cls ≠ .forbidden)
    (hs : ∀ r, isStep r → e.role ≠ some r) : admission s c code first = judgeClass s c e.cls e.role first := by
  obtain ⟨hc, _⟩ | ⟨r, hr, hc, _⟩ | ⟨d, hc, _, _, he⟩ := admission_cases s c code first
  · obtain hc | ⟨r, hc⟩ := hc <;> rw [h] at hc
    · cases hc
    · exact absurd (congrArg CodeEntry.cls (Option.some.inj hc)) hf
  · rw [h] at hc
    exact absurd (congrArg CodeEntry.role (Option.some.inj hc)) (hs r hr)
  · rw [h] at hc
    cases hc
    exact he

theorem judgeStep_closed {r : Role} (h : windowOn s c = none) : judgeStep s c r first = .refuse .noWindow := by
  rw [judgeStep, h]

theorem judgeStep_open {r : Role} {w : Fin 2} {v : Window} (h : windowOn s c = some (w, v)) : judgeStep s c r first =
    if r = .erase ∧ oneFollow first = false then .refuse .outOfWindow else .linked r w := by
  rw [judgeStep, h]

theorem judgeStep_cases (s : State) (c : Fin 16) (r : Role) (first : Ssx) :
    (∃ q, judgeStep s c r first = .refuse q) ∨
      ∃ w v, windowOn s c = some (w, v) ∧ judgeStep s c r first = .linked r w := by
  cases h : windowOn s c with
  | none => exact .inl ⟨_, judgeStep_closed h⟩
  | some p =>
    obtain ⟨w, v⟩ := p
    rw [judgeStep_open h]
    split
    · exact .inl ⟨_, rfl⟩
    · exact .inr ⟨w, v, rfl, rfl⟩

/-- What the judgement of a class passes, and what it opens. -/
theorem judgeClass_cases (s : State) (c : Fin 16) (cls : ServiceClass) (role : Option Role) (first : Ssx) :
    (∃ q, judgeClass s c cls role first = .refuse q) ∨
    (role ≠ some .opening ∧ allTrue s (policyOf s cls).required = true ∧
      ¬(needsGrant s c cls = true ∧ coveringGrant s c cls false = none) ∧
      judgeClass s c cls role first = .pass cls role) ∨
    ∃ g w, role = some .opening ∧ coveringGrant s c cls true = some g ∧ allTrue s (policyOf s cls).required = true ∧
      windowOn s c = none ∧ s.window w = none ∧ 2 ≤ freeRoom s ∧
      judgeClass s c cls role first = .opening g.number g.slot w := by
  by_cases hr : role = some .opening
  · subst hr
    cases hg : coveringGrant s c cls true with
    | none => exact .inl ⟨_, judgeClass_uncovered hg⟩
    | some g =>
      rw [judgeClass_covered hg]
      by_cases ha : allTrue s (policyOf s cls).required = false
      · exact .inl ⟨_, if_pos ha⟩
      rw [if_neg ha]
      by_cases hb : windowOn s c ≠ none ∨ freeWindow s = none
      · exact .inl ⟨_, judgeOpening_busy hb⟩
      obtain ⟨hb1, hb2⟩ := not_or.1 hb
      obtain ⟨w, hw⟩ := Option.ne_none_iff_exists'.1 hb2
      rw [judgeOpening_free (not_ne_iff.1 hb1) hw]
      split
      · exact .inl ⟨_, rfl⟩
      split
      · exact .inl ⟨_, rfl⟩
      · next hroom =>
        exact .inr (.inr ⟨g, w, rfl, rfl, by simpa using ha, not_ne_iff.1 hb1, (freeWindow_some.1 hw).1, by omega, rfl⟩)
  · rw [judgeClass_plain hr]
    split
    · exact .inl ⟨_, rfl⟩
    · next hn =>
      split
      · exact .inl ⟨_, rfl⟩
      · next ha => exact .inr (.inl ⟨hr, by simpa using ha, hn, rfl⟩)

theorem classOf_valid (h : tablesLaw s) {e : CodeEntry} (he : classOf s code = some e) : codeValid e := by
  unfold classOf at he
  split at he
  · cases he
    exact ((tablesLaw_iff s).1 h).1.codes _
  · cases he

/-- Settles O32. -/
theorem admittedRequestsAreCoveredAndConditionsHold : Obligations.AdmittedRequestsAreCoveredAndConditionsHold := by
  intro s c code first hT
  have hcases := admission_cases s c code first
  refine ⟨fun cls role hp => ?_, fun n k w ho => ?_, fun role w hl => ?_⟩
  · obtain ⟨_, e⟩ | ⟨r, _, _, e⟩ | ⟨e, hc, hf, _, he⟩ := hcases
    · rw [e] at hp; cases hp
    · obtain ⟨q, e'⟩ | ⟨u, v, _, e'⟩ := judgeStep_cases s c r first <;> rw [e, e'] at hp <;> cases hp
    · obtain ⟨q, e'⟩ | ⟨_, ha, hg, e'⟩ | ⟨g, u, _, _, _, _, _, _, e'⟩ := judgeClass_cases s c e.cls e.role first <;>
        rw [he, e'] at hp <;> cases hp
      refine ⟨hf, hc, (allTrue_iff s _).1 ha, ?_⟩
      rw [needsGrant_iff] at hg
      by_cases ho : classOpen (s.channel c) e.cls = true
      · exact .inl ho
      by_cases hn : (policyOf s e.cls).grantNeeded = false
      · exact .inr (.inl hn)
      obtain ⟨g, hg⟩ := Option.ne_none_iff_exists'.1 fun hx => hg ⟨⟨by simpa using ho, by simpa using hn⟩, hx⟩
      obtain ⟨hm, hcov⟩ := coveringGrant_some hg
      obtain ⟨h1, h2, h3, _⟩ := (covers_iff _ _ _ _).1 hcov
      exact .inr (.inr ⟨g, hm, h1, h2, h3⟩)
  · obtain ⟨_, e⟩ | ⟨r, _, _, e⟩ | ⟨e, hc, hf, _, he⟩ := hcases
    · rw [e] at ho; cases ho
    · obtain ⟨q, e'⟩ | ⟨u, v, _, e'⟩ := judgeStep_cases s c r first <;> rw [e, e'] at ho <;> cases ho
    · obtain ⟨q, e'⟩ | ⟨_, _, _, e'⟩ | ⟨g, u, hr, hg, ha, h1, h2, h3, e'⟩ := judgeClass_cases s c e.cls e.role first <;>
        rw [he, e'] at ho <;> cases ho
      have hcls : e.cls = .reprogram := (classOf_valid hT hc).2 (by rw [hr]; rfl)
      obtain ⟨cls, role⟩ := e
      obtain rfl : cls = .reprogram := hcls
      obtain rfl : role = some .opening := hr
      obtain ⟨hm, hcov⟩ := coveringGrant_some hg
      obtain ⟨h4, h5, h6, h7⟩ := (covers_opening_iff g c).1 hcov
      refine ⟨hc, (allTrue_iff s _).1 ha, h2, h1, ?_, g, hm, rfl, rfl, h4, h5, h6, h7⟩
      unfold freeRoom at h3
      omega
  · obtain ⟨_, e⟩ | ⟨r, _, _, e⟩ | ⟨e, hc, hf, _, he⟩ := hcases
    · rw [e] at hl; cases hl
    · obtain ⟨q, e'⟩ | ⟨u, v, hw, e'⟩ := judgeStep_cases s c r first <;> rw [e, e'] at hl <;> cases hl
      exact ⟨v, hw⟩
    · obtain ⟨q, e'⟩ | ⟨_, _, _, e'⟩ | ⟨g, u, _, _, _, _, _, _, e'⟩ := judgeClass_cases s c e.cls e.role first <;>
        rw [he, e'] at hl <;> cases hl

end Sys2Proof.Machine
end

section
/-! The first frame of a request, as the Router hands it to the Admission Unit, and the refusals (R42, R57, R59, R60). -/

namespace Sys2Proof.Machine

open Sys2Proof Sys2Proof.Safety

variable {s : State} {c : Fin 16} {f : Frame} {rest : List Frame} {code : Byte} {more : List Byte} {k : Nat}

/-! ### Reading a first frame -/

/-- A frame that is a unit or a lead of a request of a code. -/
def FirstFrame (f : Frame) (code : Byte) (more : List Byte) : Prop :=
  f.data = byte 0 :: code :: more ∨ ∃ k, f.data = byte (64 + k) :: code :: more ∧ 1 ≤ k ∧ k ≤ 63 ∧ more.length = 6

theorem firstFrame_read (h : FirstFrame f code more) (n : Nat) :
    readSsx n f.data = .unit (code :: more) ∨ ∃ k, readSsx n f.data = .lead k (code :: more) := by
  obtain h | ⟨k, h, h1, h63, hl⟩ := h
  · rw [h]
    exact .inl (readSsx_unitData (msg := code :: more) (by simp) n)
  · rw [h]
    exact .inr ⟨k, readSsx_lead h1 h63 (by simp [hl]) n⟩

/-- The judgement of a frame does not see the FIFO it was taken from. -/
theorem judgeFirst_taken (s : State) (rest : List Frame) (c : Fin 16) (code : Byte) (first : Ssx) :
    judgeFirst (taken s .W rest) c code first =
      if (s.port (netPort (s.channel c).port)).status = .withdrawn then .refuse .portDown
      else admission s c code first := by
  have hp : ((taken s .W rest).port (targetPort (taken s .W rest) c)).status =
      (s.port (netPort (s.channel c).port)).status := by
    show ((s.setPort .W _).port (netPort (s.channel c).port)).status = _
    rw [setPort_port, if_neg (netPort_ne_W _).symm]
  have ha : admission (taken s .W rest) c code first = admission s c code first := rfl
  rw [judgeFirst, hp, ha]

theorem taken_channelExchange (s : State) (p : Port) (rest : List Frame) (c : Fin 16) :
    channelExchange (taken s p rest) c = channelExchange s c := by
  unfold channelExchange
  rw [setPort_exchanges]

/-- A request's first frame on a channel with a pending exchange is refused, and leaves it (R60). -/
theorem toolFrame_pending {x : ChannelExchange} (h : ToolSide s c f rest) (hf : FirstFrame f code more)
    (hx : channelExchange s c = some x) :
    exec (.routerTakesFrame .W) s = .next (gatewayReply c code (reasonCode .exchangeOpen) (taken s .W rest)) := by
  obtain rfl : x.channel = c := (channelExchange_some hx).2
  rw [routerTakes_tool h, toolFrame, taken_channelExchange, hx]
  show Host.Outcome.next (toolPending x f.data (taken s .W rest)) = _
  obtain e | ⟨k, e⟩ := firstFrame_read hf x.seg.count <;> rw [toolPending, e] <;> rfl

/-- A unit and a lead on a free channel are judged. -/
theorem toolFrame_unit {msg : List Byte} (h : ToolSide s c f rest) (hx : channelExchange s c = none)
    (hd : f.data = byte 0 :: msg) (hm : 1 ≤ msg.length) :
    exec (.routerTakesFrame .W) s = .next (newRequest c (.unit msg) msg f.data (taken s .W rest)) := by
  have e : readSsx 0 f.data = .unit msg := by
    rw [hd]
    exact readSsx_unitData hm 0
  rw [routerTakes_tool h, toolFrame, taken_channelExchange, hx]
  simp only [e]

theorem toolFrame_lead {msg : List Byte} (h : ToolSide s c f rest) (hx : channelExchange s c = none)
    (hd : f.data = byte (64 + k) :: msg) (h1 : 1 ≤ k) (h63 : k ≤ 63) (hm : msg.length = 7) :
    exec (.routerTakesFrame .W) s = .next (newRequest c (.lead k msg) msg f.data (taken s .W rest)) := by
  have e : readSsx 0 f.data = .lead k msg := by rw [hd, readSsx_lead h1 h63 hm]
  rw [routerTakes_tool h, toolFrame, taken_channelExchange, hx]
  simp only [e]

/-- A request's first frame on a free channel is judged by whether it can begin a message with one follow. -/
theorem toolFrame_new (h : ToolSide s c f rest) (hf : FirstFrame f code more) (hx : channelExchange s c = none) :
    ∃ first, exec (.routerTakesFrame .W) s = .next (newRequest c first (code :: more) f.data (taken s .W rest)) ∧
      (oneFollow first = true ↔ f.data.head? = some (byte 65)) := by
  obtain hd | ⟨k, hd, h1, h63, hl⟩ := hf
  · refine ⟨_, toolFrame_unit h hx hd (by simp), ?_⟩
    rw [hd, List.head?_cons]
    exact ⟨nofun, fun hc => absurd hc (by decide)⟩
  · refine ⟨_, toolFrame_lead h hx hd h1 h63 (by simp [hl]), ?_⟩
    rw [hd, List.head?_cons, Option.some.injEq]
    refine ⟨fun hk => ?_, fun he => ?_⟩
    · rw [show k = 1 by simpa [oneFollow] using hk]
    · have := congrArg BitVec.toNat he
      rw [byte_toNat (by omega), byte_toNat (by omega)] at this
      simp only [oneFollow, beq_iff_eq]
      omega

/-! The four outcomes of the judgement of a first frame. -/

variable {msg data : List Byte} {first : Ssx}

theorem newRequest_refused {r : Reason} (h : judgeFirst s c (codeOf msg) first = .refuse r) :
    newRequest c first msg data s = gatewayReply c (codeOf msg) (reasonCode r) s := by
  simp only [newRequest, h]

theorem newRequest_passed {cls : ServiceClass} {role : Option Role}
    (h : judgeFirst s c (codeOf msg) first = .pass cls role) : newRequest c first msg data s =
      passFirst (freshExchange s.part.stamp c (codeOf msg) cls role none .inbound) first data
        (joinList (freshExchange s.part.stamp c (codeOf msg) cls role none .inbound) s) := by
  simp only [newRequest, h]

theorem newRequest_linked {role : Role} {w : Fin 2} (h : judgeFirst s c (codeOf msg) first = .linked role w) :
    newRequest c first msg data s = openStep c (codeOf msg) role w first data s := by
  simp only [newRequest, h]

theorem newRequest_opened {g : Nat} {i : Fin 8} {w : Fin 2}
    (h : judgeFirst s c (codeOf msg) first = .opening g i w) : newRequest c first msg data s =
      passFirst (freshExchange s.part.stamp c (codeOf msg) .reprogram (some .opening) (some w) .inbound) first data
        (joinList (freshExchange s.part.stamp c (codeOf msg) .reprogram (some .opening) (some w) .inbound)
          (takeWindow c g i w s)) := by
  simp only [newRequest, h]

/-- A gateway reply on port W, whose FIFO the frame has left. -/
theorem gatewayReply_taken (h : hasRoom s .W) (rest : List Frame) (c : Fin 16) (code : Byte) (r : Nat) :
    gatewayReply c code r (taken s .W rest) = withReply (taken s .W rest) (replyFrame s c code r) :=
  gatewayReply_W (s := taken s .W rest) h c code r

/-- A request that is refused at its first frame. -/
theorem toolFrame_refused {r : Reason} (h : ToolSide s c f rest) (hf : FirstFrame f code more)
    (hx : channelExchange s c = none) (hr : hasRoom s .W)
    (hj : ∀ first, (oneFollow first = true ↔ f.data.head? = some (byte 65)) →
      judgeFirst (taken s .W rest) c code first = .refuse r) :
    exec (.routerTakesFrame .W) s = .next (withReply (taken s .W rest) (replyFrame s c code (reasonCode r))) := by
  obtain ⟨first, e, h1⟩ := toolFrame_new h hf hx
  rw [e, newRequest_refused (msg := code :: more) (hj first h1)]
  exact congrArg _ (gatewayReply_taken hr rest c code _)

/-! ### The refusals -/

theorem classOf_outside (h : code = 0 ∨ 0x7F ≤ code.toNat) : classOf s code = none := by
  refine dif_neg fun hc => ?_
  obtain rfl | h := h
  · exact absurd hc.1 (by decide)
  · omega

theorem classOpen_reprogram (e : ChannelEntry) : classOpen e .reprogram = false := rfl

theorem allTrue_eq_false_iff (s : State) (r : BitVec 5) : allTrue s r = false ↔ r &&& ~~~(conditions s) ≠ 0 := by
  rw [ne_eq, ← allTrue_iff, Bool.not_eq_true]

theorem covers_plain_iff (g : Grant) (c : Fin 16) (cls : ServiceClass) : covers g c cls false = true ↔
    g.state = .active ∧ g.channels.getLsbD c.val = true ∧ g.classes &&& classBit cls ≠ 0 := by
  rw [covers_iff]
  simp

/-- Settles O33, by the order of the checks. -/
theorem refusedRequestIsAnsweredByItsReason : Obligations.RefusedRequestIsAnsweredByItsReason := by
  intro c f rest code more k s h hr hd refused hrefused
  have hf : FirstFrame f code more := hd.imp id fun hd => ⟨k, hd⟩
  refine ⟨fun x hx => ?_, fun hx hw => ?_, fun hx ha => ?_⟩
  · rw [hrefused, toolFrame_pending h hf hx, gatewayReply_taken hr]
    rfl
  · rw [hrefused]
    exact toolFrame_refused (r := .portDown) h hf hx hr fun first _ => by rw [judgeFirst_taken, if_pos hw]
  have hgo : ∀ r, (∀ first, (oneFollow first = true ↔ f.data.head? = some (byte 65)) →
      admission s c code first = .refuse r) → exec (.routerTakesFrame .W) s = .next (refused (reasonCode r)) :=
    fun r hj => by
      rw [hrefused]
      exact toolFrame_refused h hf hx hr fun first h1 => by
        rw [judgeFirst_taken, if_neg (by rw [ha]; decide), hj first h1]
  refine ⟨fun hc => hgo .forbidden fun first _ => admission_forbidden ?_, ?_, fun hc hw hl => ?_, ?_, fun hc => ⟨?_, ?_⟩⟩
  · exact (or_assoc.2 hc).imp classOf_outside id
  · rintro ⟨r, hstep, hc⟩ hw
    exact hgo .noWindow fun first _ => (admission_step hstep hc).trans (judgeStep_closed hw)
  · obtain ⟨p, hp⟩ := Option.ne_none_iff_exists'.1 hw
    refine hgo .outOfWindow fun first h1 => ?_
    rw [admission_step (.inr (.inr rfl)) hc, judgeStep_open hp, if_pos ⟨rfl, by rw [Bool.eq_false_iff, ne_eq, h1]; exact hl⟩]
  · intro e hc hn hrole granted hg
    have hno : e.role ≠ some .opening := by obtain h | h := hrole <;> rw [h] <;> decide
    have hadm : ∀ first, admission s c code first = judgeClass s c e.cls e.role first := fun first =>
      admission_class hc hn fun r hr => by
        obtain rfl | rfl | rfl := hr <;> obtain h | h := hrole <;> rw [h] <;> decide
    have hcov : coveringGrant s c e.cls false = none ↔ ¬granted := by
      rw [coveringGrant_none, hg]
      simp only [covers_plain_iff, not_exists, not_and]
    refine ⟨fun ho hneed hng => hgo .notGranted fun first _ => ?_, fun hok hcond => hgo .condition fun first _ => ?_⟩
    · rw [hadm, judgeClass_plain hno, if_pos ⟨(needsGrant_iff _ _ _).2 ⟨ho, hneed⟩, hcov.2 hng⟩]
    · rw [hadm, judgeClass_plain hno, if_neg, if_pos ((allTrue_eq_false_iff _ _).2 hcond)]
      rintro ⟨h1, h2⟩
      obtain ⟨h3, h4⟩ := (needsGrant_iff _ _ _).1 h1
      obtain h | h | h := hok
      · rw [h] at h3; cases h3
      · rw [h] at h4; cases h4
      · exact hcov.1 h2 h
  · intro hng
    refine hgo .notGranted fun first _ => ?_
    rw [admission_class hc (by decide) (by rintro r (rfl | rfl | rfl) <;> decide)]
    exact judgeClass_uncovered (coveringGrant_none.2 fun g hg hcov => hng g hg ((covers_opening_iff g c).1 hcov))
  · rintro ⟨g, hg, hcov⟩
    obtain ⟨d, hd⟩ := coveringGrant_isSome ⟨g, hg, (covers_opening_iff g c).2 hcov⟩
    have hadm : ∀ first, admission s c code first = if allTrue s (policyOf s .reprogram).required = false then
        .refuse .condition else judgeOpening s c first d := fun first => by
      rw [admission_class hc (by decide) (by rintro r (rfl | rfl | rfl) <;> decide)]
      exact judgeClass_covered hd
    refine ⟨fun hcond => hgo .condition fun first _ => ?_, fun hcond => ?_⟩
    · rw [hadm, if_pos ((allTrue_eq_false_iff _ _).2 hcond)]
    have htrue : ¬allTrue s (policyOf s .reprogram).required = false := fun hx =>
      (allTrue_eq_false_iff _ _).1 hx hcond
    refine ⟨fun hb => hgo .windowBusy fun first _ => ?_, fun hw ⟨u, hu⟩ => ?_⟩
    · rw [hadm, if_neg htrue]
      exact judgeOpening_busy (hb.imp id freeWindow_none.2)
    obtain ⟨w, hfree⟩ := Option.ne_none_iff_exists'.1 fun hx => freeWindow_none.1 hx u hu
    refine ⟨fun hl => hgo .outOfWindow fun first h1 => ?_, fun hl hocc => hgo .recordFull fun first h1 => ?_⟩
    · rw [hadm, if_neg htrue, judgeOpening_free hw hfree, if_pos (by rw [Bool.eq_false_iff, ne_eq, h1]; exact hl)]
    · rw [hadm, if_neg htrue, judgeOpening_free hw hfree, if_neg (by simp [h1.2 hl]),
        if_pos (by unfold freeRoom; omega)]

end Sys2Proof.Machine
end

section
/-! The first frame of a request that is admitted: it goes to the controller, and its exchange and, for an Open, its window
are opened (R44, R58, R61, R113). -/

namespace Sys2Proof.Machine

open Sys2Proof Sys2Proof.Safety

variable {s z : State} {c : Fin 16} {f : Frame} {rest : List Frame} {code : Byte} {more msg data : List Byte}
  {x y : ChannelExchange} {p : Port} {w : Fin 2}

/-! ### A new exchange -/

/-- No pending exchange has the number due next. -/
theorem fresh_number (h : exchangeLaw s) : ∀ e ∈ s.exchanges, isChannel s.part.stamp e = false := by
  obtain ⟨_, _, _, h4⟩ := h
  intro e he
  have hlt := h4 (Exchange.number e) (by rw [pendingIds_eq]; exact List.mem_map_of_mem he)
  cases e with
  | channel x => exact decide_eq_false (Nat.ne_of_lt hlt)
  | management x => rfl

theorem exchanges_joined (h : exchangeLaw z) (hx : x.id = z.part.stamp) (hy : y.id = x.id) :
    modifyFirst (isChannel y.id) (fun _ => .channel y) (z.exchanges ++ [.channel x]) = z.exchanges ++ [.channel y] := by
  rw [modifyFirst_append_miss _ (by rw [hy, hx]; exact fresh_number h)]
  simp [modifyFirst, isChannel, hy]

/-- A frame offered for an exchange that has just joined the list, and the exchange's record after it. -/
theorem offer_joined (h : exchangeLaw z) (hx : x.id = z.part.stamp) (hy : y.id = x.id) (hr : hasRoom z p) (hp : Port.W ≠ p)
    (o : OutFrame) {t : State} (ht : t = setChannelExchange y (offerState p o (joinList x z))) :
    t.exchanges = z.exchanges ++ [.channel y] ∧ queued t p = queued z p ++ [o.frame] ∧ t.ports.w = z.ports.w ∧
      t = { z with part := t.part, ports := t.ports, meter := t.meter, exchanges := t.exchanges } := by
  subst ht
  refine ⟨?_, ?_, ?_, ?_⟩
  · rw [setChannelExchange_exchanges, offerState_touches]
    exact exchanges_joined h hx hy
  · show queued (offerState p o (joinList x z)) p = _
    rw [offerState_queued (s := joinList x z) (p := p) (by cases p <;> exact hr)]
    cases p <;> rfl
  · exact offerState_other (s := joinList x z) hp o
  · rw [offerState_touches]
    rfl

/-! ### The first frame passed on -/

theorem passFirst_unit (hr : hasRoom s (targetPort s x.channel)) (hx : x.role = none) :
    passFirst x (.unit msg) data s = setChannelExchange (requestDone x)
      (offerState (targetPort s x.channel) (toController s x data false .lastRequest) s) := by
  unfold passFirst lastRequestFrame
  simp only [hx]
  exact offerThen_room hr _ _

theorem passFirst_lead (hr : hasRoom s (targetPort s x.channel)) (k : Nat) :
    passFirst x (.lead k msg) data s = nextStamp (setChannelExchange
      { x with seg := x.seg.lead k s.part.stamp, gathered := if readsRequest x then msg else [] }
      (offerState (targetPort s x.channel) (toController s x data false (.turn s.part.stamp)) s)) := by
  unfold passFirst
  exact (offerThen_room hr _ _).trans rfl

/-! ### A request of a class that is open on its channel -/

theorem admission_open {e : CodeEntry} {first : Ssx} (hc : classOf s code = some e) (hrole : e.role = none)
    (hf : e.cls ≠ .forbidden) (ho : classOpen (s.channel c) e.cls = true)
    (hreq : (policyOf s e.cls).required &&& ~~~(conditions s) = 0) :
    admission s c code first = .pass e.cls none := by
  rw [admission_class hc hf (by rw [hrole]; nofun), judgeClass_plain (by rw [hrole]; nofun), if_neg, if_neg, hrole]
  · rw [allTrue_eq_false_iff]
    exact fun h => h hreq
  · rintro ⟨h, _⟩
    rw [((needsGrant_iff _ _ _).1 h).1] at ho
    cases ho

/-- The target port has not gone while its queue has room. -/
theorem judgeFirst_room (hr : hasRoom s (netPort (s.channel c).port)) (rest : List Frame) (code : Byte) (first : Ssx) :
    judgeFirst (taken s .W rest) c code first = admission s c code first := by
  rw [judgeFirst_taken, if_neg (by rw [hr.1]; decide)]

theorem hasRoom_taken (hr : hasRoom s (netPort (s.channel c).port)) (rest : List Frame) :
    hasRoom (taken s .W rest) (netPort (s.channel c).port) := by
  have hp : (taken s .W rest).port (netPort (s.channel c).port) = s.port (netPort (s.channel c).port) := by
    rw [taken, setPort_port, if_neg (netPort_ne_W _).symm]
  rw [hasRoom, hp]
  exact hr

theorem queued_taken (s : State) (rest : List Frame) (c : Fin 16) :
    queued (taken s .W rest) (netPort (s.channel c).port) = queued s (netPort (s.channel c).port) := by
  rw [queued, taken, setPort_port, if_neg (netPort_ne_W _).symm]

/-! ### An Open under a covering grant -/

theorem coveringGrant_first {g : Grant} {before after : List Grant} (h : s.grants.grants = before ++ g :: after)
    (hg : coversOpen g c) (hb : ∀ d ∈ before, ¬coversOpen d c) : coveringGrant s c .reprogram true = some g := by
  have hnone : before.find? (fun d => covers d c .reprogram true) = none :=
    List.find?_eq_none.2 fun d hd hc => hb d hd ((covers_opening_iff d c).1 hc)
  rw [coveringGrant, h, List.find?_append, hnone]
  simp [(covers_opening_iff g c).2 hg]

theorem admission_opening {g : Grant} {first : Ssx} (hc : classOf s code = some { cls := .reprogram, role := some .opening })
    (hg : coveringGrant s c .reprogram true = some g) (hreq : (policyOf s .reprogram).required &&& ~~~(conditions s) = 0)
    (hw : windowOn s c = none) (hfree : freeWindow s = some w) (hone : oneFollow first = true) (hroom : occupied s + 2 ≤ 128) :
    admission s c code first = .opening g.number g.slot w := by
  rw [admission_class hc (by decide) (by rintro r (rfl | rfl | rfl) <;> decide)]
  show judgeClass s c .reprogram (some .opening) first = _
  rw [judgeClass_covered hg, if_neg, judgeOpening_free hw hfree, if_neg (by rw [hone]; decide),
    if_neg (by unfold freeRoom; omega)]
  rw [allTrue_eq_false_iff]
  exact fun h => h hreq

theorem grantReservations_map {h : Grant → Grant} (hh : ∀ g, (h g).reservation = g.reservation) (l : List Grant) :
    grantReservations (l.map h) = grantReservations l := by
  induction l with
  | nil => rfl
  | cons g l ih => rw [List.map_cons, grantReservations_cons, grantReservations_cons, hh, ih]

/-- A window taken for an Open reserves two places of the record. -/
theorem occupied_takeWindow (hw : s.window w = none) (g : Nat) (i : Fin 8) :
    occupied (takeWindow c g i w s) = occupied s + 2 := by
  have hg : grantReservations (takeWindow c g i w s).grants.grants = grantReservations s.grants.grants := by
    show grantReservations (modifyFirst (fun x => x.number == g) (boundTo w) s.grants.grants) = _
    generalize s.grants.grants = l
    induction l with
    | nil => rfl
    | cons a l ih =>
      rw [modifyFirst]
      split
      · rw [grantReservations_cons, grantReservations_cons]
        unfold boundTo
        split <;> rfl
      · rw [grantReservations_cons, grantReservations_cons, ih]
  have hwin : ∀ u, (takeWindow c g i w s).window u = if u = w then some (takenWindow c g i) else s.window u := fun u =>
    setWindow_window s w u _
  rw [occupied_eq, occupied_eq, hg, hwin, hwin]
  show s.record.kept.length + _ + _ = _
  have h0 : (takeWindow c g i w s).store.queue = s.store.queue := rfl
  rw [h0]
  obtain rfl | rfl : w = 0 ∨ w = 1 := by omega
  · rw [if_pos rfl, if_neg (by decide), hw]
    simp only [windowReservations, takenWindow]
    omega
  · rw [if_neg (by decide), if_pos rfl, hw]
    simp only [windowReservations, takenWindow]
    omega

theorem takeWindow_grants (hd : grantNumbersDistinct s) {g : Grant} (hg : g ∈ s.grants.grants) (hb : g.binding = .none)
    (i : Fin 8) : (takeWindow c g.number i w s).grants.grants =
      grantsWith s g.number fun y => { y with binding := .pending w } := by
  show (updateGrant g.number (boundTo w) (setWindow w _ s)).grants.grants = _
  rw [updateGrant_distinct (by exact hd)]
  refine List.map_congr_left fun y hy => ?_
  split
  · next e =>
    rw [List.inj_on_of_nodup_map hd hy hg e, boundTo, if_pos hb]
  · rfl

theorem takeWindow_lamp (c : Fin 16) (g : Nat) (i : Fin 8) (w : Fin 2) (s : State) :
    ∃ lit left, (takeWindow c g i w s).grants.lamp = .toggling lit left := by
  refine (lampLaw_relamp (updateGrant g (boundTo w) (setWindow w (some (takenWindow c g i)) s))).1 ?_
  have hw : (setWindow w (some (takenWindow c g i)) s).window w ≠ none := by rw [setWindow_window_self]; nofun
  obtain rfl | rfl : w = 0 ∨ w = 1 := by omega
  · exact .inl hw
  · exact .inr hw

/-- Settles O34: a request of an open class, as a unit and as a lead, and the lead of an Open. -/
theorem admittedUnitIsPassedToTheController : Obligations.AdmittedUnitIsPassedToTheController := by
  refine ⟨fun c f rest code more e s hs h hx hr hc hrole _ hf ho hreq => ?_, ?_⟩
  · have hframe : (frameOf (s.channel c).ids.request f.data) = f := by rw [frameOf, h.request]
    have hadm : ∀ first, judgeFirst (taken s .W rest) c code first = .pass e.cls none := fun first => by
      rw [judgeFirst_room hr, admission_open hc hrole hf ho hreq]
    have hr' := hasRoom_taken hr rest
    refine ⟨fun hd => ?_, fun k hd h1 h63 hl => ?_⟩
    · obtain ⟨h1, h2, h3, h4⟩ := offer_joined (z := taken s .W rest) hs
        (x := freshExchange s.part.stamp c code e.cls none none .inbound)
        (y := requestDone (freshExchange s.part.stamp c code e.cls none none .inbound)) rfl rfl hr' (netPort_ne_W _)
        (toController (taken s .W rest) (freshExchange s.part.stamp c code e.cls none none .inbound) f.data false
          .lastRequest) rfl
      refine ⟨_, (toolFrame_unit h hx hd (by simp)).trans (congrArg _ ((newRequest_passed (msg := code :: more)
        (hadm _)).trans (passFirst_unit hr' rfl))), h1, h2.trans ?_, h3, h4⟩
      rw [queued_taken]
      exact congrArg (fun x => queued s _ ++ [x]) hframe
    · have hj := offer_joined (z := taken s .W rest) hs
        (x := freshExchange s.part.stamp c code e.cls none none .inbound)
        (y := { freshExchange s.part.stamp c code e.cls none none .inbound with
          seg := Seg.fresh.lead k (s.part.stamp + 1) }) rfl rfl hr' (netPort_ne_W _)
        (toController (taken s .W rest) (freshExchange s.part.stamp c code e.cls none none .inbound) f.data false
          (.turn (s.part.stamp + 1))) rfl
      obtain ⟨h2, h3, h4, h5⟩ := hj
      refine ⟨_, s.part.stamp + 1, (toolFrame_lead h hx hd h1 h63 (by simp [hl])).trans (congrArg _
        ((newRequest_passed (msg := code :: more) (hadm _)).trans (passFirst_lead hr' k))), h2, h3.trans ?_, h4, ?_⟩
      · rw [queued_taken]
        exact congrArg (fun x => queued s _ ++ [x]) hframe
      · exact (congrArg nextStamp h5).trans rfl
  · intro c f rest code more w g before after s hs hd h hx hr hc hdata hl hsplit hcov hbefore hreq hwon hwin hlow hroom
    have hframe : (frameOf (s.channel c).ids.request f.data) = f := by rw [frameOf, h.request]
    have hr' := hasRoom_taken hr rest
    have hadm : judgeFirst (taken s .W rest) c code (.lead 1 (code :: more)) = .opening g.number g.slot w := by
      rw [judgeFirst_room hr, admission_opening hc (coveringGrant_first hsplit hcov hbefore) hreq hwon
        (freeWindow_some.2 ⟨hwin, hlow⟩) rfl hroom]
    have hg : g ∈ s.grants.grants := by rw [hsplit]; simp
    have hgo : exec (.routerTakesFrame .W) s = .next (nextStamp (setChannelExchange
        { freshExchange s.part.stamp c code .reprogram (some .opening) (some w) .inbound with
          seg := Seg.fresh.lead 1 (s.part.stamp + 1), gathered := code :: more }
        (offerState (netPort (s.channel c).port) (toController s (freshExchange s.part.stamp c code .reprogram
          (some .opening) (some w) .inbound) f.data false (.turn (s.part.stamp + 1)))
        (joinList (freshExchange s.part.stamp c code .reprogram (some .opening) (some w) .inbound)
          (takeWindow c g.number g.slot w (taken s .W rest)))))) :=
      (toolFrame_lead (k := 1) h hx hdata le_rfl (by decide) (by simp [hl])).trans (congrArg _
        ((newRequest_opened (msg := code :: more) hadm).trans (passFirst_lead (by exact hr') 1)))
    obtain ⟨h1, h2, _, h4⟩ := offer_joined (z := takeWindow c g.number g.slot w (taken s .W rest)) hs
      (x := freshExchange s.part.stamp c code .reprogram (some .opening) (some w) .inbound)
      (y := { freshExchange s.part.stamp c code .reprogram (some .opening) (some w) .inbound with
        seg := Seg.fresh.lead 1 (s.part.stamp + 1), gathered := code :: more }) rfl rfl (by exact hr') (netPort_ne_W _)
      (toController s (freshExchange s.part.stamp c code .reprogram (some .opening) (some w) .inbound) f.data false
        (.turn (s.part.stamp + 1))) rfl
    refine ⟨_, _, hgo, h1, rfl, rfl, rfl, rfl, rfl, rfl, rfl, rfl, rfl, ?_, ?_, fun u hu => ?_, ?_, ?_, ?_, ?_, ?_⟩
    · refine h2.trans ?_
      show queued (taken s .W rest) _ ++ [_] = _
      rw [queued_taken]
      exact congrArg (fun x => queued s _ ++ [x]) hframe
    all_goals generalize setChannelExchange _ _ = t at h4 ⊢; rw [h4]
    · exact setWindow_window_self s w (some (takenWindow c g.number g.slot))
    · exact (setWindow_window s w u (some (takenWindow c g.number g.slot))).trans (if_neg hu)
    · exact occupied_takeWindow (s := taken s .W rest) hwin g.number g.slot
    · exact takeWindow_grants (s := taken s .W rest) hd hg hcov.2.2.2 g.slot
    · exact takeWindow_lamp c g.number g.slot w (taken s .W rest)
    · rfl
    · rfl

end Sys2Proof.Machine
end

section
/-! The frames of a pending exchange: the reply, the follows, and the pace frames that are passed on (R44 to R47, R61 to
R63). -/

namespace Sys2Proof.Machine

open Sys2Proof Sys2Proof.Safety

variable {s : State} {c : Fin 16} {f : Frame} {rest : List Frame} {msg data : List Byte} {x y : ChannelExchange}
  {p : Port}

/-! ### A record put in its place -/

theorem modifyFirst_modifyFirst {α : Type} {p : α → Bool} {a b : α} (ha : p a = true) (l : List α) :
    modifyFirst p (fun _ => b) (modifyFirst p (fun _ => a) l) = modifyFirst p (fun _ => b) l := by
  induction l with
  | nil => rfl
  | cons x l ih => by_cases h : p x <;> simp [modifyFirst, h, ha, ih]

theorem eraseP_modifyFirst {α : Type} {p : α → Bool} {a : α} (ha : p a = true) (l : List α) :
    (modifyFirst p (fun _ => a) l).eraseP p = l.eraseP p := by
  induction l with
  | nil => rfl
  | cons x l ih => by_cases h : p x <;> simp [modifyFirst, h, ha, ih]

theorem isChannel_self (x : ChannelExchange) : isChannel x.id (.channel x) = true := decide_eq_true rfl

theorem setChannelExchange_twice (h : y.id = x.id) (s : State) :
    setChannelExchange y (setChannelExchange x s) = setChannelExchange y s := by
  have := modifyFirst_modifyFirst (b := Exchange.channel y) (isChannel_self x) s.exchanges
  unfold setChannelExchange
  rw [h]
  exact congrArg (fun l => { s with exchanges := l }) this

theorem dropChannelExchange_set (x : ChannelExchange) (s : State) :
    dropChannelExchange x.id (setChannelExchange x s) = dropChannelExchange x.id s :=
  congrArg (fun l => { s with exchanges := l }) (eraseP_modifyFirst (isChannel_self x) s.exchanges)

theorem ownedExchange_of_found (hs : exchangeLaw s) (h : channelExchange s c = some x) : ownedExchange s x.id = some x :=
  (channelExchange_of_mem hs (channelExchange_some h).1).2

/-- A record put in the place of the one with its number is the one found under it. -/
theorem setChannelExchange_owned (hs : exchangeLaw s) (h : channelExchange s c = some x) (hid : y.id = x.id) :
    ownedExchange (setChannelExchange y s) y.id = some y := by
  rw [ownedExchange_eq, channelRecords_setChannel hs]
  have := find?_replaced (i := fun z : ChannelExchange => z.id) (k := fun z : ChannelExchange => z.id) (y := y)
    (channelRecords_distinct hs).2 (channelRecords_distinct hs).2 (mem_channelRecords.2 (channelExchange_some h).1) hid
    hid y.id
  rw [this, if_pos hid]

/-! ### Frames taken from a FIFO -/

theorem hasRoom_W_taken (h : hasRoom s .W) (p : Port) (rest : List Frame) : hasRoom (taken s p rest) .W := by
  cases p <;> exact h

theorem taken_law (h : exchangeLaw s) (p : Port) (rest : List Frame) : exchangeLaw (taken s p rest) := by
  cases p <;> exact h

theorem offerThen_W (h : hasRoom s .W) (o : OutFrame) (go : State → State) :
    offerThen x .W o go s = go (withReply s o) := by
  rw [offerThen_room h, offerState_W h]

theorem closeExchange_answered (h : x.window = none) (s : State) :
    closeExchange x .answered s = dropChannelExchange x.id s := by
  unfold closeExchange
  rw [inspectorClosed_free h]
  rfl

theorem dropChannelExchange_taken (n : Nat) (s : State) (p : Port) (rest : List Frame) (o : OutFrame) :
    dropChannelExchange n (withReply (taken s p rest) o) =
      withReply { taken s p rest with exchanges := s.exchanges.eraseP (isChannel n) } o := by
  cases p <;> rfl

/-- A controller's frame of a pending exchange. -/
theorem controller_pending (h : ControllerSide s c f rest) (hx : channelExchange s c = some x) :
    exec (.routerTakesFrame (netPort (s.channel c).port)) s =
      .next (controllerPending x f.data (taken s (netPort (s.channel c).port) rest)) := by
  rw [routerTakes_controller h, controllerFrame, taken_channelExchange, hx]

/-- A tool's frame of a pending exchange. -/
theorem tool_pending (h : ToolSide s c f rest) (hx : channelExchange s c = some x) :
    exec (.routerTakesFrame .W) s = .next (toolPending x f.data (taken s .W rest)) := by
  rw [routerTakes_tool h, toolFrame, taken_channelExchange, hx]

/-- A controller's frame as it is passed on to the tool. -/
theorem toTool_taken (h : ControllerSide s c f rest) (hx : x.channel = c) (p : Port) (rest : List Frame) (pace : Bool)
    (mark : Mark) : toTool (taken s p rest) x f.data pace mark =
      offered f (if pace then .pace c else .exchange c) x.id mark := by
  subst hx
  unfold toTool
  rw [setPort_channel, h.response]
  rfl

/-- A tool's frame as it is passed on to the controller. -/
theorem toController_taken (h : ToolSide s c f rest) (hx : x.channel = c) (p : Port) (rest : List Frame) (pace : Bool)
    (mark : Mark) : toController (taken s p rest) x f.data pace mark =
      offered f (if pace then .pace c else .exchange c) x.id mark := by
  subst hx
  unfold toController
  rw [setPort_channel, h.request]
  rfl

/-! ### The form of a reply (R41) -/

theorem stillWorking_iff {code : Byte} (hc : code.toNat ≤ 0x7E) (msg : List Byte) :
    replyForm code msg = .stillWorking ↔ ∃ more, msg = byte 0xFF :: code :: byte 0x2F :: more := by
  have heq : ∀ a b : Byte, a.toNat = b.toNat ↔ a = b := fun a b => BitVec.toNat_inj
  have h255 : (byte 0xFF).toNat = 255 := rfl
  have h47 : (byte 0x2F).toNat = 47 := rfl
  constructor
  · intro h
    unfold replyForm at h
    split at h
    · cases h
    split at h
    · next h1 h2 =>
      split at h
      · next h3 =>
        obtain ⟨a, b, d, more, rfl⟩ : ∃ a b d more, msg = a :: b :: d :: more := by
          match msg, h2.1 with
          | a :: b :: d :: more, _ => exact ⟨a, b, d, more, rfl⟩
        rw [fieldAt_byte] at h2
        rw [fieldAt_cons, fieldAt_byte, fieldAt_cons, fieldAt_cons, fieldAt_byte] at h3
        rw [(heq a (byte 0xFF)).1 h2.2, (heq b code).1 h3.1, (heq d (byte 0x2F)).1 h3.2]
        exact ⟨more, rfl⟩
      · cases h
    · cases h
  · rintro ⟨more, rfl⟩
    unfold replyForm
    simp only [fieldAt_byte, fieldAt_cons, List.length_cons, h255, h47]
    rw [if_neg (by omega)]
    simp

/-! ### The first frame of a reply (R62, R63) -/

theorem takeReply_spent (hf : replyForm x.code msg = .stillWorking) (hr : 64 ≤ x.reloads) (hw : x.window = none)
    (h : hasRoom s .W) (first : Ssx) : takeReply x first msg data s =
      withReply (dropChannelExchange x.id s) (replyFrame s x.channel x.code 0xE5) := by
  unfold takeReply
  simp only [if_pos hf, if_pos hr]
  exact closeExchange_free (x := { x with timer := .stopped }) (r := .noReply) hw rfl h

theorem takeReply_working_unit (hf : replyForm x.code msg = .stillWorking) (hr : x.reloads < 64) (h : hasRoom s .W) :
    takeReply x (.unit msg) msg data s = setChannelExchange (extendWait s x)
      (withReply s (toTool s x data false .plain)) := by
  unfold takeReply
  simp only [if_pos hf, if_neg (Nat.not_le.2 hr)]
  exact offerThen_W h _ _

theorem passReply_unit (h : hasRoom s .W) (hw : x.window = none) (form : ReplyForm) :
    passReply x form (.unit msg) data s =
      dropChannelExchange x.id (withReply s (toTool s x data false .plain)) := by
  unfold passReply
  exact (offerThen_W h _ _).trans (closeExchange_answered hw _)

theorem passReply_lead (h : hasRoom s .W) (form : ReplyForm) (k : Nat) : passReply x form (.lead k msg) data s =
    nextStamp (setChannelExchange
      { x with state := .replying, form := form, timer := .stopped, seg := x.seg.lead k s.part.stamp }
      (withReply s (toTool s x data false (.turn s.part.stamp)))) := by
  unfold passReply
  exact (offerThen_W h _ _).trans rfl

theorem takeReply_working_lead (hf : replyForm x.code msg = .stillWorking) (hr : x.reloads < 64) (k : Nat) :
    takeReply x (.lead k msg) msg data s = passReply { x with timer := .stopped } .stillWorking (.lead k msg) data s := by
  unfold takeReply
  simp only [hf, if_true, if_neg (Nat.not_le.2 hr)]

theorem inspectReply_free (h : x.window = none) (form : ReplyForm) (msg data : List Byte) (s : State) :
    inspectReply x form msg data s = (s, some data) := by
  unfold inspectReply
  rw [h]

/-- A final reply of an exchange without a window is passed on. -/
theorem takeReply_final (hs : exchangeLaw s) (hx : channelExchange s c = some x)
    (hf : replyForm x.code msg ≠ .stillWorking) (hw : x.window = none) (first : Ssx) : takeReply x first msg data s =
      passReply { x with timer := .stopped } (replyForm x.code msg) first data
        (setChannelExchange { x with timer := .stopped } s) := by
  have ho : ownedExchange (setChannelExchange { x with timer := .stopped } s) x.id = some { x with timer := .stopped } :=
    setChannelExchange_owned hs hx rfl
  unfold takeReply
  simp only [if_neg hf, inspectReply_free (x := { x with timer := .stopped }) hw, ho]

theorem takeReply_final_unit (hs : exchangeLaw s) (hx : channelExchange s c = some x)
    (hf : replyForm x.code msg ≠ .stillWorking) (hw : x.window = none) (h : hasRoom s .W) :
    takeReply x (.unit msg) msg data s = dropChannelExchange x.id (withReply s (toTool s x data false .plain)) := by
  rw [takeReply_final hs hx hf hw]
  refine (passReply_unit (x := { x with timer := .stopped }) (by exact h) hw _).trans ?_
  exact dropChannelExchange_set { x with timer := .stopped } (withReply s (toTool s x data false .plain))

theorem takeReply_final_lead (hs : exchangeLaw s) (hx : channelExchange s c = some x)
    (hf : replyForm x.code msg ≠ .stillWorking) (hw : x.window = none) (h : hasRoom s .W) (k : Nat) :
    takeReply x (.lead k msg) msg data s = nextStamp (setChannelExchange
      { x with state := .replying, form := replyForm x.code msg, timer := .stopped, seg := x.seg.lead k s.part.stamp }
      (withReply s (toTool s x data false (.turn s.part.stamp)))) := by
  rw [takeReply_final hs hx hf hw]
  refine (passReply_lead (x := { x with timer := .stopped }) (by exact h) _ k).trans (congrArg nextStamp ?_)
  exact setChannelExchange_twice
    (y := { x with
      state := .replying, form := replyForm x.code msg, timer := .stopped, seg := x.seg.lead k s.part.stamp })
    (x := { x with timer := .stopped }) rfl (withReply s (toTool s x data false (.turn s.part.stamp)))

/-! ### The follows (R47) -/

theorem followSeg_more {g : Seg} {a : Allowance} (h : g.allow = .rest ∧ a = .rest ∨
    ∃ n, g.allow = .num (n + 2) ∧ a = .num (n + 1)) (n stamp : Nat) : g.follow n stamp =
      { g with next := g.next + 1, allow := a, len := g.len + n, timer := some 1000 } := by
  unfold Seg.follow
  obtain ⟨h, rfl⟩ | ⟨k, h, rfl⟩ := h <;> simp [h, Allowance.spend]

theorem followSeg_spent {g : Seg} (h : g.allow = .num 1) (n stamp : Nat) : g.follow n stamp =
    { g with phase := .paceDue, next := g.next + 1, allow := .num 0, len := g.len + n, timer := none, turn := stamp } := by
  unfold Seg.follow
  simp [h, Allowance.spend]

theorem replyFollow_last {i : Nat} (h : hasRoom s .W) (hi : i = x.seg.count) : replyFollow x i msg data s =
    if x.form = .stillWorking then setChannelExchange (extendWait s x) (withReply s (toTool s x data false .plain))
    else closeExchange x .answered (withReply s (toTool s x data false .plain)) := by
  unfold replyFollow
  rw [if_pos hi]
  exact offerThen_W h _ _

theorem replyFollow_more {i : Nat} (h : hasRoom s .W) (hi : i ≠ x.seg.count) : replyFollow x i msg data s =
    nextStamp (setChannelExchange { x with seg := x.seg.follow msg.length s.part.stamp }
      (withReply s (toTool s x data false
        (if (x.seg.follow msg.length s.part.stamp).phase = .paceDue then .turn s.part.stamp else .plain)))) := by
  unfold replyFollow
  rw [if_neg hi]
  exact (offerThen_W h _ _).trans rfl

/-- The last follow of a request of no step of a download. -/
theorem requestFollow_last {i : Nat} (hr : x.role = none) (hi : i = x.seg.count) :
    requestFollow x i msg data s = passLast x data s := by
  unfold requestFollow lastRequestFrame
  simp only [if_pos hi, hr]

theorem requestFollow_more {i : Nat} (hr : x.role = none) (hi : i ≠ x.seg.count)
    (h : hasRoom s (netPort (s.channel x.channel).port)) : requestFollow x i msg data s =
      nextStamp (setChannelExchange { x with seg := x.seg.follow msg.length s.part.stamp, gathered := [] }
        (offerState (netPort (s.channel x.channel).port) (toController s x data false
          (if (x.seg.follow msg.length s.part.stamp).phase = .paceDue then .turn s.part.stamp else .plain)) s)) := by
  have hk : (if readsRequest x = true then x.gathered ++ msg else []) = [] :=
    if_neg (by rw [readsRequest, hr]; decide)
  unfold requestFollow
  simp only [if_neg hi, hk]
  exact offerThen_room h _ _

/-! ### The tool's pace frames for a reply (R45, R46) -/

theorem replyPace_proceed (h : hasRoom s (netPort (s.channel x.channel).port)) (a g : Nat) :
    replyPace x a 0 g data s = nextStamp (setChannelExchange { x with seg := x.seg.proceed a g s.part.stamp }
      (offerState (netPort (s.channel x.channel).port) (toController s x data true (.turn s.part.stamp)) s)) := by
  rw [replyPace, if_pos rfl]
  exact offerThen_room h _ _

theorem replyPace_wait (h : hasRoom s (netPort (s.channel x.channel).port)) (a g : Nat) :
    replyPace x a 1 g data s = nextStamp (setChannelExchange
      { x with seg := { x.seg with timer := none, turn := s.part.stamp } }
      (offerState (netPort (s.channel x.channel).port) (toController s x data true (.turn s.part.stamp)) s)) := by
  rw [replyPace, if_neg (by decide), if_pos rfl]
  exact offerThen_room h _ _

theorem replyPace_refuse (h : hasRoom s (netPort (s.channel x.channel).port)) (a g : Nat) :
    replyPace x a 2 g data s = closeExchange x .answered
      (offerState (netPort (s.channel x.channel).port) (toController s x data true .plain) s) := by
  rw [replyPace, if_neg (by decide), if_neg (by decide)]
  exact offerThen_room h _ _

/-! ### Reading the frames of a pending exchange -/

theorem controllerPending_awaiting (hs : x.state = .awaiting) :
    (readSsx x.seg.count data = .unit msg → controllerPending x data s = takeReply x (.unit msg) msg data s) ∧
    ∀ k, readSsx x.seg.count data = .lead k msg → controllerPending x data s = takeReply x (.lead k msg) msg data s := by
  unfold controllerPending
  exact ⟨fun h => by simp only [hs, h], fun k h => by simp only [hs, h]⟩

theorem controllerPending_follow {i : Nat} (hs : x.state = .replying) (hp : x.seg.phase = .followsDue)
    (hi : x.seg.next = i) (h : readSsx x.seg.count data = .follow i msg) :
    controllerPending x data s = replyFollow x i msg data s := by
  unfold controllerPending
  simp only [hs, h]
  exact if_pos ⟨hp, hi.symm⟩

theorem toolPending_pace {a k g : Nat} (hs : x.state = .replying) (hp : x.seg.phase = .paceDue)
    (h : readSsx x.seg.count data = .pace a k g) : toolPending x data s = replyPace x a k g data s := by
  unfold toolPending
  simp only [hs, h]
  exact if_pos hp

theorem toolPending_follow {i : Nat} (hs : x.state = .inbound) (hp : x.seg.phase = .followsDue)
    (hi : x.seg.next = i) (h : readSsx x.seg.count data = .follow i msg) :
    toolPending x data s = requestFollow x i msg data s := by
  unfold toolPending
  simp only [hs, h]
  exact if_pos ⟨hp, hi.symm⟩

/-! ### The queues at the end of windows and grants

The end of a window or a grant offers no frame: only the reply of a closed exchange does. -/

@[simp] theorem appendInto_ports (b : Bool) (d : Detail) (g : Option Nat) (k : Option (Fin 8)) (c : Option (Fin 16))
    (s : State) : (appendInto b d g k c s).ports = s.ports := by
  obtain ⟨q, m, n, h, -⟩ := appendInto_shape b d g k c s
  rw [h]

@[simp] theorem grantClose_ports (g : Grant) (cause : CloseCause) (s : State) :
    (grantClose g cause s).ports = s.ports := by
  rw [grantClose, relamp_ports, appendInto_ports, dropGrant_ports]

@[simp] theorem removeWindow_ports (w : Fin 2) (v : Window) (s : State) : (removeWindow w v s).ports = s.ports := by
  rw [removeWindow_shape]

@[simp] theorem appendEnded_ports (w : Fin 2) (v : Window) (o : Outcome) (c : EndCause) (s : State) :
    (appendEnded w v o c s).ports = s.ports := by
  rw [appendEnded_eq]
  exact appendInto_ports _ _ _ _ _ _

@[simp] theorem reportEndedUnactivated_ports (g : Nat) (w : Fin 2) (s : State) :
    (reportEndedUnactivated g w s).ports = s.ports := by
  unfold reportEndedUnactivated
  split
  · split
    · dsimp only
      split <;> simp
    · rfl
  · rfl

@[simp] theorem reportEndedActive_ports (g : Nat) (w : Fin 2) (s : State) :
    (reportEndedActive g w s).ports = s.ports := by
  unfold reportEndedActive
  split
  · split
    · dsimp only
      split
      · simp
      · split <;> simp
    · rfl
  · rfl

@[simp] theorem endActive_ports (w : Fin 2) (v : Window) (o : Outcome) (c : EndCause) (tell : Bool) (s : State) :
    (endActive w v o c tell s).ports = s.ports := by
  unfold endActive
  cases tell <;> simp

@[simp] theorem endPendingSilent_ports (w : Fin 2) (v : Window) (tell : Bool) (s : State) :
    (endPendingSilent w v tell s).ports = s.ports := by
  unfold endPendingSilent
  cases tell <;> simp

@[simp] theorem endPending_ports (w : Fin 2) (v : Window) (o : Outcome) (c : EndCause) (tell : Bool) (s : State) :
    (endPending w v o c tell s).ports = s.ports := by
  unfold endPending
  split <;> simp

@[simp] theorem suspendTest_ports (w : Fin 2) (s : State) : (suspendTest w s).ports = s.ports := by
  unfold suspendTest
  split
  · split <;> rfl
  · rfl

@[simp] theorem leaveWindow_ports (w : Fin 2) (s : State) : (leaveWindow w s).ports = s.ports := by
  unfold leaveWindow
  split <;> rfl

@[simp] theorem inspectorClosed_ports (x : ChannelExchange) (cause : Closing) (s : State) :
    (inspectorClosed x cause s).ports = s.ports := by
  unfold inspectorClosed reopenWindow
  repeat' split
  all_goals simp

theorem closeExchange_answered_ports (x : ChannelExchange) (s : State) :
    (closeExchange x .answered s).ports = s.ports :=
  inspectorClosed_ports x .answered (dropChannelExchange x.id s)

theorem queued_of_ports {t : State} (h : t.ports = s.ports) (p : Port) : queued t p = queued s p := by
  unfold queued State.port
  rw [h]

/-! ### A frame passed on to the controller -/

/-- What is left when a tool's frame has been offered to the target port and the exchange's record put in its place. -/
theorem passed_on (hs : exchangeLaw s) (h : ToolSide s c f rest) (hx : channelExchange s c = some x)
    (hr : hasRoom s (netPort (s.channel c).port)) (hid : y.id = x.id) (hch : y.channel = c) (pace : Bool) (mark : Mark)
    {t : State} (ht : t = setChannelExchange y
      (offerState (netPort (s.channel c).port) (toController (taken s .W rest) x f.data pace mark) (taken s .W rest))) :
    queued t (netPort (s.channel c).port) = queued s (netPort (s.channel c).port) ++ [f] ∧
      channelExchange t c = some y ∧
      t = { s with part := t.part, ports := t.ports, meter := t.meter, exchanges := t.exchanges } := by
  obtain rfl : x.channel = c := (channelExchange_some hx).2
  subst ht
  rw [toController_taken h rfl]
  refine ⟨?_, ?_, ?_⟩
  · show queued (offerState _ _ (taken s .W rest)) _ = _
    rw [offerState_queued (hasRoom_taken hr rest), queued_taken]
  · rw [offerState_touches]
    exact (setChannelExchange_found (s := { taken s .W rest with ports := _, meter := _ }) hs hx hid hch
      x.channel).trans (if_pos rfl)
  · rw [offerState_touches]
    rfl

/-- Settles O35: the reply's first frame, its follows, the tool's pace frames, and the request's follows. -/
theorem replyUnitIsPassedAndClosesTheExchange : Obligations.ReplyUnitIsPassedAndClosesTheExchange := by
  refine ⟨?_, ?_, ?_, ?_⟩
  · rintro c f rest msg x s hs h hr hx hst hw hc p q stillWorking rfl rfl hsw
    obtain rfl : x.channel = c := (channelExchange_some hx).2
    have hform : replyForm x.code msg = .stillWorking ↔ stillWorking := (stillWorking_iff hc msg).trans hsw.symm
    have hq := hasRoom_W_taken hr (netPort (s.channel x.channel).port) rest
    have hlaw := taken_law hs (netPort (s.channel x.channel).port) rest
    have hxq := (taken_channelExchange s (netPort (s.channel x.channel).port) rest x.channel).trans hx
    have hspent : ∀ first, stillWorking → 64 ≤ x.reloads →
        takeReply x first msg f.data (taken s (netPort (s.channel x.channel).port) rest) = withReply
          { taken s (netPort (s.channel x.channel).port) rest with exchanges := s.exchanges.eraseP (isChannel x.id) }
          (replyFrame s x.channel x.code 0xE5) := fun first h1 h2 => by
      rw [takeReply_spent (hform.2 h1) h2 hw hq, dropChannelExchange, setPort_exchanges, replyFrame, setPort_channel]
    refine ⟨fun hd hne _ => ⟨fun h1 => ?_, fun h1 h2 => ?_, fun h1 h2 => ?_⟩,
      fun k hd h1 h63 hl => ⟨fun hok => ⟨replyForm x.code msg, hform, ?_⟩, fun h1 h2 => ?_⟩⟩
    · have hread : readSsx x.seg.count f.data = .unit msg := by
        rw [hd]
        exact readSsx_unitData (List.length_pos_iff.2 hne) _
      rw [controller_pending h hx, (controllerPending_awaiting hst).1 hread,
        takeReply_final_unit hlaw hxq (fun e => h1 (hform.1 e)) hw hq, toTool_taken h rfl]
      rw [dropChannelExchange_taken]
      rfl
    · have hread : readSsx x.seg.count f.data = .unit msg := by
        rw [hd]
        exact readSsx_unitData (List.length_pos_iff.2 hne) _
      rw [controller_pending h hx, (controllerPending_awaiting hst).1 hread,
        takeReply_working_unit (hform.2 h1) h2 hq, toTool_taken h rfl, extendWait, setPort_channel, ← hst]
      rfl
    · have hread : readSsx x.seg.count f.data = .unit msg := by
        rw [hd]
        exact readSsx_unitData (List.length_pos_iff.2 hne) _
      rw [controller_pending h hx, (controllerPending_awaiting hst).1 hread, hspent _ h1 h2]
    · have hread : readSsx x.seg.count f.data = .lead k msg := by rw [hd, readSsx_lead h1 h63 hl]
      rw [controller_pending h hx, (controllerPending_awaiting hst).2 k hread]
      by_cases hf : replyForm x.code msg = .stillWorking
      · rw [takeReply_working_lead hf (hok.resolve_left fun hn => hn (hform.1 hf)), passReply_lead hq, hf, setPort_part]
        exact congrArg (fun o => Host.Outcome.next (nextStamp (setChannelExchange _ (withReply _ o))))
          (toTool_taken h rfl _ rest false _)
      · rw [takeReply_final_lead hlaw hxq hf hw hq, toTool_taken h rfl, setPort_part]
        rfl
    · have hread : readSsx x.seg.count f.data = .lead k msg := by rw [hd, readSsx_lead ‹_› h63 hl]
      rw [controller_pending h hx, (controllerPending_awaiting hst).2 k hread, hspent _ h1 h2]
  · rintro c f rest i bytes x s hs h hr hx hst hph hi h63 hd hb1 hb7 hfull p q rfl rfl
    obtain rfl : x.channel = c := (channelExchange_some hx).2
    have hq := hasRoom_W_taken hr (netPort (s.channel x.channel).port) rest
    have hread : readSsx x.seg.count f.data = .follow i bytes := by rw [hd, readSsx_follow h63 hb1 hfull]
    have hgo : exec (.routerTakesFrame (netPort (s.channel x.channel).port)) s =
        .next (replyFollow x i bytes f.data (taken s (netPort (s.channel x.channel).port) rest)) := by
      rw [controller_pending h hx, controllerPending_follow hst hph hi hread]
    refine ⟨fun a hn ha => ?_, fun hn ha => ?_, fun hn hf => ?_, fun hn hf hw => ?_⟩
    · rw [hgo, replyFollow_more hq hn, followSeg_more ha, toTool_taken h rfl, if_neg (show ¬x.seg.phase = .paceDue by rw [hph]; decide), hi]
      rfl
    · rw [hgo, replyFollow_more hq hn, followSeg_spent ha, toTool_taken h rfl, if_pos rfl, setPort_part, hi]
      rfl
    · rw [hgo, replyFollow_last hq hn, if_pos hf, toTool_taken h rfl, extendWait, setPort_channel]
      rfl
    · rw [hgo, replyFollow_last hq hn, if_neg hf, closeExchange_answered hw, toTool_taken h rfl]
      rw [dropChannelExchange_taken]
      rfl
  · rintro c f rest ctl code gap more x s hs h hr hx hst hph hd hctl hcode hgap p rfl
    obtain rfl : x.channel = c := (channelExchange_some hx).2
    have hread := readSsx_pace (f := f) ⟨⟨more, hd⟩, hctl, hcode, hgap⟩ x.seg.count
    have hq := hasRoom_taken hr rest
    have hgo : exec (.routerTakesFrame .W) s =
        .next (replyPace x (ctl.toNat - 192) code.toNat gap.toNat f.data (taken s .W rest)) := by
      rw [tool_pending h hx, toolPending_pace hst hph hread]
    have hallow : allowanceOf (ctl.toNat - 192) = if ctl.toNat = 192 then .rest else .num (ctl.toNat - 192) :=
      if_congr (by omega) rfl rfl
    obtain rfl | rfl | rfl : code = 0 ∨ code = 1 ∨ code = 2 := by
      have h3 : code.toNat = 0 ∨ code.toNat = 1 ∨ code.toNat = 2 := by omega
      exact h3.imp (fun h => BitVec.eq_of_toNat_eq h) (.imp (fun h => BitVec.eq_of_toNat_eq h)
        fun h => BitVec.eq_of_toNat_eq h)
    · obtain ⟨h1, h2, h3⟩ := passed_on (pace := true) (mark := .turn s.part.stamp)
        (y := { x with seg := x.seg.proceed (ctl.toNat - 192) gap.toNat s.part.stamp }) hs h hx hr rfl rfl rfl
      refine ⟨_, hgo.trans (congrArg _ (replyPace_proceed hq _ _)), h1, fun _ => ?_, nofun, nofun,
        fun _ => (congrArg nextStamp h3).trans rfl⟩
      exact h2.trans (by rw [Seg.proceed, hallow])
    · obtain ⟨h1, h2, h3⟩ := passed_on (pace := true) (mark := .turn s.part.stamp)
        (y := { x with seg := { x.seg with timer := none, turn := s.part.stamp } }) hs h hx hr rfl rfl rfl
      exact ⟨_, hgo.trans (congrArg _ (replyPace_wait hq _ _)), h1,
        nofun, fun _ => h2, nofun, fun _ => (congrArg nextStamp h3).trans rfl⟩
    · refine ⟨_, hgo.trans (congrArg _ (replyPace_refuse hq _ _)), ?_, nofun, nofun,
        fun _ hw => ?_, fun hw => ?_⟩
      · rw [queued_of_ports (closeExchange_answered_ports _ _), setPort_channel, offerState_queued hq, queued_taken, toController_taken h rfl]
      · rw [closeExchange_answered hw, offerState_touches]
        rfl
      · rw [closeExchange_answered (hw.resolve_left fun hn => hn rfl), offerState_touches]
        rfl
  · rintro c f rest i bytes x s hs h hr hx hst hrole hph hi h63 hd hb1 hb7 hfull p rfl
    obtain rfl : x.channel = c := (channelExchange_some hx).2
    have hq := hasRoom_taken hr rest
    have hread : readSsx x.seg.count f.data = .follow i bytes := by rw [hd, readSsx_follow h63 hb1 hfull]
    have hgo : exec (.routerTakesFrame .W) s = .next (requestFollow x i bytes f.data (taken s .W rest)) := by
      rw [tool_pending h hx, toolPending_follow hst hph hi hread]
    by_cases hn : i = x.seg.count
    · obtain ⟨h1, h2, h3⟩ := passed_on (pace := false) (mark := .lastRequest) (y := requestDone x) hs h hx hr rfl rfl rfl
      refine ⟨_, hgo.trans (congrArg _ ?_), h1, h3, fun _ hc => absurd hn hc, fun hc => absurd hn hc, fun _ => h2⟩
      exact (requestFollow_last hrole hn).trans (offerThen_room hq _ _)
    · obtain ⟨h1, h2, h3⟩ := passed_on (pace := false)
        (mark := if (x.seg.follow bytes.length s.part.stamp).phase = .paceDue then .turn s.part.stamp else .plain)
        (y := { x with seg := x.seg.follow bytes.length s.part.stamp, gathered := [] }) hs h hx hr rfl rfl rfl
      refine ⟨_, hgo.trans (congrArg _ (requestFollow_more hrole hn hq)), h1, (congrArg nextStamp h3).trans rfl,
        fun a _ ha => h2.trans ?_, fun _ ha => h2.trans ?_, fun hc => absurd hc hn⟩
      · rw [followSeg_more ha, hi]
      · rw [followSeg_spent ha, hi]

end Sys2Proof.Machine
end

section
/-! The controller's pace frames, for a request and for a block that is sent again (R45, R46, R53, R121). -/

namespace Sys2Proof.Machine

open Sys2Proof Sys2Proof.Safety

variable {s : State} {c : Fin 16} {f : Frame} {rest : List Frame} {data : List Byte} {x : ChannelExchange}
  {p : Port} {w : Fin 2} {v : Window}

/-! ### An exchange that has left the list -/

theorem channelRecords_dropped (n : Nat) (s : State) :
    channelRecords (dropChannelExchange n s) = (channelRecords s).eraseP (fun y => decide (y.id = n)) := by
  show (s.exchanges.eraseP (isChannel n)).filterMap asChannel = _
  unfold channelRecords
  induction s.exchanges with
  | nil => rfl
  | cons e l ih =>
    cases e with
    | management y => exact (congrArg (List.filterMap asChannel) (List.eraseP_cons_of_neg (by simp [isChannel]))).trans ih
    | channel y =>
      by_cases h : y.id = n
      · rw [List.eraseP_cons_of_pos (by simpa [isChannel] using h)]
        exact (List.eraseP_cons_of_pos (p := fun z : ChannelExchange => decide (z.id = n)) (decide_eq_true h)).symm
      · rw [List.eraseP_cons_of_neg (by simpa [isChannel] using h)]
        exact (congrArg (y :: ·) ih).trans (List.eraseP_cons_of_neg (by simpa using h)).symm

theorem channelExchange_dropped (hs : exchangeLaw s) (hx : channelExchange s c = some x) :
    channelExchange (dropChannelExchange x.id s) c = none := by
  obtain ⟨hch, hid⟩ := channelRecords_distinct hs
  obtain ⟨hm, hc⟩ := channelExchange_some hx
  rw [channelExchange_eq, channelRecords_dropped, eraseP_eq_filter _ _ hid, List.find?_eq_none]
  intro y hy e
  obtain ⟨hy, hne⟩ := List.mem_filter.1 hy
  have : y = x := List.inj_on_of_nodup_map hch hy (mem_channelRecords.2 hm) ((of_decide_eq_true e).trans hc.symm)
  exact of_decide_eq_true hne (congrArg _ this)

theorem channelExchange_unlink (hx : channelExchange s c = none) (w : Fin 2) :
    channelExchange (unlink w s) c = none := by
  unfold channelExchange at hx ⊢
  rw [List.findSome?_eq_none_iff] at hx ⊢
  intro e he
  obtain ⟨d, hd, rfl⟩ := List.mem_map.1 he
  have := hx d hd
  cases d with
  | management y => rfl
  | channel y =>
    have hn : y.channel ≠ c := fun e => by simp [e] at this
    by_cases hw : y.window = some w <;> simp [hw, hn]

theorem dropped_length (hx : channelExchange s c = some x) (s' : State) (he : s'.exchanges = s.exchanges) (w : Fin 2) :
    (unlinked w (dropChannelExchange x.id s')).length + 1 = s.exchanges.length := by
  have hm := (channelExchange_some hx).1
  show (List.map _ (s'.exchanges.eraseP (isChannel x.id))).length + 1 = _
  rw [he, List.length_map, List.length_eraseP_of_mem hm (isChannel_self x)]
  have := List.length_pos_of_mem hm
  omega

/-! ### The end of an exchange that is linked to a window -/

/-- A broken exchange leaves a window that has been ACTIVE, which goes on (R118, R122, R127). -/
theorem closeExchange_leaves (hw : x.window = some w) (hv : s.window w = some v)
    (hst : v.state = .active ∨ v.state = .suspended) (hr : hasRoom s .W) :
    closeExchange x .broken s =
      withReply (setWindow w (some (unlinkedWindow v)) (dropChannelExchange x.id s))
        (replyFrame s x.channel x.code 0xE6) := by
  have hu : v.unlinked = unlinkedWindow v := by
    unfold Window.unlinked
    rw [if_pos hst]
  have hi : inspectorClosed x .broken (dropChannelExchange x.id s) =
      setWindow w (some (unlinkedWindow v)) (dropChannelExchange x.id s) := by
    rw [← hu]
    have hv' : (dropChannelExchange x.id s).window w = some v := hv
    unfold inspectorClosed
    obtain h | h := hst <;> simp only [hw, hv', h] <;> unfold leaveWindow <;> rw [hv']
  unfold closeExchange
  rw [hi]
  exact gatewayReply_W (s := setWindow w (some (unlinkedWindow v)) (dropChannelExchange x.id s)) hr _ _ _

theorem closeLinked_room (hl : linkedExchange s w = some x) (hr : hasRoom s .W) (r : Reason) : closeLinked w r s =
    withReply (dropChannelExchange x.id s) (replyFrame s x.channel x.code (reasonCode r)) := by
  unfold closeLinked
  rw [hl]
  exact gatewayReply_W (s := dropChannelExchange x.id s) hr _ _ _

/-- A frame offered to the tool in the place of a controller's, under the same identifier. -/
theorem toTool_rewritten (h : ControllerSide s c f rest) (hx : x.channel = c) (p : Port) (rest : List Frame)
    (data : List Byte) (pace : Bool) (mark : Mark) : toTool (taken s p rest) x data pace mark =
      offered { f with data := data } (if pace then .pace c else .exchange c) x.id mark := by
  subst hx
  unfold toTool
  rw [setPort_channel, h.response]
  rfl

theorem queued_taken_W (s : State) (n : Net) (rest : List Frame) : queued (taken s (netPort n) rest) .W = queued s .W := by
  cases n <;> rfl

theorem taken_touches (s : State) (p : Port) (rest : List Frame) :
    taken s p rest = { s with ports := (taken s p rest).ports } := by
  cases p <;> rfl

theorem marked_taken (s : State) (p : Port) (rest : List Frame) : marked (taken s p rest) p = marked s p := by
  cases p <;> rfl

theorem rx_taken (s : State) (p : Port) (rest : List Frame) : ((taken s p rest).port p).rx = rest := by
  cases p <;> rfl

theorem roomFor_taken {n : Nat} (h : roomFor s p n) (rest : List Frame) : roomFor (taken s p rest) p n := by
  cases p <;> exact h

/-! ### The clamp (R46) -/

theorem clampAllowance_eq (m a : Nat) : clampAllowance m a =
    if m = 63 then a else if a = 0 ∨ m < a then m else a := rfl

theorem requestPace_proceed (h : hasRoom s .W) (a g : Nat) : requestPace x a 0 g data s =
    nextStamp (setChannelExchange
      { x with
        seg := x.seg.proceed (clampAllowance (s.channel x.channel).maxAllowance a)
          (clampGap (s.channel x.channel).minGap g) s.part.stamp }
      (withReply s (toTool s x (clampPace (s.channel x.channel).maxAllowance (s.channel x.channel).minGap data a g) true
        (.turn s.part.stamp)))) := by
  rw [requestPace, if_pos rfl]
  exact offerThen_W h _ _

theorem requestPace_wait (h : hasRoom s .W) (a g : Nat) : requestPace x a 1 g data s =
    nextStamp (setChannelExchange { x with seg := { x.seg with timer := none, turn := s.part.stamp } }
      (withReply s (toTool s x data true (.turn s.part.stamp)))) := by
  rw [requestPace, if_neg (by decide), if_pos rfl]
  exact offerThen_W h _ _

theorem requestPace_refuse (h : hasRoom s .W) (hw : x.window = none) (a g : Nat) : requestPace x a 2 g data s =
    dropChannelExchange x.id (withReply s (toTool s x data true .plain)) := by
  rw [requestPace, if_neg (by decide), if_neg (by decide)]
  exact (offerThen_W h _ _).trans (closeExchange_answered hw _)

/-! ### Reading a controller's pace frame -/

theorem controllerPending_requestPace {a k g : Nat} (hs : x.state = .inbound) (hp : x.seg.phase = .paceDue)
    (h : readSsx x.seg.count data = .pace a k g) : controllerPending x data s = requestPace x a k g data s := by
  unfold controllerPending
  simp only [hs, h]
  exact if_pos hp

theorem controllerPending_outboundPace {a k g : Nat} (hs : x.state = .outbound) (hp : x.seg.phase = .paceDue)
    (h : readSsx x.seg.count data = .pace a k g) : controllerPending x data s = outboundPace x a k g s := by
  unfold controllerPending
  simp only [hs, h]
  exact if_pos hp

theorem controllerPending_outboundBroken {a k g : Nat} (hs : x.state = .outbound) (hp : x.seg.phase ≠ .paceDue)
    (h : readSsx x.seg.count data = .pace a k g) : controllerPending x data s = closeExchange x .broken s := by
  unfold controllerPending
  simp only [hs, h]
  exact if_neg hp

theorem blockRefused_linked (hw : x.window = some w) (hv : s.window w = some v) (hl : linkedExchange s w = some x)
    (hr : hasRoom s .W) : blockRefused x s = endActive w v .failed .refused true
      (withReply (dropChannelExchange x.id s) (replyFrame s x.channel x.code 0xE6)) := by
  unfold blockRefused
  simp only [hw, hv, closeLinked_room hl hr]
  rfl

/-- A controller's refuse for a block that is sent again, of a window whose grant keeps other classes (R121, R117). -/
theorem block_refused {g : Grant} {r : WindowRun} {n l : Nat} (hw : x.window = some w) (hv : s.window w = some v)
    (hl : linkedExchange s w = some x) (hr : hasRoom s .W) (hrun : v.run = some r) (hrange : v.range = some (n, l))
    (h1 : 1 ≤ v.reservations) (hq : s.store.queue.length < 16) (hd : grantNumbersDistinct s)
    (hg : g ∈ s.grants.grants) (hn : g.number = v.grant) (hb : g.binding = .bound w) (ha : g.state = .active)
    (hc : g.classes &&& ~~~bitReprogram ≠ 0) (a gap : Nat) :
    ∃ lamp, outboundPace x a 2 gap s = { s with
      ports := (withReply s (replyFrame s x.channel x.code 0xE6)).ports
      tables := { s.tables with maps := resolvedMaps s v.channel }
      inspector := { s.inspector with
        overlays := resolvedOverlays s v.channel, windows := put s.inspector.windows w none }
      exchanges := unlinked w (dropChannelExchange x.id s)
      grants := { s.grants with lamp := lamp, grants := consumed s v.grant }
      store := { s.store with queue := s.store.queue ++ [.append (entryNow s
        (.downloadEnded n l r.remaining .failed .refused) (some v.grant) (some v.slot)
        (some (v.channel, (s.channel v.channel).label)))] }
      record := { s.record with mark := (s.record.mark + 1) % 4294967296, unrecorded := 0 }
      agent := { s.agent with attention := { s.agent.attention with downloadEnded := true } } } := by
  obtain ⟨lamp, e⟩ := endActive_keeps (w := w) (s := withReply (dropChannelExchange x.id s)
    (replyFrame s x.channel x.code 0xE6)) h1 hq hrun hrange hd hg hn hb ha hc .failed .refused
  refine ⟨lamp, (((if_neg (by decide)).trans (if_neg (by decide))).trans (blockRefused_linked hw hv hl hr)).trans ?_⟩
  exact e

/-- A controller's proceed for a block that is sent again, with room for the follows it allows. -/
theorem block_resumed {b : Fin 2} {ctl gap : Byte} (hs : exchangeLaw s) (hx : channelExchange s c = some x)
    (hw : x.window = some w) (hv : s.window w = some v) (hb : v.buffer = some b) (hctl : 192 ≤ ctl.toNat)
    (h1 : 1 ≤ x.seg.next) (hn : x.seg.next ≤ x.seg.count) (hc : x.seg.count ≤ 63)
    (hr : roomFor s (targetPort s c) (followsNow (resumed x.seg ctl gap))) :
    ∃ t, outboundPace x (ctl.toNat - 192) 0 gap.toNat s = t ∧
      followsOffered s t (targetPort s c) (s.channel c).ids.request (.exchange c) x.id (s.inspector.buffers.get b)
        (resumed x.seg ctl gap) (followsNow (resumed x.seg ctl gap)) ∧
      (t.port (targetPort s c)).rx = (s.port (targetPort s c)).rx ∧
      channelExchange t c = some { x with
        gapTimer := none, seg := afterFollows (resumed x.seg ctl gap) (s.inspector.buffers.get b) s.part.stamp
          (followsNow (resumed x.seg ctl gap)) } ∧
      t = { s with part := t.part, ports := t.ports, meter := t.meter, exchanges := t.exchanges } := by
  have ha := resumed_allow x.seg ctl gap hctl
  have hp : planned (burst (resumed x.seg ctl gap)) (resumed x.seg ctl gap) = followsNow (resumed x.seg ctl gap) :=
    planned_burst h1 hn hc ha
  have h := sendFollows_spec (g := resumed x.seg ctl gap) (k := burst (resumed x.seg ctl gap)) hs hx hw hv hb hn ha
    (by rw [hp]; exact hr)
  rw [hp] at h
  unfold outboundPace
  simp only [if_true, resume_eq x.seg ctl gap hctl]
  exact h

/-- Settles O36. -/
theorem proceedIsClampedToThePaceCeiling : Obligations.ProceedIsClampedToThePaceCeiling := by
  refine ⟨?_, ?_, ?_⟩
  · rintro c f rest ctl gap more x s hs h hr hd hctl hgap hx hst hph p m a g rfl rfl ha rfl
    obtain rfl : x.channel = c := (channelExchange_some hx).2
    have hq := hasRoom_W_taken hr (netPort (s.channel x.channel).port) rest
    have hread := readSsx_pace (f := f) ⟨⟨more, hd⟩, hctl, by decide, hgap⟩ x.seg.count
    have ha' : clampAllowance (s.channel x.channel).maxAllowance (ctl.toNat - 192) = a := by
      rw [ha, clampAllowance_eq]
      exact if_congr Iff.rfl rfl (if_congr (or_congr (by omega) Iff.rfl) rfl rfl)
    have hdata : clampPace (s.channel x.channel).maxAllowance (s.channel x.channel).minGap f.data (ctl.toNat - 192)
        gap.toNat = byte (192 + a) :: byte 0 :: byte (max gap.toNat (s.channel x.channel).minGap) :: more := by
      unfold clampPace
      rw [ha', hd]
      rfl
    rw [controller_pending h hx, controllerPending_requestPace hst hph hread]
    refine congrArg _ ((requestPace_proceed hq _ _).trans ?_)
    rw [setPort_channel, ha', hdata, toTool_rewritten h rfl, setPort_part]
    rfl
  · rintro c f rest ctl code gap x p q s hs h hr hp hx hst hph rfl rfl
    obtain rfl : x.channel = c := (channelExchange_some hx).2
    have hq := hasRoom_W_taken hr (netPort (s.channel x.channel).port) rest
    rw [controller_pending h hx, controllerPending_requestPace hst hph (readSsx_pace hp _)]
    refine ⟨?_, ?_⟩
    · rintro rfl
      refine congrArg _ ((requestPace_wait hq _ _).trans ?_)
      rw [toTool_taken h rfl, setPort_part]
      rfl
    · rintro rfl hw
      refine congrArg _ ((requestPace_refuse hq hw _ _).trans ?_)
      rw [toTool_taken h rfl, dropChannelExchange_taken]
      rfl
  · rintro c f rest ctl code gap x w v b p q s hs h hp hx hst hw hv hb rfl rfl msg rfl
    obtain rfl : x.channel = c := (channelExchange_some hx).2
    have hread := readSsx_pace hp x.seg.count
    have hgo := controller_pending h hx
    have hroom : ∀ n, roomFor s (netPort (s.channel x.channel).port) n →
        roomFor (taken s (netPort (s.channel x.channel).port) rest) (netPort (s.channel x.channel).port) n :=
      fun n hn => roomFor_taken hn rest
    have hW : hasRoom s .W → hasRoom (taken s (netPort (s.channel x.channel).port) rest) .W :=
      fun hr => hasRoom_W_taken hr _ rest
    have hqW := queued_taken_W s (s.channel x.channel).port rest
    have hmark := marked_taken s (netPort (s.channel x.channel).port) rest
    have hrx := rx_taken s (netPort (s.channel x.channel).port) rest
    obtain ⟨P, hP⟩ : ∃ P, taken s (netPort (s.channel x.channel).port) rest = { s with ports := P } :=
      ⟨_, taken_touches _ _ _⟩
    rw [hP] at hgo hroom hW hqW hmark hrx ⊢
    refine ⟨fun hph => ?_, fun hph hr hact => ?_⟩
    · rw [hgo, controllerPending_outboundPace hst hph hread]
      refine ⟨?_, ?_, ?_⟩
      · rintro g n rfl h1 hn hc63 rfl rfl hr
        obtain ⟨t, e, f1, f2, f3, f4⟩ := block_resumed (s := { s with ports := P }) hs hx hw hv hb hp.2.1 h1 hn hc63
          (hroom _ hr)
        exact ⟨t, congrArg _ e, f1.trans (congrArg (· ++ _) hmark), f2.trans hrx, f3, f4⟩
      · rintro rfl
        exact congrArg _ ((if_neg (by decide)).trans (if_pos rfl))
      · rintro r a l y rfl hr hl hch hrun hrange h1 hqueue hd hy hyn hyb hya hyc
        obtain ⟨lamp, e⟩ := block_refused (s := { s with ports := P }) hw hv hl (hW hr) hrun hrange h1 hqueue hd hy hyn hyb
          hya hyc (ctl.toNat - 192) gap.toNat
        refine ⟨_, congrArg _ e, ?_, ?_, ?_, ?_, rfl, ?_, rfl⟩
        · exact channelExchange_unlink (channelExchange_dropped hs hx) w
        · exact dropped_length hx s rfl w
        · exact put_get_self _ _ _
        · exact (List.map_append ..).trans (congrArg (· ++ _) hqW)
        · rw [hch]
          rfl
    · refine ⟨_, hgo.trans (congrArg _ ((controllerPending_outboundBroken hst hph hread).trans
        (closeExchange_leaves (s := { s with ports := P }) hw hv hact (hW hr)))), rfl, ?_, ?_, rfl, rfl⟩
      · exact put_get_self _ _ _
      · exact (List.map_append ..).trans (congrArg (· ++ _) hqW)

end Sys2Proof.Machine
end

section
/-! The Management Agent: how a request is gathered and judged, how its reply and a side answer are sent (R52, R53, R56,
R152 to R154, R163). -/

namespace Sys2Proof.Machine

open Sys2Proof Sys2Proof.Safety

variable {s : State} {m : Mgmt} {f : Frame} {rest : List Frame} {msg data bytes reply : List Byte} {x y : MgmtExchange}
  {p : Port}

/-! ### A reply made ready -/

theorem modifyFirst_congr {α : Type} {p : α → Bool} {g h : α → α} {l : List α}
    (he : ∀ a ∈ l, p a = true → g a = h a) : modifyFirst p g l = modifyFirst p h l := by
  induction l with
  | nil => rfl
  | cons a l ih =>
    by_cases hp : p a
    · simp [modifyFirst, hp, he a (by simp) hp]
    · simp [modifyFirst, hp, ih fun b hb => he b (List.mem_cons_of_mem _ hb)]

theorem isMgmt_iff {n : Nat} {e : Exchange} : isMgmt n e = true ↔ ∃ y, e = .management y ∧ y.id = n := by
  cases e with
  | channel y => simp [isMgmt]
  | management y => simp [isMgmt]

/-- Under the list's law the answer replaces the record it was made for. -/
theorem answer_set (hs : exchangeLaw s) (hx : mgmtExchange s m = some x) (reply : List Byte) :
    answer x.id reply s = setMgmtExchange { x with work := .ready reply } s := by
  unfold answer setMgmtExchange
  refine congrArg (fun l => { s with exchanges := l }) (modifyFirst_congr fun e he hp => ?_)
  obtain ⟨y, rfl, hid⟩ := isMgmt_iff.1 hp
  have : y = x := List.inj_on_of_nodup_map (mgmtRecords_distinct hs).2 (mem_mgmtRecords.2 he)
    (mem_mgmtRecords.2 (mgmtExchange_some hx).1) hid
  rw [this]

theorem answer_found (hs : exchangeLaw s) (hx : mgmtExchange s m = some x) (reply : List Byte) (k : Mgmt) :
    mgmtExchange (answer x.id reply s) k = if k = m then some { x with work := .ready reply } else mgmtExchange s k := by
  obtain rfl : x.chan = m := (mgmtExchange_some hx).2
  rw [answer_set hs hx]
  exact setMgmtExchange_found (y := { x with work := .ready reply }) hs hx rfl rfl k

theorem answer_channel (n : Nat) (reply : List Byte) (s : State) (c : Fin 16) :
    channelExchange (answer n reply s) c = channelExchange s c := by
  have h : channelRecords (answer n reply s) = channelRecords s :=
    modifyFirst_filterMap _ _ _ (fun e he => by obtain ⟨y, rfl, -⟩ := isMgmt_iff.1 he; rfl) _
  rw [channelExchange_eq, channelExchange_eq, h]

/-! ### A management exchange that joins, changes or leaves the list -/

theorem modifyFirst_of_set {α : Type} {p : α → Bool} {a : α} (ha : p a = true) (g : α → α) (l : List α) :
    modifyFirst p g (modifyFirst p (fun _ => a) l) = modifyFirst p (fun _ => g a) l := by
  induction l with
  | nil => rfl
  | cons x l ih => by_cases h : p x <;> simp [modifyFirst, h, ha, ih]

theorem answer_ofSet (y : MgmtExchange) (reply : List Byte) (s : State) :
    answer y.id reply (setMgmtExchange y s) = setMgmtExchange { y with work := .ready reply } s :=
  congrArg (fun l => { s with exchanges := l })
    (modifyFirst_of_set (show isMgmt y.id (.management y) = true from decide_eq_true rfl) _ s.exchanges)

/-- No exchange of the list has the number the next one takes. -/
theorem fresh_mgmt (hs : exchangeLaw s) : ∀ e ∈ s.exchanges, isMgmt s.part.stamp e = false := by
  intro e he
  refine Bool.eq_false_iff.2 fun hp => ?_
  obtain ⟨y, rfl, hid⟩ := isMgmt_iff.1 hp
  have hn : y.id ∈ pendingIds s := pendingIds_eq s ▸ List.mem_map_of_mem (f := Exchange.number) he
  exact absurd (hs.2.2.2 _ hn) (by omega)

theorem modify_joined {g : Exchange → Exchange} (hs : exchangeLaw s) (hx : x.id = s.part.stamp) :
    modifyFirst (isMgmt x.id) g (s.exchanges ++ [.management x]) = s.exchanges ++ [g (.management x)] := by
  rw [hx, modifyFirst_append_miss _ (fresh_mgmt hs)]
  simp [modifyFirst, isMgmt, hx]

theorem mgmtRecords_dropped (n : Nat) (s : State) :
    mgmtRecords (closeMgmt n s) = (mgmtRecords s).eraseP (fun y => decide (y.id = n)) := by
  show (s.exchanges.eraseP (isMgmt n)).filterMap asMgmt = _
  unfold mgmtRecords
  induction s.exchanges with
  | nil => rfl
  | cons e l ih =>
    cases e with
    | channel y => exact (congrArg (List.filterMap asMgmt) (List.eraseP_cons_of_neg (by simp [isMgmt]))).trans ih
    | management y =>
      by_cases h : y.id = n
      · rw [List.eraseP_cons_of_pos (by simpa [isMgmt] using h)]
        exact (List.eraseP_cons_of_pos (p := fun z : MgmtExchange => decide (z.id = n)) (decide_eq_true h)).symm
      · rw [List.eraseP_cons_of_neg (by simpa [isMgmt] using h)]
        exact (congrArg (y :: ·) ih).trans (List.eraseP_cons_of_neg (by simpa using h)).symm

theorem mgmtExchange_dropped (hs : exchangeLaw s) (hx : mgmtExchange s m = some x) :
    mgmtExchange (closeMgmt x.id s) m = none := by
  obtain ⟨hch, hid⟩ := mgmtRecords_distinct hs
  obtain ⟨hm, hc⟩ := mgmtExchange_some hx
  rw [mgmtExchange_eq, mgmtRecords_dropped, eraseP_eq_filter _ _ hid, List.find?_eq_none]
  intro y hy e
  obtain ⟨hy, hne⟩ := List.mem_filter.1 hy
  have : y = x := List.inj_on_of_nodup_map hch hy (mem_mgmtRecords.2 hm) ((of_decide_eq_true e).trans hc.symm)
  exact of_decide_eq_true hne (congrArg _ this)

/-! ### The judgement of a complete request (R154, R163) -/

/-- What a complete request waits for: a refusal that is ready, or its own row. -/
def judgedWork (s : State) (msg : List Byte) : Work :=
  match requestRefusal s.agent.restart msg with
  | some r => .ready (refusalBytes (msg.headD 0) r)
  | none => .unserved

/-- The codes that have a length are the listed ones and the Table Write's. -/
theorem requestLength_some {n l : Nat} (h : requestLength n = some l) : n = 0x18 ∨ (n, l) ∈ requestLengths := by
  unfold requestLength at h
  split at h <;> cases h <;> decide

theorem requestLengths_read : ∀ p ∈ requestLengths, requestLength p.1 = some p.2 ∧ p.1 ≠ 0x18 ∧ p.1 < 256 := by decide

theorem readTable_number (k : TableId) : readTable (tableNumber k) = some k := by cases k <;> rfl

theorem tableNumber_lt (k : TableId) : tableNumber k < 256 := by cases k <;> decide

theorem requestRefusal_unknown (h : requestUnknown msg) (r : RestartPhase) :
    requestRefusal r msg = some .unknownRequest := by
  obtain ⟨code, rest, rfl, h18, hn⟩ := h
  have hb : byte code.toNat = code := BitVec.ofNat_toNat 8 code
  have : requestLength code.toNat = none := by
    refine Option.eq_none_iff_forall_ne_some.2 fun l hl => ?_
    obtain h | h := requestLength_some hl
    · exact h18 (hb ▸ congrArg byte h)
    · exact hn _ h hb.symm
  rw [requestRefusal, fieldAt_byte, this]

theorem requestRefusal_fits {n : Nat} (hl : requestLength (fieldAt msg 0 1) = some n) (r : RestartPhase) :
    requestRefusal r msg =
      if lengthFits n msg = false then some .malformed else if r ≠ .idle then some .busy else none := by
  rw [requestRefusal, hl]

/-- A message whose first byte is the code of a request other than the Table Write. -/
theorem lengthFits_listed {code n : Nat} (h : (code, n) ∈ requestLengths) (rest : List Byte) :
    requestLength (fieldAt (byte code :: rest) 0 1) = some n ∧
      (lengthFits n (byte code :: rest) = true ↔ (byte code :: rest).length = n) := by
  obtain ⟨h1, h2, h3⟩ := requestLengths_read _ h
  have hf : fieldAt (byte code :: rest) 0 1 = code := by rw [fieldAt_byte, toNat_byte, Nat.mod_eq_of_lt h3]
  rw [lengthFits, hf, if_neg h2]
  exact ⟨h1, beq_iff_eq⟩

theorem lengthFits_tableWrite (k : TableId) (rest : List Byte) :
    requestLength (fieldAt (byte 0x18 :: byte (tableNumber k) :: rest) 0 1) = some 4 ∧
      (lengthFits 4 (byte 0x18 :: byte (tableNumber k) :: rest) = true ↔
        (byte 0x18 :: byte (tableNumber k) :: rest).length = 4 + imageLength k) := by
  have hf : fieldAt (byte 0x18 :: byte (tableNumber k) :: rest) 0 1 = 0x18 := by rw [fieldAt_byte]; rfl
  have hk : fieldAt (byte 0x18 :: byte (tableNumber k) :: rest) 1 1 = tableNumber k := by
    rw [fieldAt_cons, fieldAt_byte, toNat_byte, Nat.mod_eq_of_lt (tableNumber_lt k)]
  refine ⟨by rw [hf]; rfl, ?_⟩
  rw [lengthFits, hf, if_pos rfl, hk, readTable_number]
  simp only [Bool.and_eq_true, beq_iff_eq, decide_eq_true_eq]
  omega

theorem requestJudged_judgedWork (s : State) (msg : List Byte) : requestJudged s msg (judgedWork s msg) := by
  have hfit : requestFits msg → ∃ n, requestLength (fieldAt msg 0 1) = some n ∧ lengthFits n msg = true := by
    rintro (⟨code, n, rest, hm, rfl, hl⟩ | ⟨k, rest, rfl, hl⟩)
    · exact ⟨n, (lengthFits_listed hm rest).1, (lengthFits_listed hm rest).2.2 hl⟩
    · exact ⟨4, (lengthFits_tableWrite k rest).1, (lengthFits_tableWrite k rest).2.2 hl⟩
  have hmis : requestMisfits msg → ∃ n, requestLength (fieldAt msg 0 1) = some n ∧ lengthFits n msg = false := by
    rintro (⟨code, n, rest, hm, rfl, hl⟩ | ⟨k, rest, rfl, hl⟩ | rfl)
    · exact ⟨n, (lengthFits_listed hm rest).1, Bool.eq_false_iff.2 fun h => hl ((lengthFits_listed hm rest).2.1 h)⟩
    · exact ⟨4, (lengthFits_tableWrite k rest).1,
        Bool.eq_false_iff.2 fun h => hl ((lengthFits_tableWrite k rest).2.1 h)⟩
    · exact ⟨4, rfl, rfl⟩
  unfold judgedWork
  refine ⟨fun h => ?_, fun h => ?_, fun h hr => ?_, fun h hr => ?_⟩
  · rw [requestRefusal_unknown h]
    rfl
  · obtain ⟨n, h1, h2⟩ := hmis h
    rw [requestRefusal_fits h1, if_pos h2]
    rfl
  · obtain ⟨n, h1, h2⟩ := hfit h
    rw [requestRefusal_fits h1, if_neg (by rw [h2]; decide), if_pos hr]
    rfl
  · obtain ⟨n, h1, h2⟩ := hfit h
    rw [requestRefusal_fits h1, if_neg (by rw [h2]; decide), if_neg (by simpa using hr)]

/-- A request that is complete is judged in its exchange, where the answer finds it. -/
theorem judgeRequest_of {z : State} {put : MgmtExchange → State} (hz : put y = z)
    (ha : ∀ reply, answer y.id reply z = put { y with work := .ready reply }) (hcode : y.buffer.headD 0 = y.code)
    (hw : y.work = .unserved) : judgeRequest y z = put { y with work := judgedWork z y.buffer } := by
  unfold judgeRequest judgedWork
  cases requestRefusal z.agent.restart y.buffer with
  | some r => exact (ha _).trans (by rw [hcode])
  | none => exact hz.symm.trans (by rw [← hw])

theorem judgeRequest_set (hcode : y.buffer.headD 0 = y.code) (hw : y.work = .unserved) (s : State) :
    judgeRequest y (setMgmtExchange y s) = setMgmtExchange { y with work := judgedWork s y.buffer } s :=
  judgeRequest_of (put := fun y => setMgmtExchange y s) rfl (fun reply => answer_ofSet y reply s) hcode hw

theorem judgeRequest_joined (hs : exchangeLaw s) (hid : y.id = s.part.stamp) (hcode : y.buffer.headD 0 = y.code)
    (hw : y.work = .unserved) :
    judgeRequest y (joinMgmt y s) = joinMgmt { y with work := judgedWork s y.buffer } s := by
  refine judgeRequest_of (put := fun y => joinMgmt y s) rfl (fun reply => ?_) hcode hw
  exact congrArg (fun l => nextStamp { s with exchanges := l }) (modify_joined hs hid)

/-! ### The frames of a management channel -/

/-- What the taking of a frame from a port's FIFO leaves of that port, and of nothing else. -/
theorem taken_split (s : State) (p : Port) (rest : List Frame) : ∃ P, taken s p rest = { s with ports := P } ∧
    (∀ n, roomFor s p n → roomFor { s with ports := P } p n) ∧ (hasRoom s p → hasRoom { s with ports := P } p) ∧
    queued { s with ports := P } p = queued s p ∧ marked { s with ports := P } p = marked s p ∧
    (({ s with ports := P } : State).port p).rx = rest := by
  refine ⟨_, taken_touches s p rest, ?_⟩
  cases p <;> exact ⟨fun _ h => h, fun h => h, rfl, rfl, rfl⟩

theorem readSsx_high {ctl : Byte} {more : List Byte} (h : 128 ≤ ctl.toNat) (n : Nat) :
    (∀ msg, readSsx n (ctl :: more) ≠ .unit msg) ∧ ∀ k msg, readSsx n (ctl :: more) ≠ .lead k msg := by
  have h0 : ¬ctl.toNat / 64 = 0 := by omega
  have h1 : ¬ctl.toNat / 64 = 1 := by omega
  have hn : (∀ msg, readSsx n (ctl :: more) ≠ .unit msg) ∧ ∀ k msg, readSsx n (ctl :: more) ≠ .lead k msg := by
    unfold readSsx
    simp only [h0, h1, if_false]
    constructor
    all_goals
      intros
      repeat' split
      all_goals exact nofun
  exact hn

/-- A frame that begins no message changes nothing on a channel with no exchange and no side answer being sent. -/
theorem mgmtFrame_dropped (hx : mgmtExchange s m = none) (hs : sideSending s m = false)
    (hu : ∀ msg, readSsx (gatherCount s m) data ≠ .unit msg)
    (hl : ∀ k msg, readSsx (gatherCount s m) data ≠ .lead k msg) : mgmtFrame m data s = s := by
  have hbad : ∀ k, mgmtBad m k s = s := fun k => by
    have h1 : sideBad m k s = s := if_neg fun h => by rw [hs] at h; exact absurd h.1 (by decide)
    rw [mgmtBad, h1, exchangeBad, hx]
  have hpace : ∀ a, mgmtPace m a s = s := fun a => by
    unfold mgmtPace
    unfold sideSending at hs
    cases hside : sideOf s m with
    | sending id seg msg gap => rw [hside] at hs; cases hs
    | absent => simp only [hx]
    | waiting r => simp only [hx]
  unfold mgmtFrame
  cases hr : readSsx (gatherCount s m) data with
  | pace a code g => exact hpace _
  | unit msg => exact absurd hr (hu msg)
  | lead k msg => exact absurd hr (hl k msg)
  | follow i msg => simp only [hx]
  | bad k => cases k <;> first | exact hpace _ | exact hbad _

theorem looseRefusal_touches (m : Mgmt) (id : Ident) (code : Byte) (r : Refuse) (s : State) :
    looseRefusal m id code r s = { s with
      ports := (looseRefusal m id code r s).ports, meter := (looseRefusal m id code r s).meter } := by
  unfold looseRefusal offerMgmt
  split <;> exact offerState_touches _ _ _

/-! ### Gathering a request (R52, R56, R152) -/

theorem openUnit_eq (hs : exchangeLaw s) (m : Mgmt) (msg : List Byte) :
    openUnit m msg s = joinMgmt { freshMgmt s m msg .serving with work := judgedWork s msg } s :=
  judgeRequest_joined (y := freshMgmt s m msg .serving) hs rfl rfl rfl

/-- The record of a request whose lead has been answered proceed. -/
abbrev gathering (s : State) (m : Mgmt) (k : Nat) (msg : List Byte) : MgmtExchange :=
  { freshMgmt s m msg .receiving with
    seg := ((freshMgmt s m msg .receiving).seg.lead k (s.part.stamp + 1)).proceed 0 0 (s.part.stamp + 1) }

theorem openLead_eq (hs : exchangeLaw s) (hr : hasRoom s (mgmtPort m)) (k : Nat) (msg : List Byte) :
    ∃ t, openLead m k msg s = t ∧ t.exchanges = s.exchanges ++ [.management (gathering s m k msg)] ∧
      queued t (mgmtPort m) = queued s (mgmtPort m) ++ [frameOf (mgmtPair s m).response [byte 192, byte 0, byte 0]] ∧
      t = { s with part := t.part, ports := t.ports, meter := t.meter, exchanges := t.exchanges } := by
  have hr' : hasRoom (joinMgmt (freshMgmt s m msg .receiving) s) (mgmtPort m) := hr
  unfold openLead
  refine ⟨_, offerMgmt_room hr' _ _, ?_, ?_, ?_⟩
  · rw [offerState_touches]
    exact modify_joined (x := freshMgmt s m msg .receiving) hs rfl
  · exact offerState_queued hr' _
  · rw [offerState_touches]
    rfl

theorem mgmtFrame_unit_new (hx : mgmtExchange s m = none) (h : readSsx (gatherCount s m) data = .unit msg) :
    mgmtFrame m data s = openUnit m msg s := by
  unfold mgmtFrame
  simp only [h, hx]

theorem mgmtFrame_lead_new {k : Nat} (hx : mgmtExchange s m = none)
    (h : readSsx (gatherCount s m) data = .lead k msg) : mgmtFrame m data s = openLead m k msg s := by
  unfold mgmtFrame
  simp only [h, hx]

theorem mgmtFrame_side (hx : mgmtExchange s m = some x) (h : readSsx (gatherCount s m) data = .unit msg)
    (hr : sideRequest msg = true) (ha : sideAbsent s m = true) :
    mgmtFrame m data s = setSide m (.waiting msg) s := by
  unfold mgmtFrame
  simp only [h, hx]
  exact if_pos (by rw [hr, ha]; rfl)

theorem mgmtFrame_follow {i : Nat} (hx : mgmtExchange s m = some x) (hst : x.state = .receiving)
    (h : readSsx x.seg.count data = .follow i bytes) : mgmtFrame m data s = gatherFollow x i bytes s := by
  have hc : gatherCount s m = x.seg.count := by
    unfold gatherCount
    simp only [hx, hst, if_true]
  unfold mgmtFrame
  simp only [hc, h, hx, hst, if_true]

theorem gatherFollow_more {i : Nat} (hp : x.seg.phase = .followsDue) (hi : x.seg.next = i) (hn : i ≠ x.seg.count)
    (ha : x.seg.allow = .rest) : gatherFollow x i bytes s = setMgmtExchange { x with
      buffer := x.buffer ++ bytes
      seg := { x.seg with next := i + 1, len := x.seg.len + bytes.length, timer := some 1000 } } s := by
  rw [gatherFollow, if_pos ⟨hp, hi.symm⟩, if_neg hn, followSeg_more (.inl ⟨ha, ha⟩), hi]

theorem gatherFollow_last {i : Nat} (hp : x.seg.phase = .followsDue) (hi : x.seg.next = i) (hn : i = x.seg.count)
    (hb : x.buffer.head? = some x.code) (hw : x.work = .unserved) :
    gatherFollow x i bytes s = setMgmtExchange { x with
      state := .serving, seg := x.seg.reset, buffer := x.buffer ++ bytes, work := judgedWork s (x.buffer ++ bytes) } s := by
  have hcode : (x.buffer ++ bytes).headD 0 = x.code := by
    cases h : x.buffer with
    | nil => rw [h] at hb; cases hb
    | cons a l => rw [h] at hb; exact Option.some.inj hb
  rw [gatherFollow, if_pos ⟨hp, hi.symm⟩, if_pos hn]
  exact judgeRequest_set (y := { x with state := .serving, seg := x.seg.reset, buffer := x.buffer ++ bytes }) hcode hw s

theorem gatherFollow_broken {i : Nat} (hi : x.seg.next ≠ i) : gatherFollow x i bytes s = requestBroken x s :=
  if_neg fun h => hi h.2.symm

theorem refuseBusy_eq (hx : mgmtExchange s m = some x) {code : Byte} {more : List Byte}
    (h : (readSsx (gatherCount s m) data = .unit (code :: more) ∧ ((sideRequest (code :: more) && sideAbsent s m) = false)) ∨
      ∃ k, readSsx (gatherCount s m) data = .lead k (code :: more)) :
    mgmtFrame m data s = looseRefusal m (mgmtPair s m).response code .busy s := by
  unfold mgmtFrame
  obtain ⟨h, hn⟩ | ⟨k, h⟩ := h
  · simp only [h, hx]
    exact if_neg (by rw [hn]; decide)
  · simp only [h, hx]
    rfl

theorem sideAbsent_iff (s : State) (m : Mgmt) : sideAbsent s m = true ↔ sideOf s m = .absent := by
  unfold sideAbsent
  cases sideOf s m <;> simp

theorem sideSending_iff (s : State) (m : Mgmt) :
    sideSending s m = true ↔ ∃ id seg msg gap, sideOf s m = .sending id seg msg gap := by
  unfold sideSending
  cases sideOf s m <;> simp

theorem sideRequest_iff {code : Byte} (more : List Byte) :
    sideRequest (code :: more) = true ↔ code = byte 2 ∨ code = byte 3 := by
  have h2 : (byte 2).toNat = 2 := rfl
  have h3 : (byte 3).toNat = 3 := rfl
  unfold sideRequest
  rw [fieldAt_byte, Bool.or_eq_true, beq_iff_eq, beq_iff_eq, ← BitVec.toNat_inj, ← BitVec.toNat_inj, h2, h3]

theorem sideBad_ends {k : BadKind} (hk : k ≠ .follow) (m : Mgmt) (s : State) :
    (∀ id seg msg gap, sideOf s m = .sending id seg msg gap → sideOf (sideBad m k s) m = .absent) ∧
      ∃ agent, sideBad m k s = { s with agent := agent } := by
  unfold sideBad
  split
  · exact ⟨fun _ _ _ _ _ => by cases m <;> rfl, by cases m <;> exact ⟨_, rfl⟩⟩
  · next h =>
    exact ⟨fun id seg msg gap e => absurd ⟨(sideSending_iff s m).2 ⟨id, seg, msg, gap, e⟩, hk⟩ h, _, rfl⟩

theorem exchangeBad_ends {k : BadKind} (hk : k ≠ .follow) (hs : exchangeLaw s) (hx : mgmtExchange s m = some x) :
    sideOf (exchangeBad m k s) m = sideOf s m ∧ (x.state ≠ .serving → mgmtExchange (exchangeBad m k s) m = none) ∧
      (x.state = .serving → exchangeBad m k s = s) := by
  unfold exchangeBad
  simp only [hx]
  cases hst : x.state with
  | receiving =>
    have hl := looseRefusal_touches x.chan x.response x.code .malformed (closeMgmt x.id s)
    refine ⟨?_, fun _ => ?_, nofun⟩
    · rw [requestBroken, hl]
      cases m <;> rfl
    · rw [requestBroken, hl]
      exact mgmtExchange_dropped hs hx
  | serving => exact ⟨rfl, fun h => absurd rfl h, fun _ => rfl⟩
  | answering =>
    rw [if_neg hk]
    exact ⟨by cases m <;> rfl, fun _ => mgmtExchange_dropped hs hx, nofun⟩

/-- An empty frame or a unit without bytes ends what is gathered or sent on the channel (log 23). -/
theorem mgmtFrame_broken (hs : exchangeLaw s) (hx : mgmtExchange s m = some x) (hd : data = [] ∨ data = [byte 0]) :
    (∀ id seg msg gap, sideOf s m = .sending id seg msg gap → sideOf (mgmtFrame m data s) m = .absent) ∧
      (x.state ≠ .serving → mgmtExchange (mgmtFrame m data s) m = none) ∧
      (x.state = .serving → mgmtExchange (mgmtFrame m data s) m = some x) := by
  obtain ⟨k, hk, he⟩ : ∃ k, k ≠ BadKind.follow ∧ mgmtFrame m data s = exchangeBad m k (sideBad m k s) := by
    obtain rfl | rfl := hd
    · exact ⟨.empty, by decide, rfl⟩
    · exact ⟨.unit, by decide, rfl⟩
  obtain ⟨h1, agent, h2⟩ := sideBad_ends hk m s
  have hx' : mgmtExchange (sideBad m k s) m = some x := by rw [h2]; exact hx
  obtain ⟨h3, h4, h5⟩ := exchangeBad_ends (s := sideBad m k s) hk (by rw [h2]; exact hs) hx'
  rw [he]
  exact ⟨fun id seg msg gap e => h3.trans (h1 id seg msg gap e), h4, fun e => (congrArg (mgmtExchange · m) (h5 e)).trans hx'⟩

/-- Settles O45. -/
theorem readyReplyBelongsToItsRequest : Obligations.ReadyReplyBelongsToItsRequest := by
  refine ⟨fun s m x reply hs hx => ⟨?_, fun k hk => ?_, answer_channel _ _ _, rfl⟩, ?_, ?_⟩
  · exact (answer_found hs hx reply m).trans (if_pos rfl)
  · exact (answer_found hs hx reply k).trans (if_neg hk)
  · rintro m f rest p q s hs h rfl rfl hx
    have hgo := routerTakes_mgmt h
    obtain ⟨P, hP, -, hroom, hq, -, -⟩ := taken_split s (mgmtPort m) rest
    rw [hP] at hgo ⊢
    rw [hgo]
    have hx' : mgmtExchange { s with ports := P } m = none := hx
    refine ⟨fun msg hd hne => ?_, fun k msg hd h1 h63 hl hr => ?_, fun ctl more hd hc hside => ?_⟩
    · have he : mgmtFrame m f.data { s with ports := P } = openUnit m msg { s with ports := P } :=
        mgmtFrame_unit_new hx' (by rw [hd]; exact readSsx_unitData (List.length_pos_iff.2 hne) _)
      rw [he, openUnit_eq (s := { s with ports := P }) hs]
      exact ⟨_, _, rfl, rfl, rfl, rfl, rfl, rfl, rfl, rfl, requestJudged_judgedWork s msg⟩
    · have he : mgmtFrame m f.data { s with ports := P } = openLead m k msg { s with ports := P } :=
        mgmtFrame_lead_new hx' (by rw [hd]; exact readSsx_lead h1 h63 hl _)
      obtain ⟨t, e, h1, h2, h3⟩ := openLead_eq (s := { s with ports := P }) hs (hroom hr) k msg
      exact ⟨t, _, congrArg _ (he.trans e), h3, h1, rfl, rfl, rfl, rfl, rfl, rfl, rfl, rfl, rfl, rfl, rfl, rfl,
        h2.trans (congrArg (· ++ _) hq)⟩
    · have hs' : sideSending { s with ports := P } m = false := Bool.eq_false_iff.2 fun hh => by
        obtain ⟨id, seg, msg, gap, e⟩ := (sideSending_iff _ _).1 hh
        exact hside id seg msg gap e
      rw [hd]
      exact congrArg _ (mgmtFrame_dropped hx' hs' (readSsx_high hc _).1 (readSsx_high hc _).2)
  · rintro m f rest x p q s hs h rfl rfl hx
    have hgo := routerTakes_mgmt h
    obtain ⟨P, hP, -, hroom, hq, -, -⟩ := taken_split s (mgmtPort m) rest
    rw [hP] at hgo ⊢
    rw [hgo]
    have hx' : mgmtExchange { s with ports := P } m = some x := hx
    refine ⟨fun msg hd hh hside => ?_, fun code more k hf hr => ?_, fun i bytes hst hw hb h63 hd h1 h7 hfull => ?_,
      fun hd => ?_⟩
    · obtain ⟨code, more, rfl, hcode⟩ : ∃ code more, msg = code :: more ∧ (code = byte 2 ∨ code = byte 3) := by
        cases msg with
        | nil => exact absurd hh (by simp)
        | cons a l => exact ⟨a, l, rfl, hh.imp Option.some.inj Option.some.inj⟩
      have he : mgmtFrame m f.data { s with ports := P } = setSide m (.waiting (code :: more)) { s with ports := P } :=
        mgmtFrame_side hx' (by rw [hd]; exact readSsx_unitData (List.length_pos_iff.2 (List.cons_ne_nil code more)) _)
          ((sideRequest_iff more).2 hcode) ((sideAbsent_iff { s with ports := P } m).2 hside)
      rw [he]
      refine ⟨_, rfl, by cases m <;> rfl, fun j hj => ?_, by cases m <;> rfl⟩
      cases m <;> cases j <;> first | exact absurd rfl hj | rfl
    · have he : mgmtFrame m f.data { s with ports := P } =
          looseRefusal m (mgmtPair s m).response code .busy { s with ports := P } := by
        refine refuseBusy_eq hx' (more := more) ?_
        obtain ⟨hd, hn⟩ | ⟨hd, h1, h63, hl⟩ := hf
        · refine .inl ⟨by rw [hd]; exact readSsx_unitData (by simp) _, Bool.eq_false_iff.2 fun hh => ?_⟩
          obtain ⟨ha, hb⟩ := Bool.and_eq_true_iff.1 hh
          obtain ⟨h2, h3⟩ | hn := hn
          · exact ((sideRequest_iff more).1 ha).elim h2 h3
          · exact hn ((sideAbsent_iff _ _).1 hb)
        · exact .inr ⟨k, by rw [hd]; exact readSsx_lead h1 h63 (by exact congrArg Nat.succ hl) _⟩
      rw [he]
      refine ⟨_, rfl, looseRefusal_touches _ _ _ _ _, ?_⟩
      rw [looseRefusal_room (hroom hr), offerState_queued (hroom hr), hq]
      rfl
    · have hread : readSsx x.seg.count f.data = .follow i bytes := by rw [hd, readSsx_follow h63 h1 hfull]
      rw [mgmtFrame_follow (s := { s with ports := P }) hx' hst hread]
      refine ⟨fun hp hi => ⟨fun hn ha => ?_, fun hn => ⟨_, requestJudged_judgedWork s _, ?_⟩⟩, fun hi hr => ?_⟩
      · exact congrArg _ (gatherFollow_more hp hi hn ha)
      · exact congrArg _ (gatherFollow_last hp hi hn hb hw)
      · obtain rfl : x.chan = m := (mgmtExchange_some hx).2
        have hr' : hasRoom (closeMgmt x.id { s with ports := P }) (mgmtPort x.chan) := hroom hr
        rw [gatherFollow_broken hi, requestBroken, looseRefusal_room hr']
        refine ⟨_, rfl, ?_, ?_, (offerState_queued hr' _).trans (congrArg (· ++ _) hq)⟩
        · rw [offerState_touches]
          rfl
        · rw [offerState_touches]
          rfl
    · exact ⟨_, rfl, mgmtFrame_broken (s := { s with ports := P }) hs hx' hd⟩

end Sys2Proof.Machine
end

section
/-! The gateway as the sender of replies and side answers: how they begin, and the tool's pace frames for them (R53, R56,
R152, R153). -/

namespace Sys2Proof.Machine

open Sys2Proof Sys2Proof.Safety

variable {s : State} {m : Mgmt} {f : Frame} {rest : List Frame} {msg data bytes reply : List Byte} {x y : MgmtExchange}
  {p : Port}

/-! ### The first frame of a reply -/

theorem firstFrame_unit (h : msg.length ≤ 7) (stamp : Nat) : firstFrame msg stamp = (byte 0 :: msg, .last) := if_pos h

theorem firstFrame_lead (h : 7 < msg.length) (stamp : Nat) :
    firstFrame msg stamp = (byte (64 + (msg.length - 1) / 7) :: msg.take 7, .turn stamp) := if_neg (by omega)

theorem firstSeg_unit (h : msg.length ≤ 7) (g : Seg) (stamp : Nat) :
    firstSeg g msg stamp = { g.reset with len := msg.length } := if_pos h

theorem firstSeg_lead (h : 7 < msg.length) (g : Seg) (stamp : Nat) :
    firstSeg g msg stamp = g.lead ((msg.length - 1) / 7) stamp := if_neg (by omega)

theorem beginReply_room (hs : exchangeLaw s) (hx : mgmtExchange s m = some x) (hr : hasRoom s (mgmtPort m))
    (reply : List Byte) : ∃ t, beginReply x reply s = t ∧
      queued t (mgmtPort m) = queued s (mgmtPort m) ++ [frameOf x.response (firstFrame reply s.part.stamp).1] ∧
      mgmtExchange t m = some { x with
        state := .answering, seg := firstSeg x.seg reply s.part.stamp, work := .ready reply, gapTimer := none } ∧
      t = { s with part := t.part, ports := t.ports, meter := t.meter, exchanges := t.exchanges } := by
  obtain rfl : x.chan = m := (mgmtExchange_some hx).2
  unfold beginReply
  refine ⟨_, offerMgmt_room hr _ _, offerState_queued hr _, ?_, ?_⟩
  · rw [offerState_touches]
    exact (setMgmtExchange_found (s := { s with ports := _, meter := _ }) hs hx (y := { x with
      state := .answering, seg := firstSeg x.seg reply s.part.stamp, work := .ready reply, gapTimer := none }) rfl rfl
      x.chan).trans (if_pos rfl)
  · rw [offerState_touches]
    rfl

theorem managementReplyBegins_ready (hx : mgmtExchange s m = some x) (hst : x.state = .serving)
    (hw : x.work = .ready reply) :
    managementReplyBegins m s = if sideSending s m = true then s else beginReply x reply s := by
  unfold managementReplyBegins
  simp only [hx, hst, hw]

/-! ### The tool's pace frames -/

theorem mgmtFrame_pace {a k g : Nat} (h : readSsx (gatherCount s m) data = .pace a k g) :
    mgmtFrame m data s = mgmtPace m (some (a, k, g)) s := by
  unfold mgmtFrame
  simp only [h]

theorem mgmtPace_side {id a k g : Nat} {seg : Seg} {left : Option Nat} (h : sideOf s m = .sending id seg msg left) :
    mgmtPace m (some (a, k, g)) s = sidePace m id seg msg left a k g s := by
  unfold mgmtPace
  simp only [h]

theorem mgmtPace_reply {a k g : Nat} (h : ∀ id seg msg left, sideOf s m ≠ .sending id seg msg left)
    (hx : mgmtExchange s m = some x) (hst : x.state = .answering) :
    mgmtPace m (some (a, k, g)) s = answeringPace x a k g s := by
  unfold mgmtPace
  cases hside : sideOf s m with
  | sending id seg msg left => exact absurd hside (h id seg msg left)
  | absent => simp only [hx, hst]
  | waiting r => simp only [hx, hst]

theorem answeringPace_ends {a k g : Nat} (h : k = 2 ∨ x.seg.phase ≠ .paceDue) :
    answeringPace x a k g s = closeMgmt x.id s := by
  unfold answeringPace
  split
  · next hp => rw [h.resolve_right fun hn => hn hp, if_neg (by decide), if_neg (by decide)]
  · rfl

theorem sidePace_ends {id a k g : Nat} {seg : Seg} {left : Option Nat} (h : k = 2 ∨ seg.phase ≠ .paceDue) :
    sidePace m id seg msg left a k g s = setSide m .absent s := by
  unfold sidePace
  split
  · next hp => rw [h.resolve_right fun hn => hn hp, if_neg (by decide), if_neg (by decide)]; rfl
  · rfl

theorem answeringPace_wait {a g : Nat} (h : x.seg.phase = .paceDue) :
    answeringPace x a 1 g s = setMgmtExchange { x with seg := { x.seg with timer := some 1000 } } s := by
  rw [answeringPace, if_pos h, if_neg (by decide), if_pos rfl]
  rfl

theorem sidePace_wait {id a g : Nat} {seg : Seg} {left : Option Nat} (h : seg.phase = .paceDue) :
    sidePace m id seg msg left a 1 g s = setSide m (.sending id { seg with timer := some 1000 } msg left) s := by
  rw [sidePace, if_pos h, if_neg (by decide), if_pos rfl]
  rfl

theorem answeringPace_proceed {ctl gap : Byte} (h : x.seg.phase = .paceDue) (hctl : 192 ≤ ctl.toNat) :
    answeringPace x (ctl.toNat - 192) 0 gap.toNat s =
      replyFollows (burst (resumed x.seg ctl gap)) { x with seg := resumed x.seg ctl gap } s := by
  rw [answeringPace, if_pos h, if_pos rfl, resume_eq x.seg ctl gap hctl]

theorem sidePace_proceed {id : Nat} {seg : Seg} {left : Option Nat} {ctl gap : Byte} (h : seg.phase = .paceDue)
    (hctl : 192 ≤ ctl.toNat) : sidePace m id seg msg left (ctl.toNat - 192) 0 gap.toNat s =
      sideFollows (burst (resumed seg ctl gap)) m id (resumed seg ctl gap) msg s := by
  rw [sidePace, if_pos h, if_pos rfl, resume_eq seg ctl gap hctl]

/-- Settles O46. -/
theorem readyReplyBeginsAfterTheSideAnswer : Obligations.ReadyReplyBeginsAfterTheSideAnswer := by
  refine ⟨fun m x reply s h hs hx hst hw => ⟨fun hside => ?_, fun hside hr => ?_⟩, ?_⟩
  · rw [awake_next h rfl, managementReplyBegins_ready hx hst hw, if_pos ((sideSending_iff s m).2 hside)]
  · have hn : ¬sideSending s m = true := fun hh => by
      obtain ⟨id, seg, msg, gap, e⟩ := (sideSending_iff s m).1 hh
      exact hside id seg msg gap e
    obtain ⟨t, e, h1, h2, h3⟩ := beginReply_room hs hx hr reply
    refine ⟨t, ?_, h3, fun hl => ?_, fun hl => ?_⟩
    · rw [awake_next h rfl, managementReplyBegins_ready hx hst hw, if_neg hn, e]
    · rw [firstFrame_unit hl] at h1
      rw [firstSeg_unit hl, ← hw] at h2
      exact ⟨h1, h2⟩
    · rw [firstFrame_lead hl] at h1
      rw [firstSeg_lead hl, ← hw] at h2
      exact ⟨h1, h2⟩
  · rintro m f rest ctl code gap p q s hs h hp rfl rfl
    have hgo := routerTakes_mgmt h
    obtain ⟨P, hP, hroom, -, -, hmark, hrx⟩ := taken_split s (mgmtPort m) rest
    rw [hP] at hgo ⊢
    rw [hgo, mgmtFrame_pace (readSsx_pace hp _)]
    have hctl : 192 ≤ ctl.toNat := hp.2.1
    refine ⟨fun x reply hx hst hw hside => ?_, fun id seg msg left hside => ?_⟩
    · rw [mgmtPace_reply (s := { s with ports := P }) hside hx hst]
      refine ⟨?_, ?_, fun hc => congrArg _ (answeringPace_ends (hc.imp (fun e => by rw [e]; rfl) id))⟩
      · rintro g n rfl hph h1 hn hc63 rfl rfl hr
        have ha := resumed_allow x.seg ctl gap hctl
        have hpl : planned (burst (resumed x.seg ctl gap)) (resumed x.seg ctl gap) =
          followsNow (resumed x.seg ctl gap) := planned_burst h1 hn hc63 ha
        obtain ⟨t, e, f1, f2, f3, f4⟩ := replyFollows_spec (s := { s with ports := P }) (g := resumed x.seg ctl gap)
          (k := burst (resumed x.seg ctl gap)) hs hx hw hn ha (by rw [hpl]; exact hroom _ hr)
        rw [hpl] at f1 f3
        exact ⟨t, congrArg _ ((answeringPace_proceed hph hctl).trans e), f1.trans (congrArg (· ++ _) hmark), f2.trans hrx,
          f3, f4⟩
      · rintro rfl hph
        exact congrArg _ (answeringPace_wait hph)
    · rw [mgmtPace_side (s := { s with ports := P }) hside]
      refine ⟨?_, ?_, fun hc => congrArg _ (sidePace_ends (hc.imp (fun e => by rw [e]; rfl) fun h => h))⟩
      · rintro g n rfl hph h1 hn hc63 rfl rfl hr
        have ha := resumed_allow seg ctl gap hctl
        have hpl : planned (burst (resumed seg ctl gap)) (resumed seg ctl gap) =
          followsNow (resumed seg ctl gap) := planned_burst h1 hn hc63 ha
        obtain ⟨t, e, f1, f2, f3, f4, f5⟩ := sideFollows_spec (s := { s with ports := P }) (m := m) (id := id) (msg := msg)
          (g := resumed seg ctl gap) (k := burst (resumed seg ctl gap)) hn ha (by rw [hpl]; exact hroom _ hr)
        rw [hpl] at f1 f3
        exact ⟨t, congrArg _ ((sidePace_proceed hph hctl).trans e), f1.trans (congrArg (· ++ _) hmark), f2.trans hrx,
          f3, f4, f5⟩
      · rintro rfl hph
        exact congrArg _ (sidePace_wait hph)

end Sys2Proof.Machine
end

section
/-! The requests that read the part, the attention conditions, and the side answers (R13, R153, R155 to R157). -/

namespace Sys2Proof.Machine

open Sys2Proof Sys2Proof.Safety

variable {s t : State} {m : Mgmt} {msg : List Byte} {x : MgmtExchange} {n : Nat}

/-! ### Requests that wait -/

/-- The row of a request that waits acts on the exchange that waits for it. -/
theorem serve_waits {code : Nat} (h : RequestWaits s m code x) (f : MgmtExchange → State → State) :
    serve m code f s = f x s := by
  have : servable s m code = some x := by
    unfold servable
    rw [h.pending]
    exact if_pos ⟨h.awake, h.serving, h.unserved, h.first⟩
  rw [serve, this]

theorem accept_waits {code : Nat} (h : RequestWaits s m code x) (fields : List Byte) (z : State) :
    accept x fields z = answer x.id ((byte code + 0x80) :: fields) z := by
  rw [accept, positiveBytes, h.codeIs]

theorem refuse_waits {code : Nat} (h : RequestWaits s m code x) (r : Refuse) (z : State) :
    refuse x r z = answer x.id [byte 0xFF, byte code, byte (refuseCode r)] z := by
  rw [refuse, refusalBytes, h.codeIs]

/-! ### The attention conditions (R157) -/

theorem recordLow_eq (s : State) : recordLow s = decide (112 ≤ occupied s) :=
  decide_eq_decide.2 (by unfold freeRoom; omega)

theorem attentionPending_eq (s : State) : attentionPending s = (List.range 9).filter (attentionRaised s) := by
  have h0 : attentionRaised s 0 = false := rfl
  have hr : (List.range 9).filter (attentionRaised s) = [1, 2, 3, 4, 5, 6, 7, 8].filter (attentionRaised s) :=
    List.filter_cons_of_neg (by rw [h0]; decide)
  have ha : attentionSet s = [1, 2, 3, 4, 5, 6, 7, 8].map fun i => (i, attentionRaised s i) := by
    rw [attentionSet, recordLow_eq]
    rfl
  rw [hr, attentionPending, ha, List.filter_map, List.map_map]
  exact List.map_id' _

theorem attentionRaised_above (s : State) {j : Nat} (h : 9 ≤ j) : attentionRaised s j = false := by
  match j, h with
  | j + 9, _ => rfl

theorem attentionRaised_of (ha : t.agent.attention = s.agent.attention) (ho : occupied t = occupied s) (j : Nat) :
    attentionRaised t j = attentionRaised s j := by
  match j with
  | 0 | 1 | 2 | 3 | 4 | 5 | 6 | 7 | 8 => simp only [attentionRaised, ha, ho]
  | j + 9 => rfl

theorem firstAttention_raised (s : State) : firstRaised s (firstAttention s) := by
  have hf : firstAttention s = ((List.range 9).find? (attentionRaised s)).getD 0 := by
    rw [firstAttention, attentionPending_eq, List.headD_eq_head?_getD, List.head?_filter]
  rw [hf]
  cases h : (List.range 9).find? (attentionRaised s) with
  | none =>
    refine ⟨.inl rfl, fun j _ => ?_⟩
    by_cases hj : j < 9
    · exact Bool.eq_false_iff.2 (List.find?_eq_none.1 h j (List.mem_range.2 hj))
    · exact attentionRaised_above s (by omega)
  | some n =>
    obtain ⟨hp, -, hlt⟩ := List.find?_range_eq_some.1 h
    have h0 : n ≠ 0 := fun e => by subst e; cases hp
    exact ⟨.inr hp, fun j hj => by simpa using hlt j (hj.resolve_right h0)⟩

theorem firstAttention_le (s : State) : firstAttention s ≤ 8 := by
  obtain ⟨h, -⟩ := firstAttention_raised s
  by_contra hn
  obtain h | h := h
  · omega
  · rw [attentionRaised_above s (by omega)] at h
    cases h

/-- Taking a condition clears it if it is latched: RECORD_LOW is a level (R157). -/
theorem takeAttention_taken (s : State) : attentionTaken s (takeAttention s) (firstAttention s) := by
  have hle := firstAttention_le s
  unfold takeAttention
  generalize firstAttention s = n at hle ⊢
  intro j
  have hocc : occupied { s with agent := { s.agent with attention := clearAttention s.agent.attention n } } =
    occupied s := rfl
  match j with
  | 0 | 1 | 2 | 3 | 4 | 5 | 6 | 8 => interval_cases n <;> simp [attentionRaised, clearAttention]
  | 7 => simp [attentionRaised, hocc]
  | j + 9 => rfl

theorem attentionPending_taken (s : State) :
    (attentionPending (takeAttention s)).length = leftPending s (firstAttention s) := by
  have htaken := takeAttention_taken s
  obtain ⟨hn, -⟩ := firstAttention_raised s
  have hle := firstAttention_le s
  rw [attentionPending_eq, leftPending, attentionCount]
  generalize firstAttention s = n at htaken hn hle ⊢
  by_cases h : n = 0 ∨ n = 7
  · rw [if_pos h]
    refine congrArg List.length (List.filter_congr fun j _ => ?_)
    rw [htaken j]
    obtain rfl | rfl := h
    · by_cases hj : j = 0
      · subst hj; rfl
      · simp [hj]
    · by_cases hj : j = 7 <;> simp [hj]
  · obtain ⟨h0, h7⟩ := not_or.1 h
    have hmem : n ∈ (List.range 9).filter (attentionRaised s) :=
      List.mem_filter.2 ⟨List.mem_range.2 (by omega), hn.resolve_left h0⟩
    have hnd : ((List.range 9).filter (attentionRaised s)).Nodup := List.nodup_range.filter _
    rw [if_neg h, ← List.length_erase_of_mem hmem, hnd.erase_eq_filter, List.filter_filter]
    refine congrArg List.length (List.filter_congr fun j _ => ?_)
    rw [htaken j]
    by_cases hj : j = n
    · subst hj; simp [h7]
    · simp [hj]

theorem attentionFields_eq (s : State) :
    attentionFields s = [byte (firstAttention s), byte (leftPending s (firstAttention s))] := by
  rw [attentionFields, attentionPending_taken]

/-! ### The fields of a Status Read (R156) -/

theorem signalBytes_eq (g : SignalState) : signalBytes g = [yesNoByte (!g.fresh), yesNoByte (!g.available)] := by
  unfold signalBytes
  cases g.fresh <;> cases g.available <;> rfl

@[simp] theorem beBytes_length (k n : Nat) : (beBytes k n).length = k := by
  induction k generalizing n with
  | zero => rfl
  | succ k ih => rw [beBytes, List.length_append, ih, List.length_singleton]

theorem statusFields_length (s : State) : (statusFields s).length = 44 := by
  have h : (s.signals.toList.flatMap signalBytes).length = 8 := by
    rw [List.length_flatMap, List.map_congr_left (g := fun _ => 2) fun g _ => by rw [signalBytes_eq]; rfl]
    simp
  unfold statusFields
  simp only [List.length_append, List.length_cons, List.length_nil, beBytes_length, List.length_map, h, Vector.length_toList]

theorem statusFields_eq (h : s.part.awake = true) : statusFields s =
    [byte 0, portStatusByte s.ports.w.status, portStatusByte s.ports.e.status, portStatusByte s.ports.c.status] ++
      beBytes 4 s.record.partTime ++
      [yesNoByte s.lines.ignon, yesNoByte s.lines.stlock, yesNoByte s.lines.tooldet, yesNoByte s.lines.tooldetChanged,
        yesNoByte s.lines.ignonChanged, byte (conditions s).toNat] ++
      s.signals.toList.flatMap (fun g => [yesNoByte (!g.fresh), yesNoByte (!g.available)]) ++
      [byte s.grants.failures] ++ beBytes 2 (lockoutSeconds s) ++
      [byte s.grants.grants.length, byte ((s.window 0).isSome.toNat + (s.window 1).isSome.toNat),
        yesNoByte (decide (s.store.queue ≠ [])), byte s.store.queue.length] ++
      s.store.fallback.toList.map yesNoByte ++ beBytes 2 (liveSet s) ++ [lockByte s.tables.ports.lock] ++
      [byte s.record.kept.length, byte (settling s).length, byte (reservations s)] ++ beBytes 2 s.record.unrecorded := by
  have hq : (!s.store.queue.isEmpty) = decide (s.store.queue ≠ []) := by cases s.store.queue <;> rfl
  have hs : signalBytes = fun g => [yesNoByte (!g.fresh), yesNoByte (!g.available)] := funext signalBytes_eq
  unfold statusFields
  rw [hq, hs, h]
  simp only [List.append_assoc, List.cons_append, List.nil_append, if_true]
  rfl

/-- Settles O48. -/
theorem readsOfThePartAreAnswered : Obligations.ReadsOfThePartAreAnswered := by
  refine fun m x s => ⟨fun h => ?_, fun h => ?_, fun h => ?_⟩
  · exact congrArg _ ((serve_waits h _).trans (accept_waits h _ s))
  · refine congrArg _ ((serve_waits h _).trans ((accept_waits h _ (clearFlags s)).trans ?_))
    rw [statusFields_eq h.awake]
    rfl
  · refine ⟨takeAttention s, firstAttention s, ?_, firstAttention_raised s, takeAttention_taken s, rfl⟩
    refine congrArg _ ((serve_waits h _).trans ((accept_waits h _ (takeAttention s)).trans ?_))
    rw [attentionFields_eq]
    rfl

/-! ### The side answer (R153) -/

/-- A side answer that begins, with room for its first frame. -/
theorem beginSide_room (hr : hasRoom s (mgmtPort m)) (msg : List Byte) : ∃ t, beginSide m msg s = t ∧
    queued t (mgmtPort m) = queued s (mgmtPort m) ++ [frameOf (mgmtPair s m).response (firstFrame msg 0).1] ∧
    sideOf t m = .sending s.part.stamp (firstSeg .fresh msg (s.part.stamp + 1)) msg none ∧
    t.agent.attention = s.agent.attention ∧
    t = { s with part := t.part, ports := t.ports, meter := t.meter, agent := t.agent } := by
  have hr' : hasRoom (nextStamp (nextStamp s)) (mgmtPort m) := hr
  have hfirst : (firstFrame msg (s.part.stamp + 1)).1 = (firstFrame msg 0).1 := by
    unfold firstFrame
    split <;> rfl
  unfold beginSide
  refine ⟨_, offerMgmt_room hr' _ _, ?_, ?_, ?_, ?_⟩
  · rw [← hfirst]
    have hq := offerState_queued hr' (mgmtFrameOut m .side (mgmtPair (nextStamp (nextStamp s)) m).response s.part.stamp
      (firstFrame msg (s.part.stamp + 1)).1 (firstFrame msg (s.part.stamp + 1)).2)
    cases m <;> exact hq
  · cases m <;> rfl
  · rw [offerState_touches]
    cases m <;> rfl
  · rw [offerState_touches]
    cases m <;> rfl

theorem sideBegins_waiting {request : List Byte} (h : sideOf s m = .waiting request) : sideBegins m s =
    if answering s m then s else beginSide m (sideMessage s request) (sideServed request s) := by
  unfold sideBegins
  simp only [h]

/-- Settles O47. -/
theorem sideAnswerTakesItsContentAsItBegins : Obligations.SideAnswerTakesItsContentAsItBegins := by
  intro m s h hr
  refine ⟨fun request x hside hx hst => ?_, fun hx => ?_⟩
  · rw [awake_next h rfl, sideBegins_waiting hside, if_pos]
    unfold answering
    rw [hx]
    exact beq_iff_eq.2 hst
  · have hn : ¬answering s m = true := fun ha => by
      unfold answering at ha
      cases hm : mgmtExchange s m with
      | none => rw [hm] at ha; cases ha
      | some x => rw [hm] at ha; exact hx x hm (beq_iff_eq.1 ha)
    refine ⟨fun hside => ?_, fun hside => ?_⟩
    · obtain ⟨t, e, h1, h2, h3, h4⟩ :=
        beginSide_room (s := takeAttention s) (m := m) hr (positiveBytes (byte 3) (attentionFields s))
      have hocc : occupied t = occupied (takeAttention s) := by rw [h4]; rfl
      have hmsg : positiveBytes (byte 3) (attentionFields s) =
          [byte 0x83, byte (firstAttention s), byte (leftPending s (firstAttention s))] := by
        rw [attentionFields_eq]
        rfl
      refine ⟨t, firstAttention s, ?_, firstAttention_raised s, ?_, fun j => ?_,
        ⟨_, _, h2.trans (congrArg (Side.sending _ _ · none) hmsg)⟩, ?_⟩
      · rw [awake_next h rfl, sideBegins_waiting hside, if_neg hn, ← e]
        rfl
      · rw [hmsg, firstFrame_unit (by simp)] at h1
        cases m <;> exact h1
      · exact (attentionRaised_of h3 hocc j).trans (takeAttention_taken s j)
      · rw [h4]
        rfl
    · have hlen : (byte 0x82 :: statusFields s).length = 45 := congrArg Nat.succ (statusFields_length s)
      obtain ⟨t, e, h1, h2, h3, h4⟩ :=
        beginSide_room (s := clearFlags s) (m := m) hr (byte 0x82 :: statusFields s)
      rw [firstFrame_lead (by omega), hlen] at h1
      rw [firstSeg_lead (by omega), hlen] at h2
      refine ⟨t, ?_, statusFields_length s, ?_, ?_, ⟨_, _, h2, rfl, rfl⟩, ?_⟩
      · rw [awake_next h rfl, sideBegins_waiting hside, if_neg hn, ← e]
        rfl
      · cases m <;> exact h1
      · rw [h4]
        rfl
      · rw [h4]
        rfl

end Sys2Proof.Machine
end

section
/-! The lists, the tables and the Access Record as they are read (R10, R70, R105, R130, R148, R158, R168 to R172). -/

namespace Sys2Proof.Machine

open Sys2Proof Sys2Proof.Safety

variable {s t : State} {m : Mgmt} {x : MgmtExchange} {n : Nat}

/-! ### Named values as their places -/

theorem classByte_place (c : ServiceClass) :
    classByte c = place [.observe, .clear, .actuate, .configure, .reprogram, .forbidden] c := by
  cases c <;> rfl

theorem roleByte_place (r : Option Role) :
    roleByte r = orOnes r (place [.opening, .block, .closing, .erase, .other]) := by
  cases r with
  | none => rfl
  | some r => cases r <;> rfl

theorem exchStateByte_place (x : ExchState) :
    exchStateByte x = place [.inbound, .staging, .stagedHold, .outbound, .awaiting, .replying] x := by
  cases x <;> rfl

theorem phaseByte_place (x : Phase) : phaseByte x = place [.none, .paceDue, .followsDue] x := by
  cases x <;> rfl

theorem mgmtByte_place (x : Mgmt) : mgmtByte x = place [.W, .C] x := by cases x <;> rfl

theorem mgmtStateByte_place (x : MgmtState) : mgmtStateByte x = place [.receiving, .serving, .answering] x := by
  cases x <;> rfl

theorem windowStateByte_place (x : WindowState) :
    windowStateByte x = place [.openPending, .active, .suspended, .closing] x := by
  cases x <;> rfl

theorem grantStateByte_place (x : GrantState) :
    grantStateByte x = place [.checking, .recording, .active, .held] x := by
  cases x <;> rfl

theorem closeCauseByte_place (x : CloseCause) :
    closeCauseByte x = place [.expired, .revoked, .presence, .consumed, .withdrawnSlot, .restart] x := by
  cases x <;> rfl

theorem outcomeByte_place (x : Outcome) : outcomeByte x = place [.complete, .failed, .aborted] x := by cases x <;> rfl

theorem endCauseByte_place (x : EndCause) : endCauseByte x =
    place [.none, .refused, .closeRefused, .noReply, .broken, .congested, .regionBarred, .condition, .idle, .portDown,
      .revoked, .presence, .withdrawnSlot, .restart] x := by
  cases x <;> rfl

theorem optByte_orOnes {k : Nat} (o : Option (Fin k)) : optByte (o.map (·.val)) = orOnes o (fun i => byte i.val) := by
  cases o <;> rfl

theorem timerBytes_field (o : Option Nat) : timerBytes o = timerField o := by cases o <;> rfl

@[simp] theorem timerBytes_length (o : Option Nat) : (timerBytes o).length = 2 := by cases o <;> simp [timerBytes]

@[simp] theorem replyTimerBytes_length (o : ReplyTimer) : (replyTimerBytes o).length = 3 := by
  cases o <;> simp [replyTimerBytes]

/-! ### The items of the lists (R70, R105, R130, R170, R171) -/

/-- The reply timer of a channel exchange item. -/
theorem channelItem_timer (y : ChannelExchange) : ((channelItem y).drop 13).take 3 = replyTimerBytes y.timer := by
  unfold channelItem
  rw [beBytes_two]
  show ((replyTimerBytes y.timer ++ _).take 3) = _
  exact List.take_left' (replyTimerBytes_length _)

theorem channelItem_allowance (y : ChannelExchange) : (channelItem y)[9]? = some (allowanceByte y.seg.allow) := rfl

theorem channelItem_layout (y : ChannelExchange) : channelItem y = [byte 0, byte y.channel.val, y.code,
      place [.observe, .clear, .actuate, .configure, .reprogram, .forbidden] y.cls,
      orOnes y.role (place [.opening, .block, .closing, .erase, .other]),
      place [.inbound, .staging, .stagedHold, .outbound, .awaiting, .replying] y.state,
      place [.none, .paceDue, .followsDue] y.seg.phase, byte y.seg.count, byte y.seg.next,
      (channelItem y).getD 9 0, byte y.seg.gap] ++ beBytes 2 y.seg.len ++
    ((channelItem y).drop 13).take 3 ++
    [if y.extended then byte 1 else byte 0, byte y.reloads, orOnes y.window (fun w => byte w.val)] := by
  have h9 : (channelItem y).getD 9 0 = allowanceByte y.seg.allow := rfl
  rw [channelItem_timer, h9, ← classByte_place, ← roleByte_place, ← exchStateByte_place, ← phaseByte_place,
    ← optByte_orOnes]
  rfl

theorem channelItem_length (y : ChannelExchange) : (channelItem y).length = 19 := by
  simp [channelItem]

theorem windowItem_length (w : Fin 2) (v : Window) : (windowItem w v).length = 37 := by
  simp [windowItem]

/-- The parts of a window item that do not always stand in the window itself: its range, its run, and the last block it
completed. -/
def windowRangeBytes (v : Window) : List Byte := beBytes 4 (v.range.getD (0, 0)).1 ++ beBytes 4 (v.range.getD (0, 0)).2

/-- The numbers of a window's run, zero where it has none. -/
def windowRunBytes (r : WindowRun) : List Byte :=
  beBytes 2 r.bmax ++ beBytes 5 r.next ++ beBytes 4 r.remaining ++ [byte r.expected]

/-- The last completed block of a run, zero where there is none. -/
def windowLastBytes (r : WindowRun) : List Byte :=
  [yesNoByte r.last.isSome, byte (r.last.getD { start := 0, count := 0, counter := 0 }).counter] ++
    beBytes 2 (r.last.getD { start := 0, count := 0, counter := 0 }).count

/-- The run an item shows where a window has none. -/
def noRun : WindowRun := { bmax := 0, next := 0, remaining := 0, expected := 0, last := none, erase := false }

theorem windowItem_parts (w : Fin 2) (v : Window) : windowItem w v =
    [byte 2, byte w.val, byte v.channel.val, byte v.grant, windowStateByte v.state] ++ (windowRangeBytes v ++
      (windowRunBytes (v.run.getD noRun) ++ (windowLastBytes (v.run.getD noRun) ++
        (yesNoByte (v.run.getD noRun).erase :: (timerBytes v.grace ++ timerBytes v.idle ++ timerBytes v.hold ++
          [optByte (v.buffer.map (·.val))]))))) := by
  simp only [windowItem, windowRangeBytes, windowRunBytes, windowLastBytes, noRun, List.append_assoc, List.cons_append,
    List.nil_append]

@[simp] theorem windowRangeBytes_length (v : Window) : (windowRangeBytes v).length = 8 := by simp [windowRangeBytes]

@[simp] theorem windowRunBytes_length (r : WindowRun) : (windowRunBytes r).length = 12 := by simp [windowRunBytes]

@[simp] theorem windowLastBytes_length (r : WindowRun) : (windowLastBytes r).length = 4 := by simp [windowLastBytes]

theorem windowItem_range (w : Fin 2) (v : Window) : ((windowItem w v).drop 5).take 8 = windowRangeBytes v := by
  rw [windowItem_parts]
  exact List.take_left' (windowRangeBytes_length v)

theorem windowItem_drop13 (w : Fin 2) (v : Window) : (windowItem w v).drop 13 = windowRunBytes (v.run.getD noRun) ++
    (windowLastBytes (v.run.getD noRun) ++ (yesNoByte (v.run.getD noRun).erase :: (timerBytes v.grace ++
      timerBytes v.idle ++ timerBytes v.hold ++ [optByte (v.buffer.map (·.val))]))) := by
  rw [show 13 = 5 + 8 from rfl, ← List.drop_drop, windowItem_parts]
  exact List.drop_left' (windowRangeBytes_length v)

theorem windowItem_run (w : Fin 2) (v : Window) :
    ((windowItem w v).drop 13).take 12 = windowRunBytes (v.run.getD noRun) := by
  rw [windowItem_drop13]
  exact List.take_left' (windowRunBytes_length _)

theorem windowItem_drop25 (w : Fin 2) (v : Window) : (windowItem w v).drop 25 = windowLastBytes (v.run.getD noRun) ++
    (yesNoByte (v.run.getD noRun).erase :: (timerBytes v.grace ++ timerBytes v.idle ++ timerBytes v.hold ++
      [optByte (v.buffer.map (·.val))])) := by
  rw [show 25 = 13 + 12 from rfl, ← List.drop_drop, windowItem_drop13]
  exact List.drop_left' (windowRunBytes_length _)

theorem windowItem_last (w : Fin 2) (v : Window) :
    ((windowItem w v).drop 25).take 4 = windowLastBytes (v.run.getD noRun) := by
  rw [windowItem_drop25]
  exact List.take_left' (windowLastBytes_length _)

theorem windowItem_drop29 (w : Fin 2) (v : Window) : (windowItem w v).drop 29 =
    yesNoByte (v.run.getD noRun).erase :: (timerBytes v.grace ++ timerBytes v.idle ++ timerBytes v.hold ++
      [optByte (v.buffer.map (·.val))]) := by
  rw [show 29 = 25 + 4 from rfl, ← List.drop_drop, windowItem_drop25]
  exact List.drop_left' (windowLastBytes_length _)

theorem windowItem_drop30 (w : Fin 2) (v : Window) : (windowItem w v).drop 30 = timerField v.grace ++
    timerField v.idle ++ timerField v.hold ++ [orOnes v.buffer (fun b => byte b.val)] := by
  rw [show 30 = 29 + 1 from rfl, ← List.drop_drop, windowItem_drop29, timerBytes_field, timerBytes_field, timerBytes_field,
    optByte_orOnes]
  rfl

theorem windowItem_erase (w : Fin 2) (v : Window) :
    (windowItem w v)[29]? = some (yesNoByte (v.run.getD noRun).erase) := by
  have h : ((windowItem w v).drop 29)[0]? = (windowItem w v)[29]? := List.getElem?_drop
  rw [← h, windowItem_drop29]
  rfl

/-- A window that has no run shows zeros in its place. -/
theorem windowItem_noRun {v : Window} (w : Fin 2) (h : v.run = none) :
    ((windowItem w v).drop 13).take 17 = List.replicate 17 0 := by
  rw [windowItem_drop13, h]
  rfl

theorem grantItem_activation (g : Grant) : (grantItem g).drop 12 = activationBytes g.activation := by
  unfold grantItem
  rfl

theorem grantItem_length (g : Grant) : (grantItem g).length = 16 := by
  have h : (activationBytes g.activation).length = 4 := by cases g.activation <;> simp [activationBytes]
  simp [grantItem, h]

/-! ### The lists as they are read -/

theorem windowItems_read (s : State) : (windowItems s).flatten =
    ((s.window 0).map (windowItem 0)).getD [] ++ ((s.window 1).map (windowItem 1)).getD [] := by
  unfold windowItems
  cases s.window 0 <;> cases s.window 1 <;> simp

theorem windowItems_count (s : State) :
    (windowItems s).length = (s.window 0).isSome.toNat + (s.window 1).isSome.toNat := by
  unfold windowItems
  cases s.window 0 <;> cases s.window 1 <;> rfl

theorem trafficFields_eq (s : State) : trafficFields s =
    byte (s.exchanges.length + (s.window 0).isSome.toNat + (s.window 1).isSome.toNat) ::
      (s.exchanges.flatMap exchangeItem ++ ((s.window 0).map (windowItem 0)).getD [] ++
        ((s.window 1).map (windowItem 1)).getD []) := by
  unfold trafficFields
  simp only [List.length_append, List.length_map, windowItems_count, List.flatten_append, windowItems_read,
    List.flatMap_def, Nat.add_assoc, List.append_assoc]

/-! ### Table Read (R158) -/

theorem tableRead_fields {k : TableId} {copy : Nat} (hn : n < 256) (hc : copy < 256)
    (hb : x.buffer = [byte 0x07, byte (tableNumber k), byte n, byte copy]) :
    tableReadFields s (fieldAt x.buffer 1 1) (fieldAt x.buffer 2 1) (fieldAt x.buffer 3 1) =
      (entryIndex k n).bind fun i =>
        if copy = 0 then some ([byte (tableNumber k), byte n, byte copy] ++ workingRead s k i)
        else if copy = 1 then some ([byte (tableNumber k), byte n, byte copy] ++ storedRead s k i)
        else none := by
  have h1 : fieldAt x.buffer 1 1 = tableNumber k := by
    rw [hb, fieldAt_cons, fieldAt_byte, toNat_byte, Nat.mod_eq_of_lt (tableNumber_lt k)]
  have h2 : fieldAt x.buffer 2 1 = n := by
    rw [hb, fieldAt_cons, fieldAt_cons, fieldAt_byte, toNat_byte, Nat.mod_eq_of_lt hn]
  have h3 : fieldAt x.buffer 3 1 = copy := by
    rw [hb, fieldAt_cons, fieldAt_cons, fieldAt_cons, fieldAt_byte, toNat_byte, Nat.mod_eq_of_lt hc]
  rw [h1, h2, h3, tableReadFields, readTable_number]
  cases hi : entryIndex k n <;> simp only [hi, Option.bind_none, Option.bind_some]

theorem tableRead_some {fields : List Byte} (h : RequestWaits s m 0x07 x)
    (hf : tableReadFields s (fieldAt x.buffer 1 1) (fieldAt x.buffer 2 1) (fieldAt x.buffer 3 1) = some fields) :
    exec (.tableRead m) s = .next (answer x.id (byte 0x87 :: fields) s) := by
  refine congrArg _ ((serve_waits h _).trans ?_)
  rw [tableRead, hf]
  exact accept_waits h _ s

theorem tableRead_none (h : RequestWaits s m 0x07 x)
    (hf : tableReadFields s (fieldAt x.buffer 1 1) (fieldAt x.buffer 2 1) (fieldAt x.buffer 3 1) = none) :
    exec (.tableRead m) s = .next (answer x.id [byte 0xFF, byte 0x07, byte 0x09] s) := by
  refine congrArg _ ((serve_waits h _).trans ?_)
  rw [tableRead, hf]
  exact refuse_waits h _ s

/-! ### The Access Record (R148, R172) -/

theorem detailBytes_length (d : Detail) : (detailBytes d).length ≤ 14 := by
  cases d <;> simp [detailBytes]

/-- An entry's details fill the last 14 bytes of its image. -/
theorem padTo_length {k : Nat} {l : List Byte} (h : l.length ≤ k) : (padTo k l).length = k := by
  rw [padTo, List.length_append, List.length_replicate]
  omega

theorem entryBytes_length (e : Entry) : (entryBytes e).length = 30 := by
  simp [entryBytes, padTo_length (detailBytes_length e.detail)]

theorem entryBytes_kind (e : Entry) : (entryBytes e)[8]? = some (kindByte e.detail) := rfl

theorem entryBytes_details (e : Entry) : (entryBytes e).drop 16 = padTo 14 (detailBytes e.detail) := rfl

theorem presenceByte_eq (e : Entry) : presenceByte e = byte ((if e.grant = none then 0 else 1) +
    (if e.slot = none then 0 else 2) + (if e.channel = none then 0 else 4) + if e.unrecorded = 0 then 0 else 8) := by
  unfold presenceByte
  cases e.grant <;> cases e.slot <;> cases e.channel <;> rfl

/-- Settles O50. -/
theorem recordReadReturnsTheOldestEntries : Obligations.RecordReadReturnsTheOldestEntries := by
  refine ⟨fun e => ⟨entryBytes_length e, rfl, ?_, rfl, ?_, ?_, rfl, fun shows hshows => ?_⟩, ?_⟩
  · rw [← presenceByte_eq]
    rfl
  · show some (byte ((e.slot.map (·.val)).getD 0)) = _
    cases e.slot <;> rfl
  · show [byte ((e.channel.map (·.1.val)).getD 0), (e.channel.map (·.2)).getD 0] = _
    cases e.channel <;> rfl
  · have hkind : ∀ {k : Nat} {d : List Byte}, kindByte e.detail = byte k → detailBytes e.detail = d → shows k d :=
      fun {k d} h1 h2 => (hshows k d).2 ⟨by rw [entryBytes_kind, h1], by rw [entryBytes_details, h2]; rfl⟩
    refine ⟨fun a b c h => ?_, fun c h => ?_, fun h => ?_, fun h => ?_, fun a l h => ?_, fun a l r o c h => ?_,
      fun a l r h => ?_, fun k n h => ?_, fun w h => ?_⟩
    all_goals refine hkind (by rw [h]; rfl) ?_
    all_goals rw [h]
    all_goals simp only [detailBytes, closeCauseByte_place, outcomeByte_place, endCauseByte_place]
  · rintro m x n s hn h hb k rfl
    have hf : fieldAt x.buffer 1 1 = n := by
      rw [hb, fieldAt_cons, fieldAt_byte, toNat_byte, Nat.mod_eq_of_lt hn]
    refine congrArg _ ((serve_waits h _).trans ((accept_waits h _ s).trans ?_))
    rw [hf]
    rfl

/-- Settles O49. -/
theorem listsAndTablesAreRead : Obligations.ListsAndTablesAreRead := by
  refine ⟨fun y => ⟨channelItem_length y, channelItem_layout y, fun h => ?_, fun n h => ?_, fun h => ?_, fun h => ?_,
    fun n h => ?_⟩, fun y => ⟨rfl, ?_⟩, fun n v => ⟨windowItem_length n v, ?_, fun a l h => ?_, fun h => ?_,
    fun r h => ⟨?_, fun d hd => ?_, fun hd => ?_, ?_⟩, fun h => ?_, ?_⟩, fun g => ⟨grantItem_length g, ?_, fun h => ?_,
    fun w h => ?_, fun w h => ?_, fun h => ?_, fun a h => ?_, fun h => ?_⟩, fun m x s => ⟨fun n hn h hb => ⟨?_, ?_⟩, ?_,
    ?_, fun k n copy hn hc h hb => ⟨?_, ?_, ?_, ?_, ?_⟩⟩⟩
  · rw [channelItem_allowance, h]; rfl
  · rw [channelItem_allowance, h]; rfl
  · rw [channelItem_timer, h]; rfl
  · rw [channelItem_timer, h]; rfl
  · rw [channelItem_timer, h]; rfl
  · rw [← mgmtByte_place, ← mgmtStateByte_place]; rfl
  · rw [← windowStateByte_place, windowItem_parts]; rfl
  · rw [windowItem_range, windowRangeBytes, h]; rfl
  · rw [windowItem_range, windowRangeBytes, h]; rfl
  · rw [windowItem_run, h]; rfl
  · rw [windowItem_last, h, windowLastBytes]; simp only [Option.getD_some]; rw [hd]; rfl
  · rw [windowItem_last, h, windowLastBytes]; simp only [Option.getD_some]; rw [hd]; rfl
  · rw [windowItem_erase, h]; rfl
  · exact windowItem_noRun n h
  · exact windowItem_drop30 n v
  · rw [← grantStateByte_place]; rfl
  · show some (bindingByte g.binding) = _; rw [h]; rfl
  · show some (bindingByte g.binding) = _; rw [h]; rfl
  · show some (bindingByte g.binding) = _; rw [h]; rfl
  · show some (bindingByte g.binding) = _; rw [h]; rfl
  · rw [grantItem_activation, h]; rfl
  · rw [grantItem_activation, h]; rfl
  · rintro p k hp rfl
    have hf : fieldAt x.buffer 1 1 = n := by
      rw [hb, fieldAt_cons, fieldAt_byte, toNat_byte, Nat.mod_eq_of_lt hn]
    refine congrArg _ ((serve_waits h _).trans ?_)
    obtain ⟨rfl, rfl⟩ | ⟨rfl, rfl⟩ | ⟨rfl, rfl⟩ := hp <;>
    · rw [countersRead, hf]
      refine (accept_waits h _ s).trans (congrArg (answer x.id · s) ?_)
      simp only [countersBytes, List.append_assoc]
      rfl
  · intro h3
    have hf : fieldAt x.buffer 1 1 = n := by
      rw [hb, fieldAt_cons, fieldAt_byte, toNat_byte, Nat.mod_eq_of_lt hn]
    have hp : readPort n = none := by
      match n, h3 with
      | k + 3, _ => rfl
    refine congrArg _ ((serve_waits h _).trans ?_)
    rw [countersRead, hf, hp]
    exact refuse_waits h _ s
  · intro h
    refine congrArg _ ((serve_waits h _).trans ((accept_waits h _ s).trans ?_))
    rw [trafficFields_eq]
    rfl
  · intro h
    refine congrArg _ ((serve_waits h _).trans ((accept_waits h _ s).trans ?_))
    simp only [grantFields, List.append_assoc, List.cons_append]
    rfl
  · intro hbad
    refine tableRead_none h ((tableRead_fields hn hc hb).trans ?_)
    obtain hi | h2 := hbad
    · rw [hi]; rfl
    · cases entryIndex k n with
      | none => rfl
      | some i => exact (if_neg (by omega)).trans (if_neg (by omega))
  · rintro i hi rfl
    refine (tableRead_some h ((tableRead_fields hn hc hb).trans (by rw [hi]; rfl))).trans ?_
    rfl
  · rintro i hi rfl h4 h6
    refine (tableRead_some h ((tableRead_fields hn hc hb).trans (by rw [hi]; rfl))).trans ?_
    have hw : workingRead s k i = byte 0 :: encodeEntry (s.tables.entry k i) := by
      rw [workingRead, if_neg h4, decide_eq_false h6, List.append_nil]
      rfl
    rw [hw]
    rfl
  · rintro i g rfl rfl rfl rfl
    have hi : entryIndex .signalTable i.val = some i.val := if_pos i.isLt
    refine (tableRead_some h ((tableRead_fields hn hc hb).trans (by rw [hi]; rfl))).trans ?_
    have hw : workingRead s .signalTable i.val = byte 0 :: (encodeSignal (s.tables.signals.get i) ++
        signalStateBytes (s.signals.get i)) := by
      have ho : Fin.ofNat 4 i.val = i := ofNat_eq i.isLt
      rw [workingRead, if_pos rfl, Tables.entry, ho]
      rfl
    rw [hw, signalStateBytes, timerBytes_field]
    simp only [List.append_assoc]
    rfl
  · rintro i rfl rfl rfl
    have hi : entryIndex .regionMap i.val = some i.val := if_pos i.isLt
    refine (tableRead_some h ((tableRead_fields hn hc hb).trans (by rw [hi]; rfl))).trans ?_
    have hw : workingRead s .regionMap i.val = yesNoByte (s.inspector.overlays.get i).isSome ::
        encodeMap (s.tables.maps.get i) := by
      have ho : Fin.ofNat 16 i.val = i := ofNat_eq i.isLt
      rw [workingRead, if_neg (by decide), List.append_nil, Tables.entry, ho]
      rfl
    rw [hw]
    rfl

end Sys2Proof.Machine
end

section
/-! The Access Request and the Access Proof (R90 to R93). -/

namespace Sys2Proof.Machine

open Sys2Proof Sys2Proof.Safety

variable {s t : State} {m : Mgmt} {x : MgmtExchange} {n channels classes seconds : Nat}

/-! ### The Access Request (R90, R91) -/

theorem onToolChannel_iff (s : State) (m : Mgmt) : onToolChannel s m = true ↔ m = .W ∧ s.lines.tooldet = true := by
  unfold onToolChannel
  rw [Bool.and_eq_true, beq_iff_eq]

theorem offToolChannel (h : m = .C ∨ s.lines.tooldet = false) : onToolChannel s m = false := by
  refine Bool.eq_false_iff.2 fun ht => ?_
  obtain ⟨rfl, h2⟩ := (onToolChannel_iff s m).1 ht
  obtain h | h := h
  · cases h
  · rw [h] at h2
    cases h2

theorem proofInProgress_iff (s : State) : proofInProgress s = true ↔ ∃ g ∈ s.grants.grants, inProof g := by
  unfold proofInProgress
  rw [List.any_eq_true]
  exact exists_congr fun g => and_congr_right fun _ => by rw [Bool.or_eq_true, beq_iff_eq, beq_iff_eq]

theorem freeRoom_iff (s : State) : freeRoom s < 2 ↔ 126 < occupied s := by
  unfold freeRoom
  omega

/-- The fields of an Access Request (R169). -/
theorem accessRequest_fields (hb : x.buffer = [byte 0x10, byte n] ++ beBytes 2 channels ++ [byte classes] ++
    beBytes 2 seconds) (hn : n < 256) (hch : channels < 65536) (hcl : classes < 256) (hs : seconds < 65536) :
    fieldAt x.buffer 1 1 = n ∧ fieldAt x.buffer 2 2 = channels ∧ fieldAt x.buffer 4 1 = classes ∧
      fieldAt x.buffer 5 2 = seconds := by
  have hb' : x.buffer = byte 0x10 :: byte n :: byte (channels / 256) :: byte channels :: byte classes ::
      byte (seconds / 256) :: byte seconds :: [] := hb
  rw [hb']
  refine ⟨?_, ?_, ?_, ?_⟩
  · rw [fieldAt_cons, fieldAt_byte, toNat_byte, Nat.mod_eq_of_lt hn]
  · rw [fieldAt_cons, fieldAt_cons, fieldAt_two hch]
  · rw [fieldAt_cons, fieldAt_cons, fieldAt_cons, fieldAt_cons, fieldAt_byte, toNat_byte, Nat.mod_eq_of_lt hcl]
  · rw [fieldAt_cons, fieldAt_cons, fieldAt_cons, fieldAt_cons, fieldAt_cons, fieldAt_two hs]

/-- The checks of an Access Request up to its slot (R91). -/
theorem accessRequest_early (r : Refuse)
    (h : onToolChannel s m = false ∧ r = .notAuthorised ∨ onToolChannel s m = true ∧
      (s.grants.lockout ≠ none ∧ r = .lockedOut ∨ s.grants.lockout = none ∧
        (((s.grants.challenge ≠ none ∨ ∃ g ∈ s.grants.grants, inProof g) ∧ r = .busy) ∨
          (s.grants.challenge = none ∧ (∀ g ∈ s.grants.grants, ¬inProof g) ∧ 8 ≤ fieldAt x.buffer 1 1 ∧
            r = .badEntry)))) : accessRequest m x s = refuse x r s := by
  unfold accessRequest
  obtain ⟨h1, rfl⟩ | ⟨h1, h⟩ := h
  · exact if_pos h1
  refine (if_neg (by rw [h1]; decide)).trans ?_
  obtain ⟨h2, rfl⟩ | ⟨h2, h⟩ := h
  · exact if_pos (Option.isSome_iff_ne_none.2 h2)
  refine (if_neg (by rw [h2]; decide)).trans ?_
  obtain ⟨h3, rfl⟩ | ⟨h3, h4, h5, rfl⟩ := h
  · refine if_pos (Bool.or_eq_true_iff.2 ?_)
    exact h3.imp Option.isSome_iff_ne_none.2 (proofInProgress_iff s).2
  · have hp : proofInProgress s = false := Bool.eq_false_iff.2 fun hp => by
      obtain ⟨g, hg, hi⟩ := (proofInProgress_iff s).1 hp
      exact h4 g hg hi
    exact (if_neg (by rw [h3, hp]; decide)).trans (dif_neg (by omega))

/-- The checks of an Access Request for a slot (R91), with what is issued where all pass. -/
theorem accessRequest_slot (k : Fin 8) (h1 : onToolChannel s m = true) (h2 : s.grants.lockout = none)
    (h3 : s.grants.challenge = none) (h4 : ∀ g ∈ s.grants.grants, ¬inProof g) (h5 : fieldAt x.buffer 1 1 = k.val) :
    accessRequest m x s =
      if (s.grants.slots.get k).state ≠ .live then refuse x .slotState s
      else if fieldAt x.buffer 2 2 = 0 ∨ fieldAt x.buffer 4 1 = 0 ∨ 64 ≤ fieldAt x.buffer 4 1 then refuse x .badEntry s
      else if 8 ≤ s.grants.grants.length then refuse x .busy s
      else if freeRoom s < 2 then refuse x .recordFull s
      else accept x (beBytes 4 (drawChallenge s).toNat ++ beBytes 2 (clampDuration (fieldAt x.buffer 5 2)))
        (issueChallenge k (BitVec.ofNat 16 (fieldAt x.buffer 2 2)) (BitVec.ofNat 6 (fieldAt x.buffer 4 1))
          (clampDuration (fieldAt x.buffer 5 2)) s) := by
  have hp : proofInProgress s = false := Bool.eq_false_iff.2 fun hp => by
    obtain ⟨g, hg, hi⟩ := (proofInProgress_iff s).1 hp
    exact h4 g hg hi
  unfold accessRequest
  refine (if_neg (by rw [h1]; decide)).trans ((if_neg (by rw [h2]; decide)).trans ((if_neg ?_).trans ?_))
  · rw [h3, hp]
    decide
  · have hk : (⟨fieldAt x.buffer 1 1, h5 ▸ k.isLt⟩ : Fin 8) = k := Fin.ext h5
    refine (dif_pos (h5 ▸ k.isLt)).trans ?_
    simp only [hk]

/-- A drawn challenge is not 0, and not the one before (R90, log 21). -/
theorem drawChallenge_fresh (s : State) : drawChallenge s ≠ 0 ∧ s.grants.lastChallenge ≠ some (drawChallenge s) := by
  have hok : ∀ v, freshValue s.grants.lastChallenge v = true → v ≠ 0 ∧ s.grants.lastChallenge ≠ some v := fun v hv => by
    unfold freshValue at hv
    obtain ⟨h1, h2⟩ := Bool.and_eq_true_iff.1 hv
    exact ⟨bne_iff_ne.1 h1, of_decide_eq_true h2⟩
  unfold drawChallenge
  simp only
  split
  · next h => exact hok _ h
  split
  · next h => exact hok _ h
  split
  · next h => exact hok _ h
  split
  · next h => exact hok _ h
  · next h =>
    have h1 : s.grants.lastChallenge = some 1 := by
      by_contra hn
      exact h (Bool.and_eq_true_iff.2 ⟨rfl, decide_eq_true hn⟩)
    rw [h1]
    exact ⟨by decide, by decide⟩

/-- Settles O51. -/
theorem accessRequestIssuesAFreshChallenge : Obligations.AccessRequestIssuesAFreshChallenge := by
  constructor
  · intro m x n channels classes seconds s h hb hn hch hcl hs refused hr
    obtain ⟨f1, f2, f3, -⟩ := accessRequest_fields hb hn hch hcl hs
    have hrefuse : ∀ r, accessRequest m x s = refuse x r s → refused (refuseCode r) := fun r e =>
      (hr _).2 (congrArg _ ((serve_waits h _).trans (e.trans (refuse_waits h r s))))
    refine ⟨fun h0 => hrefuse .notAuthorised (accessRequest_early _ (.inl ⟨offToolChannel h0, rfl⟩)), fun hm ht => ?_⟩
    have h1 : onToolChannel s m = true := (onToolChannel_iff s m).2 ⟨hm, ht⟩
    refine ⟨fun h2 => hrefuse .lockedOut (accessRequest_early _ (.inr ⟨h1, .inl ⟨h2, rfl⟩⟩)), fun h2 =>
      ⟨fun h3 => hrefuse .busy (accessRequest_early _ (.inr ⟨h1, .inr ⟨h2, .inl ⟨h3, rfl⟩⟩⟩)), fun h3 h4 =>
        ⟨fun h5 => hrefuse .badEntry (accessRequest_early _ (.inr ⟨h1, .inr ⟨h2, .inr ⟨h3, h4, by rw [f1]; exact h5,
          rfl⟩⟩⟩)), fun k hk => ?_⟩⟩⟩
    have hslot := accessRequest_slot k h1 h2 h3 h4 (f1.trans hk)
    rw [f2, f3] at hslot
    refine ⟨fun h6 => hrefuse .slotState (hslot.trans (if_pos h6)), fun h6 =>
      ⟨fun h7 => hrefuse .badEntry (hslot.trans ((if_neg (by rw [h6]; decide)).trans (if_pos h7))), fun h7 h8 h9 =>
        ⟨fun h10 => hrefuse .busy ?_, fun h10 h11 => hrefuse .recordFull ?_⟩⟩⟩
    · exact hslot.trans ((if_neg (by rw [h6]; decide)).trans ((if_neg (by omega)).trans (if_pos h10)))
    · exact hslot.trans ((if_neg (by rw [h6]; decide)).trans ((if_neg (by omega)).trans ((if_neg (by omega)).trans
        (if_pos ((freeRoom_iff s).2 h11)))))
  · intro x k channels classes seconds s h hb hch hcl hs
    obtain ⟨f1, f2, f3, f4⟩ := accessRequest_fields hb (k.isLt.trans (by decide)) hch (by omega) hs
    have hrefuse : ∀ r, accessRequest .W x s = refuse x r s →
        exec (.accessRequest .W) s = .next (answer x.id [byte 0xFF, byte 0x10, byte (refuseCode r)] s) := fun r e =>
      congrArg _ ((serve_waits h _).trans (e.trans (refuse_waits h r s)))
    refine ⟨fun h0 => hrefuse .notAuthorised (accessRequest_early _ (.inl ⟨offToolChannel (.inr h0), rfl⟩)),
      fun ht h2 => hrefuse .lockedOut (accessRequest_early _ (.inr ⟨(onToolChannel_iff s _).2 ⟨rfl, ht⟩, .inl ⟨h2, rfl⟩⟩)),
      fun ht h2 h3 => hrefuse .busy (accessRequest_early _ (.inr ⟨(onToolChannel_iff s _).2 ⟨rfl, ht⟩,
        .inr ⟨h2, .inl ⟨.inl h3, rfl⟩⟩⟩)), fun ht h2 h3 h4 h6 h7 h8 h9 h10 => ?_⟩
    have hslot := accessRequest_slot (m := .W) k ((onToolChannel_iff s _).2 ⟨rfl, ht⟩) h2 h3
      (fun g hg hi => hi.elim (h4 g hg).1 (h4 g hg).2) f1
    rw [f2, f3, f4] at hslot
    refine ⟨drawChallenge s, s.part.draws + 3, (drawChallenge_fresh s).1, (drawChallenge_fresh s).2, congrArg Host.Outcome.next ?_⟩
    refine (serve_waits h _).trans (hslot.trans ((if_neg (by rw [h6]; decide)).trans ((if_neg (by omega)).trans
      ((if_neg (by omega)).trans ((if_neg fun hf => ?_).trans ((accept_waits h _ _).trans rfl))))))
    have := (freeRoom_iff s).1 hf
    omega

/-! ### The Access Proof (R92, R93) -/

/-- The number a proof's grant takes is free, and the lowest one that is (R93). -/
theorem freeNumber_lowest (l : List Grant) :
    (∀ g ∈ l, g.number ≠ freeNumber l) ∧ ∀ k, k < freeNumber l → ∃ g ∈ l, g.number = k := by
  refine ⟨(freeNumber_fresh l).2, fun k hk => ?_⟩
  cases h : (List.range (l.length + 1)).find? (fun n => l.all fun g => g.number != n) with
  | none =>
    rw [freeNumber, h] at hk
    exact absurd hk (Nat.not_lt_zero k)
  | some n =>
    rw [freeNumber, h] at hk
    have hn := (List.find?_range_eq_some.1 h).2.2 k hk
    simpa using hn

theorem accessProof_checked (ht : s.lines.tooldet = true) (hl : s.grants.lockout = none) : accessProof .W x s =
    match s.grants.challenge with
    | none => refuse x .noChallenge s
    | some ch =>
      if freeRoom s < 2 then refuse x .recordFull { s with grants := { s.grants with challenge := none } }
      else setWork x (.awaitProof (freeNumber s.grants.grants))
        (startDigest (freeNumber s.grants.grants) ch (x.buffer.drop 1) s) := by
  unfold accessProof
  refine (if_neg ?_).trans ((if_neg (by rw [hl]; decide)).trans rfl)
  rw [(onToolChannel_iff s _).2 ⟨rfl, ht⟩]
  decide

/-- Settles O52. -/
theorem accessProofStartsTheDigest : Obligations.AccessProofStartsTheDigest := by
  intro x tag s h hb ht hl
  refine ⟨fun hc => ?_, fun ch hc ho => ?_, fun ch hc ho => ?_⟩
  · refine congrArg _ ((serve_waits h _).trans ((accessProof_checked ht hl).trans ?_))
    rw [hc]
    exact refuse_waits h _ s
  · refine congrArg _ ((serve_waits h _).trans ((accessProof_checked ht hl).trans ?_))
    rw [hc]
    exact (if_pos ((freeRoom_iff s).2 ho)).trans (refuse_waits h _ _)
  · refine ⟨freeNumber s.grants.grants, _, (freeNumber_lowest _).1, (freeNumber_lowest _).2, rfl, ?_, congrArg Host.Outcome.next ?_⟩
    · simp
    · refine (serve_waits h _).trans ((accessProof_checked ht hl).trans ?_)
      have htag : x.buffer.drop 1 = tag := by rw [hb]; rfl
      rw [hc, htag]
      refine (if_neg fun hf => ?_).trans rfl
      have := (freeRoom_iff s).1 hf
      omega

end Sys2Proof.Machine
end

section
/-! The completion of the digest: the failed proof, its lockout, and the accepted one (R92 to R97). -/

namespace Sys2Proof.Machine

open Sys2Proof Sys2Proof.Safety

variable {s t z : State} {m : Mgmt} {x : MgmtExchange} {n : Nat} {d : DigestRun} {g : Grant}

/-! ### The answer to a proof -/

theorem mgmtExchange_of_exchanges (h : t.exchanges = s.exchanges) (m : Mgmt) : mgmtExchange t m = mgmtExchange s m := by
  unfold mgmtExchange
  rw [h]

/-- The exchange that waits for a proof's grant has its answer, where the list is still what it was. -/
theorem answerProof_answers (he : z.exchanges = s.exchanges) (n : Nat) (reply : List Byte) (x : MgmtExchange)
    (hs : exchangeLaw s) (hx : mgmtExchange s .W = some x) (hw : x.work = .awaitProof n) :
    mgmtExchange (answerProof n reply z) .W = some { x with work := .ready reply } := by
  have hx' := (mgmtExchange_of_exchanges he .W).trans hx
  have ha : answerProof n reply z = answer x.id reply z := by
    unfold answerProof
    rw [hx']
    exact if_pos hw
  have he' : (answer x.id reply z).exchanges = (answer x.id reply s).exchanges := by
    unfold answer
    rw [he]
  rw [ha, mgmtExchange_of_exchanges he' .W]
  exact (answer_found hs hx reply .W).trans (if_pos rfl)

theorem answerProof_record (n : Nat) (reply : List Byte) (s : State) :
    (answerProof n reply s).record = s.record ∧ (answerProof n reply s).store = s.store ∧
      (answerProof n reply s).agent = s.agent ∧ (answerProof n reply s).grants = s.grants := by
  rw [answerProof_eq]
  exact ⟨rfl, rfl, rfl, rfl⟩

/-! ### The failure count and its write (R94, R95, R97) -/

theorem writeFailures_room (h : s.store.queue.length < 16) (n : Nat) : writeFailures n s =
    { s with store := { s.store with queue := s.store.queue ++ [.failureCount n] } } := by
  rw [writeFailures, queueTakesAppend, decide_eq_true h]
  rfl

theorem writeFailures_full (h : 16 ≤ s.store.queue.length) (n : Nat) : writeFailures n s =
    { s with agent := { s.agent with attention := { s.agent.attention with storeFail := true } } } := by
  rw [writeFailures, queueTakesAppend, decide_eq_false (by omega)]
  rfl

theorem writeFailures_touches (n : Nat) (s : State) : writeFailures n s =
    { s with store := (writeFailures n s).store, agent := (writeFailures n s).agent } := by
  unfold writeFailures
  split <;> rfl

/-- The failure count returns to 0; of the rest only the store's queue or its attention condition may change. -/
theorem clearFailures_touches (s : State) : clearFailures s = { s with
    grants := { s.grants with failures := 0 }, store := (clearFailures s).store, agent := (clearFailures s).agent } := by
  unfold clearFailures
  split
  · next h => rw [← h]
  · exact writeFailures_touches _ _

theorem clearFailures_room (h : s.store.queue.length < 16) : (clearFailures s).store.queue =
    s.store.queue ++ (if s.grants.failures = 0 then [] else [.failureCount 0]) := by
  unfold clearFailures
  split
  · exact (List.append_nil _).symm
  · rw [writeFailures_room (by exact h)]

theorem clearFailures_full (h : 16 ≤ s.store.queue.length) : (clearFailures s).store = s.store ∧
    (s.grants.failures ≠ 0 → (clearFailures s).agent.attention.storeFail = true) := by
  unfold clearFailures
  split
  · next h0 => exact ⟨rfl, fun hn => absurd h0 hn⟩
  · rw [writeFailures_full (by exact h)]
    exact ⟨rfl, fun _ => rfl⟩

/-! ### The digest's completion -/

/-- What the completion of a digest whose result counts makes of the state: the run is over, and the proof decided. -/
theorem digestComplete_counts (h : s.part.awake = true) (hd : s.grants.digest = some d) (hn : d.discarded = false) :
    exec .digestComplete s = .next
      (if (hmacSha256 (beBytes 16 (s.grants.slots.get d.slot).key.toNat) d.message).take 8 = d.tag
        then proofMatched d { s with grants := { s.grants with digest := none } }
        else proofFailed d { s with grants := { s.grants with digest := none } }) := by
  rw [awake_next h rfl, digestComplete, hd]
  exact congrArg _ (if_neg (by rw [hn]; decide))

/-! ### A failed proof (R94) -/

theorem beginLockout_touches (k : Fin 8) (s : State) : (beginLockout k s).grants.grants = s.grants.grants ∧
    (beginLockout k s).exchanges = s.exchanges := by
  unfold beginLockout
  split
  · obtain ⟨q, m, n, e, -⟩ := appendEntry_shape .lockoutBegan none (some k) none
      { s with grants := { s.grants with lockout := some 600000 } }
    rw [e]
    exact ⟨rfl, rfl⟩
  · exact ⟨rfl, rfl⟩

/-- A failed proof, by its steps (R94). -/
theorem proofFailed_eq (hd : grantNumbersDistinct s) (d : DigestRun) : proofFailed d s =
    answerProof d.grant [byte 0xFF, byte 0x11, byte 7] (beginLockout d.slot (appendEntry .proofFailed none (some d.slot)
      none (writeFailures (min 3 (s.grants.failures + 1)) { s with grants := { s.grants with
        grants := s.grants.grants.filter (fun g => g.number ≠ d.grant)
        failures := min 3 (s.grants.failures + 1) } }))) := by
  unfold proofFailed
  rw [dropGrant_distinct hd]
  rfl

/-- A failed proof takes its grant off the table and answers PROOF_MISMATCH, whatever room there is. -/
theorem proofFailed_answers (hd : grantNumbersDistinct s) (d : DigestRun) :
    (proofFailed d s).grants.grants = s.grants.grants.filter (fun g => g.number ≠ d.grant) ∧
      ∀ x, exchangeLaw s → mgmtExchange s .W = some x → x.work = .awaitProof d.grant →
        mgmtExchange (proofFailed d s) .W = some { x with work := .ready [byte 0xFF, byte 0x11, byte 7] } := by
  rw [proofFailed_eq hd, writeFailures_touches]
  generalize writeFailures _ _ = u
  obtain ⟨h1, h2⟩ := beginLockout_touches d.slot (appendEntry .proofFailed none (some d.slot) none { s with
    grants := { s.grants with
      grants := s.grants.grants.filter (fun g => g.number ≠ d.grant), failures := min 3 (s.grants.failures + 1) }
    store := u.store, agent := u.agent })
  obtain ⟨q, m, k, e, -⟩ := appendEntry_shape .proofFailed none (some d.slot) none { s with
    grants := { s.grants with
      grants := s.grants.grants.filter (fun g => g.number ≠ d.grant), failures := min 3 (s.grants.failures + 1) }
    store := u.store, agent := u.agent }
  rw [e] at h1 h2
  rw [e]
  exact ⟨(congrArg (·.grants) (answerProof_record _ _ _).2.2.2).trans h1, answerProof_answers h2 _ _⟩

/-- The state once a failed proof's grant is gone and its count is waiting to be written. -/
abbrev failedCount (s : State) (d : DigestRun) : State := { s with
  grants := { s.grants with
    grants := s.grants.grants.filter (fun g => g.number ≠ d.grant), failures := min 3 (s.grants.failures + 1) }
  store := { s.store with queue := s.store.queue ++ [.failureCount (min 3 (s.grants.failures + 1))] } }

theorem occupied_failedCount (hd : grantNumbersDistinct s) (d : DigestRun) : occupied (failedCount s d) ≤ occupied s := by
  have h := occupied_dropGrant_le d.grant s
  rw [dropGrant_distinct hd] at h
  refine le_trans (le_of_eq ?_) h
  have hf : List.filterMap appendOf [StoreRequest.failureCount (min 3 (s.grants.failures + 1))] = [] := rfl
  simp only [occupied, settling, reservations, List.filterMap_append, hf, List.append_nil]

/-- A failed proof's entry, with room for its count and the entry. -/
theorem failedCount_entered (hd : grantNumbersDistinct s) (ho : occupied s + 2 ≤ 128)
    (hq : s.store.queue.length + 3 ≤ 16) (d : DigestRun) :
    ∃ z, z = { failedCount s d with
        store := { s.store with queue := s.store.queue ++ [.failureCount (min 3 (s.grants.failures + 1)),
          .append (entryNow s .proofFailed none (some d.slot) none)] }
        record := { s.record with mark := (s.record.mark + 1) % 4294967296, unrecorded := 0 } } ∧
      proofFailed d s = answerProof d.grant [byte 0xFF, byte 0x11, byte 7] (beginLockout d.slot z) ∧
      occupied z < 128 ∧ z.store.queue.length < 16 := by
  have hq' : s.store.queue.length < 16 := by omega
  have hlen : (failedCount s d).store.queue.length < 16 := by
    show (s.store.queue ++ [_]).length < 16
    rw [List.length_append, List.length_singleton]
    omega
  have hle := occupied_failedCount hd d
  have hlt : occupied (failedCount s d) < 128 := by omega
  have hw := writeEntry_room hlen .proofFailed none (some d.slot) none
  refine ⟨writeEntry .proofFailed none (some d.slot) none (failedCount s d), ?_, ?_, ?_, ?_⟩
  · rw [hw]
    simp only [List.append_assoc]
    rfl
  · rw [proofFailed_eq hd, writeFailures_room (by exact hq'), appendEntry_room (by exact hlt)]
  · have := occupied_writeEntry (s := failedCount s d) .proofFailed none (some d.slot) none
    omega
  · rw [hw]
    simp
    omega

theorem beginLockout_begins (h : s.grants.failures = 3) (ho : occupied s < 128) (hq : s.store.queue.length < 16)
    (k : Fin 8) : beginLockout k s = { s with
      grants := { s.grants with lockout := some 600000 }
      store := { s.store with queue := s.store.queue ++ [.append (entryNow s .lockoutBegan none (some k) none)] }
      record := { s.record with mark := (s.record.mark + 1) % 4294967296, unrecorded := 0 }
      agent := { s.agent with attention := { s.agent.attention with lockoutBegan := true } } } := by
  unfold beginLockout
  rw [if_pos h, appendEntry_room (by exact ho), writeEntry_room (by exact hq)]
  rfl

/-! ### An accepted proof (R95) -/

/-- The grants once one of them is RECORDING, with its reservation. -/
abbrev recordingGrants (s : State) (n : Nat) : List Grant :=
  grantsWith s n fun y => { y with state := .recording, reservation := true }

theorem proofMatched_accepted (hd : grantNumbersDistinct s) (hg : g ∈ s.grants.grants) (hn : g.number = d.grant)
    (ho : occupied s + 2 ≤ 128) (hq : s.store.queue.length < 16) : proofMatched d s = clearFailures { s with
      grants := { s.grants with grants := recordingGrants s d.grant }
      store := { s.store with queue := s.store.queue ++ [.append
        (entryNow s (.grantOpened g.channels g.classes g.granted) (some g.number) (some g.slot) none)] }
      record := { s.record with mark := (s.record.mark + 1) % 4294967296, unrecorded := 0 } } := by
  have hr : ¬freeRoom s < 2 := fun h => by
    have := (freeRoom_iff s).1 h
    omega
  unfold proofMatched
  rw [← hn, findGrant_of_mem hd hg]
  refine (if_neg hr).trans ((if_pos (decide_eq_true hq)).trans ?_)
  rw [writeEntry_room hq, updateGrant_distinct (by exact hd)]
  rfl

theorem proofMatched_noRoom (hd : grantNumbersDistinct s) (hg : g ∈ s.grants.grants) (hn : g.number = d.grant)
    (ho : 126 < occupied s) : proofMatched d s = answerProof d.grant [byte 0xFF, byte 0x11, byte 5] (clearFailures { s with
      grants := { s.grants with grants := s.grants.grants.filter (fun y => y.number ≠ d.grant) } }) := by
  unfold proofMatched
  rw [← hn, findGrant_of_mem hd hg]
  refine (if_pos ((freeRoom_iff s).2 ho)).trans ?_
  rw [dropGrant_distinct hd]
  rfl

theorem proofMatched_full (hd : grantNumbersDistinct s) (hg : g ∈ s.grants.grants) (hn : g.number = d.grant)
    (ho : occupied s + 2 ≤ 128) (hq : 16 ≤ s.store.queue.length) :
    proofMatched d s = answerProof d.grant [byte 0xFF, byte 0x11, byte 4] (clearFailures { s with
      grants := { s.grants with grants := s.grants.grants.filter (fun y => y.number ≠ d.grant) }
      record := { s.record with unrecorded := min 65535 (s.record.unrecorded + 1) } }) := by
  have hr : ¬freeRoom s < 2 := fun h => by
    have := (freeRoom_iff s).1 h
    omega
  unfold proofMatched
  rw [← hn, findGrant_of_mem hd hg]
  refine (if_neg hr).trans ((if_neg ?_).trans ?_)
  · rw [queueTakesAppend, decide_eq_false (by omega)]
    decide
  · rw [dropGrant_distinct (by exact hd)]
    rfl

/-- Settles O53. -/
theorem digestDecidesTheProof : Obligations.DigestDecidesTheProof := by
  constructor
  · rintro d g s h hdig hd hdisc hg hn hres tag rfl answered hans removed rfl
    have hgo := digestComplete_counts h hdig hdisc
    refine ⟨fun ht => ?_, fun ht ho hq hf => ?_, fun ht ho => ?_, fun ht ho hq => ?_⟩
    · obtain ⟨h1, h2⟩ := proofFailed_answers (s := { s with grants := { s.grants with digest := none } }) hd d
      exact ⟨_, hgo.trans (congrArg _ (if_neg fun e => ht e.symm)), h1, (hans _ _).2 h2⟩
    · have hq1 : s.store.queue.length < 16 := by omega
      refine ⟨_, hgo.trans (congrArg _ ((if_pos ht.symm).trans (proofMatched_accepted
        (s := { s with grants := { s.grants with digest := none } }) hd hg hn ho (by exact hq1)))), ?_, ?_⟩
      · rw [clearFailures_touches]
      · rw [clearFailures_room (by simp; omega), List.append_assoc]
        exact congrArg _ (congrArg _ (if_neg hf))
    · refine ⟨_, hgo.trans (congrArg _ ((if_pos ht.symm).trans (proofMatched_noRoom
        (s := { s with grants := { s.grants with digest := none } }) hd hg hn ho))), ?_, (hans _ _).2 ?_, ?_, fun hq => ?_⟩
      · rw [(answerProof_record _ _ _).2.2.2, clearFailures_touches]
      · exact answerProof_answers (by rw [clearFailures_touches]) _ _
      · rw [(answerProof_record _ _ _).1, clearFailures_touches]
      · rw [(answerProof_record _ _ _).2.1]
        exact clearFailures_room hq
    · refine ⟨_, hgo.trans (congrArg _ ((if_pos ht.symm).trans (proofMatched_full
        (s := { s with grants := { s.grants with digest := none } }) hd hg hn ho hq))), ?_, (hans _ _).2 ?_, ?_, ?_,
        fun hf => ?_⟩
      · rw [(answerProof_record _ _ _).2.2.2, clearFailures_touches]
      · exact answerProof_answers (by rw [clearFailures_touches]) _ _
      · rw [(answerProof_record _ _ _).1, clearFailures_touches]
      · rw [(answerProof_record _ _ _).2.1]
        exact (clearFailures_full (by exact hq)).1
      · rw [(answerProof_record _ _ _).2.2.1]
        exact (clearFailures_full (by exact hq)).2 hf
  · rintro d s h hdig hd ho hq tag rfl
    refine ⟨fun hdisc => ?_, fun hdisc ht hf => ?_, fun hdisc ht hf => ?_, ?_⟩
    · rw [awake_next h rfl, digestComplete, hdig]
      exact congrArg _ (if_pos hdisc)
    · obtain ⟨z, rfl, e, -, -⟩ :=
        failedCount_entered (s := { s with grants := { s.grants with digest := none } }) hd ho hq d
      have hmin : min 3 (s.grants.failures + 1) = s.grants.failures + 1 := by omega
      have hgo := (digestComplete_counts h hdig hdisc).trans (congrArg _ ((if_neg fun e => ht e.symm).trans e))
      have h3 : ¬min 3 (s.grants.failures + 1) = 3 := by omega
      rw [beginLockout, if_neg (by exact h3)] at hgo
      refine ⟨_, hgo, ?_, ?_, ?_⟩
      · exact (answerProof_record _ _ _).2.2.2.trans (congrArg (fun k => { s.grants with
          digest := none, grants := s.grants.grants.filter (fun g => g.number ≠ d.grant), failures := k }) hmin)
      · exact (congrArg (·.queue) (answerProof_record _ _ _).2.1).trans (congrArg (fun k => s.store.queue ++
          [.failureCount k, .append (entryNow s .proofFailed none (some d.slot) none)]) hmin)
      · rw [(answerProof_record _ _ _).2.2.1]
    · obtain ⟨z, hz, e, h1, h2⟩ :=
        failedCount_entered (s := { s with grants := { s.grants with digest := none } }) hd ho hq d
      have hmin : min 3 (s.grants.failures + 1) = 3 := by omega
      have h3 : z.grants.failures = 3 := by rw [hz]; exact hmin
      have hgo := (digestComplete_counts h hdig hdisc).trans (congrArg _ ((if_neg fun e => ht e.symm).trans e))
      rw [beginLockout_begins h3 h1 h2] at hgo
      refine ⟨_, entryNow z .lockoutBegan none (some d.slot) none, hgo, ?_, ?_, rfl, rfl, ?_⟩
      · refine (answerProof_record _ _ _).2.2.2.trans ?_
        rw [hz]
        exact congrArg (fun k => { s.grants with
          digest := none, grants := s.grants.grants.filter (fun g => g.number ≠ d.grant), failures := k,
          lockout := some 600000 }) hmin
      · refine (congrArg (·.queue) (answerProof_record _ _ _).2.1).trans ?_
        have hq3 : z.store.queue = s.store.queue ++ [.failureCount 3,
            .append (entryNow s .proofFailed none (some d.slot) none)] := by
          rw [hz]
          exact congrArg (fun k => s.store.queue ++
            [.failureCount k, .append (entryNow s .proofFailed none (some d.slot) none)]) hmin
        exact (congrArg (· ++ _) hq3).trans (List.append_assoc ..)
      · rw [(answerProof_record _ _ _).2.2.1]
    · rintro g opened hdisc ht hg hn hf rfl
      have hq1 : s.store.queue.length < 16 := by omega
      refine (digestComplete_counts h hdig hdisc).trans (congrArg _ ((if_pos ht.symm).trans ((proofMatched_accepted
        (s := { s with grants := { s.grants with digest := none } }) hd hg hn ho hq1).trans ?_)))
      exact if_pos hf

end Sys2Proof.Machine
end

section
/-! The endings of grants, one after the other: Grant Revoke and presence loss; and Grant Extend (R96, R99, R101 to
R103). -/

namespace Sys2Proof.Machine

open Sys2Proof Sys2Proof.Safety

variable {s t : State} {m : Mgmt} {x : MgmtExchange} {n : Nat} {g h y : Grant} {cause : CloseCause} {l : List Grant}
  {w : Fin 2}

/-! ### The end of one grant -/

/-- A RECORDING grant with the first cause of its end (R96). -/
def caused (cause : CloseCause) (y : Grant) : Grant := if y.cause = none then { y with cause := some cause } else y

@[simp] theorem caused_number (cause : CloseCause) (y : Grant) : (caused cause y).number = y.number := by
  unfold caused
  split <;> rfl

@[simp] theorem caused_state (cause : CloseCause) (y : Grant) : (caused cause y).state = y.state := by
  unfold caused
  split <;> rfl

theorem caused_isSome (cause : CloseCause) (y : Grant) : (caused cause y).cause.isSome = true := by
  unfold caused
  split
  · rfl
  · next h => exact Option.isSome_iff_ne_none.2 h

theorem endGrant_recording (h : g.state = .recording) (cause : CloseCause) (s : State) :
    endGrant cause g s = updateGrant g.number (caused cause) s := by
  unfold endGrant
  rw [h]
  rfl

theorem endGrant_granting (h : granting g) (cause : CloseCause) (s : State) :
    endGrant cause g s = grantClose g cause (abortBound g cause s) := by
  unfold endGrant
  obtain h | h := h <;> rw [h]

theorem endGrant_checking (h : g.state = .checking) (cause : CloseCause) (s : State) : endGrant cause g s =
    answerProof g.number (refusalBytes (byte 0x11) .notAuthorised) { dropGrant g.number s with
      grants := { (dropGrant g.number s).grants with
        digest := s.grants.digest.map (fun d => { d with discarded := true }) } } := by
  unfold endGrant
  rw [h]
  rfl

theorem grant_cases (g : Grant) : g.state = .checking ∨ g.state = .recording ∨ granting g := by
  cases h : g.state
  · exact .inl rfl
  · exact .inr (.inl rfl)
  · exact .inr (.inr (.inl h))
  · exact .inr (.inr (.inr h))

/-- The table after the end of one of its grants: a RECORDING one notes the cause, another has left. -/
theorem endGrant_table (hd : grantNumbersDistinct s) (cause : CloseCause) (g : Grant) :
    (g.state = .recording ∧ (endGrant cause g s).grants.grants = grantsWith s g.number (caused cause)) ∨
      (g.state ≠ .recording ∧
        (endGrant cause g s).grants.grants = s.grants.grants.filter (fun y => y.number ≠ g.number)) := by
  have hdrop : (dropGrant g.number s).grants.grants = s.grants.grants.filter (fun y => y.number ≠ g.number) := by
    rw [dropGrant_distinct hd]
  obtain hc | hr | hg := grant_cases g
  · refine .inr ⟨by rw [hc]; decide, ?_⟩
    rw [endGrant_checking hc, answerProof_grants]
    exact hdrop
  · refine .inl ⟨hr, ?_⟩
    rw [endGrant_recording hr, updateGrant_distinct hd]
  · refine .inr ⟨fun hr => ?_, ?_⟩
    · obtain h | h := hg <;> rw [hr] at h <;> cases h
    · rw [endGrant_granting hg, grantClose, relamp_grants, appendInto_grants, dropGrant_grants, abortBound_table]
      exact (congrArg (·.grants.grants) (dropGrant_distinct hd g.number))

theorem endGrant_distinct (hd : grantNumbersDistinct s) (cause : CloseCause) (g : Grant) :
    grantNumbersDistinct (endGrant cause g s) := by
  unfold grantNumbersDistinct
  obtain ⟨-, h⟩ | ⟨-, h⟩ := endGrant_table hd cause g
  · rw [h, List.map_map]
    refine (congrArg List.Nodup (List.map_congr_left fun y _ => ?_)).mpr hd
    by_cases hn : y.number = g.number <;> simp [hn]
  · rw [h]
    exact hd.sublist (List.filter_sublist.map _)

theorem mem_endGrant_iff (hd : grantNumbersDistinct s) (hg : g ∈ s.grants.grants) (cause : CloseCause) :
    y ∈ (endGrant cause g s).grants.grants ↔
      (y ∈ s.grants.grants ∧ y.number ≠ g.number) ∨ (g.state = .recording ∧ y = caused cause g) := by
  obtain ⟨hr, h⟩ | ⟨hr, h⟩ := endGrant_table hd cause g
  · rw [h, List.mem_map]
    constructor
    · rintro ⟨z, hz, rfl⟩
      split
      · next hn =>
        obtain rfl : z = g := List.inj_on_of_nodup_map hd hz hg hn
        exact .inr ⟨hr, rfl⟩
      · next hn => exact .inl ⟨hz, hn⟩
    · rintro (⟨hy, hn⟩ | ⟨-, rfl⟩)
      · exact ⟨y, hy, if_neg hn⟩
      · exact ⟨g, hg, if_pos rfl⟩
  · rw [h, List.mem_filter, decide_eq_true_eq]
    exact ⟨.inl, fun h => h.resolve_right fun hn => hr hn.1⟩

/-! ### The end of grants, one after the other -/

theorem endGrants_cons (cause : CloseCause) (g : Grant) (l : List Grant) (s : State) :
    endGrants cause (g :: l) s = endGrants cause l (endGrant cause g s) := rfl

theorem endGrants_distinct (hd : grantNumbersDistinct s) (cause : CloseCause) (l : List Grant) :
    grantNumbersDistinct (endGrants cause l s) := by
  induction l generalizing s with
  | nil => exact hd
  | cons g l ih => exact ih (endGrant_distinct hd cause g)

/-- What is left of the table once grants of it have ended: the others, and the RECORDING ones with a cause. -/
theorem mem_endGrants_iff (hd : grantNumbersDistinct s) (hl : (l.map (·.number)).Nodup)
    (hm : ∀ g ∈ l, g ∈ s.grants.grants) (cause : CloseCause) (y : Grant) :
    y ∈ (endGrants cause l s).grants.grants ↔ (y ∈ s.grants.grants ∧ ∀ g ∈ l, y.number ≠ g.number) ∨
      ∃ g ∈ l, g.state = .recording ∧ y = caused cause g := by
  induction l generalizing s with
  | nil => simp [endGrants]
  | cons g l ih =>
    obtain ⟨hn, hl⟩ := List.nodup_cons.1 hl
    have hg : g ∈ s.grants.grants := hm g List.mem_cons_self
    have hne : ∀ k ∈ l, k.number ≠ g.number := fun k hk e => hn (List.mem_map.2 ⟨k, hk, e⟩)
    rw [endGrants_cons, ih (endGrant_distinct hd cause g) hl fun k hk =>
      mem_endGrant cause (hm k (List.mem_cons_of_mem _ hk)) (hne k hk), mem_endGrant_iff hd hg]
    simp only [List.mem_cons, forall_eq_or_imp, exists_eq_or_imp]
    constructor
    · rintro (⟨⟨hy, h1⟩ | ⟨hr, rfl⟩, h2⟩ | h)
      · exact .inl ⟨hy, h1, h2⟩
      · exact .inr (.inl ⟨hr, rfl⟩)
      · exact .inr (.inr h)
    · rintro (⟨hy, h1, h2⟩ | ⟨hr, rfl⟩ | h)
      · exact .inl ⟨.inl ⟨hy, h1⟩, h2⟩
      · exact .inl ⟨.inr ⟨hr, rfl⟩, fun k hk => by rw [caused_number]; exact (hne k hk).symm⟩
      · exact .inr h

/-- Once every grant has ended, only RECORDING ones with a cause are left. -/
theorem endGrants_all (hd : grantNumbersDistinct s) (cause : CloseCause) :
    y ∈ (endGrants cause s.grants.grants s).grants.grants ↔
      ∃ g ∈ s.grants.grants, g.state = .recording ∧ y = caused cause g := by
  rw [mem_endGrants_iff hd hd fun _ h => h]
  exact ⟨fun h => h.resolve_left fun hn => hn.2 y hn.1 rfl, .inr⟩

/-! ### What the endings leave as it was -/

/-- A state with another digest run. -/
abbrev withDigest (s : State) (d : Option DigestRun) : State := { s with grants := { s.grants with digest := d } }

theorem Kept.withDigest {d e : Option DigestRun} (h : Kept (withDigest s d) t) :
    Kept (Machine.withDigest s e) (Machine.withDigest t e) :=
  { h with digest := rfl }

theorem kept_answerProof (n : Nat) (reply : List Byte) (s : State) : Kept s (answerProof n reply s) := by
  rw [answerProof_eq]
  constructor <;> first | rfl | exact ⟨[], by simp⟩ | simp [State.port]

/-- The end of a grant leaves what the ends of windows leave, but for a digest whose result is to be discarded. -/
theorem kept_endGrant (cause : CloseCause) (g : Grant) (s : State) :
    Kept (withDigest s (endGrant cause g s).grants.digest) (endGrant cause g s) := by
  have hk : ∀ t, Kept s t → Kept (withDigest s t.grants.digest) t := fun t h => by
    have := h.digest
    exact { h with digest := rfl }
  obtain hc | hr | hg := grant_cases g
  · rw [endGrant_checking hc, answerProof_grants]
    exact (kept_dropGrant _ _).trans (kept_answerProof _ _ _)
  · rw [endGrant_recording hr]
    exact hk _ (kept_updateGrant _ _ _)
  · rw [endGrant_granting hg]
    refine hk _ (Kept.trans ?_ (kept_grantClose _ _ _))
    unfold abortBound
    split
    · exact kept_abortWindow _ _ _ _ _
    · exact kept_abortWindow _ _ _ _ _
    · exact .refl s
    · exact .refl s

theorem kept_endGrants (cause : CloseCause) (l : List Grant) (s : State) :
    Kept (withDigest s (endGrants cause l s).grants.digest) (endGrants cause l s) := by
  induction l generalizing s with
  | nil => exact .refl s
  | cons g l ih =>
    exact ((kept_endGrant cause g s).withDigest).trans (ih _)

/-! ### Grant Extend and Grant Revoke (R101, R102) -/

theorem grantExtend_active (ht : s.lines.tooldet = true) (hl : s.grants.lockout = none)
    (hf : findGrant s (fieldAt x.buffer 1 1) = some g) (ha : g.state = .active) (he : g.extensions < 3) :
    grantExtend .W x s =
      accept x (beBytes 2 (min 14400 (g.remaining + clampDuration (fieldAt x.buffer 2 2))) ++
        beBytes 1 (g.extensions + 1)) (updateGrant (fieldAt x.buffer 1 1) (fun y => { y with
          remaining := min 14400 (g.remaining + clampDuration (fieldAt x.buffer 2 2))
          extensions := g.extensions + 1 }) s) := by
  have hc : ¬onToolChannel s .W = false := by
    rw [(onToolChannel_iff s _).2 ⟨rfl, ht⟩]
    decide
  unfold grantExtend
  refine (if_neg hc).trans ((if_neg (by rw [hl]; decide)).trans ?_)
  rw [hf]
  exact (if_neg (not_not_intro ha)).trans (if_neg (Nat.not_le.2 he))

/-- A Grant Revoke of one number. -/
theorem grantRevoke_one (hb : x.buffer = [byte 0x13, byte n]) (hn : n < 255) : grantRevoke x s =
    match findGrant s n with
    | none => refuse x .badEntry s
    | some g => accept x [byte 1] (endGrant .revoked g s) := by
  have hf : fieldAt x.buffer 1 1 = n := by
    rw [hb, fieldAt_cons, fieldAt_byte, toNat_byte, Nat.mod_eq_of_lt (by omega)]
  unfold grantRevoke
  rw [hf]
  exact if_neg (by omega)

theorem grantRevoke_all (hb : x.buffer = [byte 0x13, byte 255]) : grantRevoke x s =
    accept x [byte s.grants.grants.length] (endGrants .revoked s.grants.grants s) := by
  have hf : fieldAt x.buffer 1 1 = 255 := by rw [hb]; rfl
  unfold grantRevoke
  rw [hf]
  exact if_pos rfl

/-- The end of a grant that holds neither a window nor a proof: its entry goes into its reservation (R99). -/
theorem endGrant_reserved (hd : grantNumbersDistinct s) (hq : s.store.queue.length < 16) (hg : granting g)
    (hr : g.reservation = true) (hb : g.binding = .none) (cause : CloseCause) :
    ∃ lamp, endGrant cause g s = { s with
      grants := { s.grants with
        grants := s.grants.grants.filter (fun y => decide (y.number ≠ g.number))
        lamp := lamp }
      store := { s.store with
        queue := s.store.queue ++ [.append (entryNow s (.grantClosed cause) (some g.number) (some g.slot) none)] }
      record := { s.record with mark := (s.record.mark + 1) % 4294967296, unrecorded := 0 } } := by
  have hs : abortBound g cause s = s := by rw [abortBound, hb]
  rw [endGrant_granting hg, hs]
  exact grantClose_reserved hd hq hr cause

/-- Settles O54. -/
theorem grantIsExtendedOrRevoked : Obligations.GrantIsExtendedOrRevoked := by
  intro m x g s hd hg hn ha
  have hfind := findGrant_of_mem hd hg
  refine ⟨fun seconds left after hs hl hafter h hb ht hlock he => ?_, fun h hb hr hnone hq => ?_,
    fun n hn hno h hb => ?_, fun h hb => ?_⟩
  · have f1 : fieldAt x.buffer 1 1 = g.number := by
      rw [hb, List.cons_append, List.cons_append, List.nil_append, fieldAt_cons, fieldAt_byte, toNat_byte,
        Nat.mod_eq_of_lt (by omega)]
    have f2 : fieldAt x.buffer 2 2 = seconds := by
      rw [hb, List.cons_append, List.cons_append, List.nil_append, fieldAt_cons, fieldAt_cons]
      exact (congrArg (fieldAt · 0 2) (List.append_nil _).symm).trans (fieldAt_two hs _)
    have hgo := grantExtend_active ht hlock ((congrArg _ f1).trans hfind) ha he
    rw [f1, f2, updateGrant_distinct hd] at hgo
    refine congrArg Host.Outcome.next ((serve_waits h _).trans (hgo.trans ((accept_waits h _ _).trans ?_)))
    rw [hafter, hl]
    rfl
  · have hgo := grantRevoke_one (s := s) hb (by omega)
    rw [hfind] at hgo
    obtain ⟨lamp, hend⟩ := endGrant_reserved hd hq (.inl ha) hr hnone .revoked
    refine ⟨endGrant .revoked g s, congrArg Host.Outcome.next ((serve_waits h _).trans (hgo.trans
      ((accept_waits h _ _).trans rfl))), ?_⟩
    rw [hend]
    exact ⟨rfl, rfl, rfl, rfl, rfl⟩
  · have hgo := grantRevoke_one (s := s) hb hn
    rw [findGrant_none.2 hno] at hgo
    exact congrArg Host.Outcome.next ((serve_waits h _).trans (hgo.trans (refuse_waits h _ _)))
  · refine ⟨endGrants .revoked s.grants.grants s, congrArg Host.Outcome.next ((serve_waits h _).trans
      ((grantRevoke_all hb).trans ((accept_waits h _ _).trans rfl))), (kept_endGrants _ _ s).failures, fun y hy => ?_⟩
    obtain ⟨k, -, hk, rfl⟩ := (endGrants_all hd .revoked).1 hy
    exact ⟨(caused_state _ k).trans hk, caused_isSome _ k⟩

end Sys2Proof.Machine
end

section
/-! A window that has ended is gone, and stays so; what presence loss does to the grants and their windows (R103,
R117). -/

namespace Sys2Proof.Machine

open Sys2Proof Sys2Proof.Safety

variable {s t : State} {v x : Window} {u w : Fin 2} {g y : Grant} {cause : CloseCause} {l : List Grant} {D : Prop} {a : Bool}

/-! ### The ends of windows -/

/-- No shared update opens a window. -/
theorem Move.staysClosed (hm : Move D a s t) (h : s.window u = none) : t.window u = none := by
  have hput : ∀ (w : Fin 2) (v x : Window), s.window w = some v → (setWindow w (some x) s).window u = none :=
    fun w v x hv => by
      rw [setWindow_window, if_neg fun e => by rw [e, hv] at h; cases h]
      exact h
  cases hm with
  | inert t hi => exact (congrArg (fun l => l.get u) hi.windows).trans h
  | ports t e _ => rw [e]; exact h
  | release n => rw [testHead_touches]; exact h
  | credit n v _ => cases n <;> exact h
  | exchanges t e _ => rw [e]; exact h
  | append d g i c => obtain ⟨q, m, n, e, _⟩ := appendEntry_shape d g i c s; rw [e]; exact h
  | window w v x hv _ _ => exact hput w v x hv
  | spend w v x d g i c hv _ _ =>
    obtain ⟨q, m, n, e, _⟩ := writeEntry_shape d g i c (setWindow w (some x) s)
    rw [e]
    exact hput w v x hv
  | windowGone w v x _ _ =>
    rw [removeWindow_shape]
    refine (setWindow_window s w u none).trans ?_
    split
    · rfl
    · exact h
  | grantClosed g cause _ => obtain ⟨q, m, n, l, e, _⟩ := grantClose_shape g cause s; rw [e]; exact h
  | _ => exact h

theorem Course.staysClosed (hc : Course D a s t) (h : s.window u = none) : t.window u = none :=
  hc.keeps (P := fun s => s.window u = none) Move.staysClosed h

theorem removeWindow_window (w u : Fin 2) (x : Window) (s : State) :
    (removeWindow w x s).window u = if u = w then none else s.window u := by
  rw [removeWindow_shape]
  exact setWindow_window s w u none

theorem removeWindow_gone (w : Fin 2) (x : Window) (s : State) : (removeWindow w x s).window w = none :=
  (removeWindow_window w w x s).trans (if_pos rfl)

theorem endActive_gone (w : Fin 2) (v : Window) (o : Outcome) (c : EndCause) (tell : Bool) (s : State) :
    (endActive w v o c tell s).window w = none := by
  unfold endActive
  dsimp only
  split
  · exact (course_reportEndedActive (D := False) (a := false) _ _ _).staysClosed (removeWindow_gone w v _)
  · exact removeWindow_gone w v _

theorem endPendingSilent_gone (w : Fin 2) (v : Window) (tell : Bool) (s : State) :
    (endPendingSilent w v tell s).window w = none := by
  unfold endPendingSilent
  dsimp only
  split
  · exact (course_reportEndedUnactivated (D := False) (a := false) _ _ _).staysClosed (removeWindow_gone w v _)
  · exact removeWindow_gone w v _

theorem endPending_gone (w : Fin 2) (v : Window) (o : Outcome) (c : EndCause) (tell : Bool) (s : State) :
    (endPending w v o c tell s).window w = none := by
  unfold endPending
  split <;> exact endPendingSilent_gone _ _ _ _

theorem abortWindow_gone (w : Fin 2) (r : Reason) (c : EndCause) (tell : Bool) (s : State) :
    (abortWindow w r c tell s).window w = none := by
  unfold abortWindow
  split
  · unfold endAborted
    split
    · exact endActive_gone _ _ _ _ _ _
    · exact endPending_gone _ _ _ _ _ _
  · next h => exact h

theorem abortWindow_none (h : s.window w = none) (r : Reason) (c : EndCause) (tell : Bool) :
    abortWindow w r c tell s = s := by
  rw [abortWindow, h]

theorem closed_window (h : ¬windowOpen s) (w : Fin 2) : s.window w = none := by
  obtain ⟨h0, h1⟩ := not_or.1 h
  obtain rfl | rfl : w = 0 ∨ w = 1 := by omega
  · exact not_ne_iff.1 h0
  · exact not_ne_iff.1 h1

/-! ### The windows of ended grants -/

theorem abortBound_gone (h : g.binding = .pending w ∨ g.binding = .bound w) (cause : CloseCause) (s : State) :
    (abortBound g cause s).window w = none := by
  unfold abortBound
  obtain h | h := h <;> rw [h] <;> exact abortWindow_gone _ _ _ _ _

theorem abortBound_closed (h : ∀ w, s.window w = none) (g : Grant) (cause : CloseCause) : abortBound g cause s = s := by
  unfold abortBound
  split
  · exact abortWindow_none (h _) _ _ _
  · exact abortWindow_none (h _) _ _ _
  · rfl
  · rfl

@[simp] theorem grantClose_window (g : Grant) (cause : CloseCause) (s : State) (w : Fin 2) :
    (grantClose g cause s).window w = s.window w := by
  obtain ⟨q, m, n, l, e, -⟩ := grantClose_shape g cause s
  rw [e]
  rfl

theorem course_endGrants_free (cause : CloseCause) (l : List Grant) (s : State) :
    Course False false s (endGrants cause l s) :=
  course_endGrants cause False.elim

theorem endGrant_gone (hg : granting g) (h : g.binding = .pending w ∨ g.binding = .bound w) (cause : CloseCause)
    (s : State) : (endGrant cause g s).window w = none := by
  rw [endGrant_granting hg, grantClose_window]
  exact abortBound_gone h cause s

theorem endGrants_gone (hm : g ∈ l) (hg : granting g) (h : g.binding = .pending w ∨ g.binding = .bound w)
    (cause : CloseCause) (s : State) : (endGrants cause l s).window w = none := by
  induction l generalizing s with
  | nil => cases hm
  | cons k l ih =>
    obtain rfl | hm := List.mem_cons.1 hm
    · exact (course_endGrants_free cause l _).staysClosed (endGrant_gone hg h cause s)
    · exact ih hm _

/-! ### The digest of a proof that is lost -/

/-- The result of the digest that runs, if one does, is to be discarded. -/
def digestLost (s : State) : Prop := ∀ d, s.grants.digest = some d → d.discarded = true

theorem endGrant_digest (hg : g.state ≠ .checking) (cause : CloseCause) (s : State) :
    (endGrant cause g s).grants.digest = s.grants.digest := by
  obtain hc | hr | hg := grant_cases g
  · exact absurd hc hg
  · rw [endGrant_recording hr]
    rfl
  · rw [endGrant_granting hg, (kept_grantClose _ _ _).digest]
    unfold abortBound
    split
    · exact (kept_abortWindow _ _ _ _ _).digest
    · exact (kept_abortWindow _ _ _ _ _).digest
    · rfl
    · rfl

theorem endGrant_checking_lost (hg : g.state = .checking) (cause : CloseCause) (s : State) :
    digestLost (endGrant cause g s) := by
  intro d hd
  rw [endGrant_checking hg, answerProof_grants] at hd
  obtain ⟨e, -, rfl⟩ := Option.map_eq_some_iff.1 hd
  rfl

theorem digestLost_endGrant (h : digestLost s) (g : Grant) (cause : CloseCause) : digestLost (endGrant cause g s) := by
  by_cases hg : g.state = .checking
  · exact endGrant_checking_lost hg cause s
  · intro d hd
    exact h d ((endGrant_digest hg cause s).symm.trans hd)

theorem digestLost_endGrants (h : digestLost s) (l : List Grant) (cause : CloseCause) :
    digestLost (endGrants cause l s) := by
  induction l generalizing s with
  | nil => exact h
  | cons g l ih => exact ih (digestLost_endGrant h g cause)

theorem endGrants_lost (h : ∃ g ∈ l, g.state = .checking) (cause : CloseCause) (s : State) :
    digestLost (endGrants cause l s) := by
  obtain ⟨g, hm, hg⟩ := h
  induction l generalizing s with
  | nil => cases hm
  | cons k l ih =>
    obtain rfl | hm := List.mem_cons.1 hm
    · exact digestLost_endGrants (endGrant_checking_lost hg cause s) l cause
    · exact ih _ hm

/-! ### The entries of ended grants, with no window open -/

/-- What a GRANT_CLOSED entry says of its grant. -/
def closedNote (cause : CloseCause) (g : Grant) : Detail × Option Nat × Option (Fin 8) :=
  (.grantClosed cause, some g.number, some g.slot)

/-- What an entry says of its grant. -/
def noteOf (e : Entry) : Detail × Option Nat × Option (Fin 8) := (e.detail, e.grant, e.slot)

@[simp] theorem answerProof_store (n : Nat) (reply : List Byte) (s : State) : (answerProof n reply s).store = s.store := by
  rw [answerProof_eq]

theorem endGrant_enters (hd : grantNumbersDistinct s) (hw : ∀ w, s.window w = none)
    (hr : granting g → g.reservation = true) (hq : s.store.queue.length < 16) (cause : CloseCause) :
    ∃ l : List Entry, (endGrant cause g s).store.queue = s.store.queue ++ l.map .append ∧
      l.map noteOf = ([g].filter (fun g => decide (granting g))).map (closedNote cause) := by
  obtain hc | hc | hg := grant_cases g
  · refine ⟨[], ?_, ?_⟩
    · rw [endGrant_checking hc, answerProof_store]
      exact (List.append_nil _).symm
    · simp [granting, hc]
  · refine ⟨[], ?_, ?_⟩
    · rw [endGrant_recording hc]
      exact (List.append_nil _).symm
    · simp [granting, hc]
  · obtain ⟨lamp, e⟩ := grantClose_reserved hd hq (hr hg) cause
    refine ⟨[entryNow s (.grantClosed cause) (some g.number) (some g.slot) none], ?_, ?_⟩
    · rw [endGrant_granting hg, abortBound_closed hw, e]
      rfl
    · have hf : [g].filter (fun g => decide (granting g)) = [g] := List.filter_cons_of_pos (decide_eq_true hg)
      rw [hf]
      rfl

/-- With no window open and room in the queue, the end of each ACTIVE or HELD grant is entered, in the order of the
list. -/
theorem endGrants_enter (hd : grantNumbersDistinct s) (hw : ∀ w, s.window w = none)
    (hr : ∀ g ∈ l, granting g → g.reservation = true) (hq : s.store.queue.length + l.length ≤ 16)
    (cause : CloseCause) :
    ∃ m : List Entry, (endGrants cause l s).store.queue = s.store.queue ++ m.map .append ∧
      m.map noteOf = (l.filter (fun g => decide (granting g))).map (closedNote cause) := by
  induction l generalizing s with
  | nil => exact ⟨[], (List.append_nil _).symm, rfl⟩
  | cons g l ih =>
    rw [List.length_cons] at hq
    obtain ⟨m, hm, hn⟩ := endGrant_enters (g := g) hd hw (hr g List.mem_cons_self) (by omega) cause
    have hlen : m.length ≤ 1 := by
      have := congrArg List.length hn
      rw [List.length_map, List.length_map] at this
      exact this.trans_le (List.length_filter_le _ _)
    obtain ⟨m', hm', hn'⟩ := ih (s := endGrant cause g s) (endGrant_distinct hd cause g)
      (fun w => (course_endGrants_free cause [g] s).staysClosed (hw w))
      (fun k hk => hr k (List.mem_cons_of_mem _ hk)) (by rw [hm, List.length_append, List.length_map]; omega)
    refine ⟨m ++ m', ?_, ?_⟩
    · rw [endGrants_cons, hm', hm, List.map_append, List.append_assoc]
    · rw [List.map_append, hn, hn', ← List.map_append, ← List.filter_append]
      rfl

/-! ### Presence loss (R103) -/

/-- The CHECKING grants, and the others. -/
abbrev checkingGrants (s : State) : List Grant := s.grants.grants.filter (fun g => g.state == .checking)
abbrev otherGrants (s : State) : List Grant := s.grants.grants.filter (fun g => g.state != .checking)

/-- Once the challenge has gone and the CHECKING grants have ended. -/
abbrev proofsLost (s : State) : State :=
  endGrants .presence (checkingGrants s) { s with grants := { s.grants with challenge := none } }

theorem presenceLost_eq (s : State) : presenceLost s = endGrants .presence (otherGrants s) (proofsLost s) := rfl

theorem proofsLost_distinct (hd : grantNumbersDistinct s) : grantNumbersDistinct (proofsLost s) :=
  endGrants_distinct (s := { s with grants := { s.grants with challenge := none } }) hd _ _

/-- The CHECKING grants have left the table. -/
theorem mem_proofsLost_iff (hd : grantNumbersDistinct s) :
    y ∈ (proofsLost s).grants.grants ↔ y ∈ s.grants.grants ∧ y.state ≠ .checking := by
  refine (mem_endGrants_iff (s := { s with grants := { s.grants with challenge := none } }) hd
    (hd.sublist (List.filter_sublist.map _)) (fun g hg => (List.mem_filter.1 hg).1) _ y).trans
    ⟨?_, fun ⟨hy, hc⟩ => .inl ⟨hy, fun g hg e => ?_⟩⟩
  · rintro (⟨hy, hn⟩ | ⟨g, hg, hr, -⟩)
    · exact ⟨hy, fun hc => hn y (List.mem_filter.2 ⟨hy, by simp [hc]⟩) rfl⟩
    · have hc := (List.mem_filter.1 hg).2
      rw [hr] at hc
      cases hc
  · obtain ⟨hg, hk⟩ := List.mem_filter.1 hg
    obtain rfl : y = g := List.inj_on_of_nodup_map hd hy hg e
    exact hc (beq_iff_eq.1 hk)

/-- Only RECORDING grants with a cause are left after presence loss. -/
theorem mem_presenceLost_iff (hd : grantNumbersDistinct s) :
    y ∈ (presenceLost s).grants.grants ↔
      ∃ g ∈ s.grants.grants, g.state = .recording ∧ y = caused .presence g := by
  rw [presenceLost_eq, mem_endGrants_iff (proofsLost_distinct hd) (hd.sublist (List.filter_sublist.map _))
    fun g hg => (mem_proofsLost_iff hd).2 ⟨(List.mem_filter.1 hg).1, by simpa using (List.mem_filter.1 hg).2⟩]
  constructor
  · rintro (⟨hy, hn⟩ | ⟨g, hg, hr, e⟩)
    · obtain ⟨hy, hc⟩ := (mem_proofsLost_iff hd).1 hy
      exact absurd rfl (hn y (List.mem_filter.2 ⟨hy, by simpa using hc⟩))
    · exact ⟨g, (List.mem_filter.1 hg).1, hr, e⟩
  · rintro ⟨g, hg, hr, e⟩
    exact .inr ⟨g, List.mem_filter.2 ⟨hg, by simp [hr]⟩, hr, e⟩

/-- What presence loss leaves, but for the challenge and the digest. -/
theorem kept_presenceLost (s : State) :
    Kept (withDigest { s with grants := { s.grants with challenge := none } } (presenceLost s).grants.digest)
      (presenceLost s) :=
  ((kept_endGrants .presence (checkingGrants s) { s with grants := { s.grants with challenge := none } }).withDigest).trans
    (kept_endGrants .presence (otherGrants s) (proofsLost s))

theorem presenceLost_digest (h : ∃ g ∈ s.grants.grants, g.state = .checking) : digestLost (presenceLost s) := by
  obtain ⟨g, hg, hc⟩ := h
  exact digestLost_endGrants (endGrants_lost ⟨g, List.mem_filter.2 ⟨hg, by simp [hc]⟩, hc⟩ _ _) _ _

theorem presenceLost_gone (hg : g ∈ s.grants.grants) (hs : granting g)
    (h : g.binding = .pending w ∨ g.binding = .bound w) : (presenceLost s).window w = none :=
  endGrants_gone (List.mem_filter.2 ⟨hg, by obtain e | e := hs <;> simp [e]⟩) hs h _ _

/-- With no window open, presence loss enters the end of each ACTIVE or HELD grant, in table order. -/
theorem presenceLost_enters (hd : grantNumbersDistinct s) (hw : ∀ w, s.window w = none)
    (hr : ∀ g ∈ s.grants.grants, granting g → g.reservation = true)
    (hq : s.store.queue.length + s.grants.grants.length ≤ 16) :
    ∃ m : List Entry, (presenceLost s).store.queue = s.store.queue ++ m.map .append ∧
      m.map noteOf = (s.grants.grants.filter (fun g => decide (granting g))).map (closedNote .presence) := by
  have hlen : ∀ p : Grant → Bool, (s.grants.grants.filter p).length ≤ s.grants.grants.length :=
    fun p => List.length_filter_le p _
  obtain ⟨m, hm, hn⟩ := endGrants_enter (s := { s with grants := { s.grants with challenge := none } })
    (l := checkingGrants s) hd hw (fun g hg => hr g (List.mem_filter.1 hg).1) (by
      have := hlen fun g => g.state == .checking
      exact (Nat.add_le_add_left this _).trans hq) .presence
  have hnone : (checkingGrants s).filter (fun g => decide (granting g)) = [] := by
    rw [List.filter_filter, List.filter_eq_nil_iff]
    intro g _ h
    obtain ⟨h1, h2⟩ := Bool.and_eq_true _ _ ▸ h
    obtain e | e := of_decide_eq_true h1 <;> rw [e] at h2 <;> cases h2
  rw [hnone, List.map_nil, List.map_eq_nil_iff] at hn
  rw [hn, List.map_nil, List.append_nil] at hm
  obtain ⟨m', hm', hn'⟩ := endGrants_enter (s := proofsLost s) (l := otherGrants s) (proofsLost_distinct hd)
    (fun w => (course_endGrants_free _ _ _).staysClosed (hw w)) (fun g hg => hr g (List.mem_filter.1 hg).1) (by
      rw [hm]
      exact (Nat.add_le_add_left (hlen fun g => g.state != .checking) _).trans hq) .presence
  refine ⟨m', hm'.trans (congrArg (· ++ m'.map .append) hm), hn'.trans (congrArg (List.map _) ?_)⟩
  rw [List.filter_filter]
  refine List.filter_congr fun g _ => ?_
  rw [Bool.and_eq_left_iff_imp]
  intro h
  obtain e | e := of_decide_eq_true h <;> rw [e] <;> rfl

/-- The end of the only grant, BOUND to its window: the window's entry, then the grant's. -/
theorem presenceLost_bound {r : WindowRun} {n k : Nat} (h : s.grants.grants = [g]) (hg : granting g)
    (hb : g.binding = .bound w) (hr : g.reservation = true) (hv : s.window w = some v) (hrun : v.run = some r)
    (hrange : v.range = some (n, k)) (h1 : 1 ≤ v.reservations) (hl : linkedExchange s w = none)
    (hq : s.store.queue.length + 2 ≤ 16) : ∃ d e,
      (presenceLost s).store.queue = s.store.queue ++ [StoreRequest.append d, .append e] ∧
      (presenceLost s).agent.attention.downloadEnded = true ∧
      d.detail = .downloadEnded n k r.remaining .aborted .presence ∧
      d.channel = some (v.channel, (s.channel v.channel).label) ∧
      e.detail = .grantClosed .presence ∧ e.grant = some g.number := by
  have hne : g.state ≠ .checking := by obtain e | e := hg <;> rw [e] <;> decide
  have hc : checkingGrants s = [] := by simp [checkingGrants, h, hne]
  have ho : otherGrants s = [g] := by simp [otherGrants, h, hne]
  have heq : presenceLost s =
      grantClose g .presence (abortBound g .presence { s with grants := { s.grants with challenge := none } }) := by
    rw [presenceLost_eq, proofsLost, hc, ho, endGrants_cons, endGrant_granting hg]
    rfl
  have hend : abortBound g .presence { s with grants := { s.grants with challenge := none } } =
      removeWindow w v (appendEnded w v .aborted .presence { s with grants := { s.grants with challenge := none } }) := by
    have hv' : State.window { s with grants := { s.grants with challenge := none } } w = some v := hv
    rw [abortBound, hb]
    unfold abortWindow
    dsimp only
    rw [hv']
    dsimp only
    rw [closeLinked_none (by exact hl), endAborted, hrun]
    rfl
  have hq1 : s.store.queue.length < 16 := by omega
  obtain ⟨lamp, e⟩ := removeWindow_entered (s := { s with grants := { s.grants with challenge := none } }) (w := w) h1
    hq1 hrange .aborted .presence
  rw [heq, hend, e, grantClose, hr, appendInto_held, writeEntry_room (by
    simp only [dropGrant_store, List.length_append, List.length_singleton]
    omega)]
  refine ⟨_, _, (List.append_assoc _ _ _), rfl, ?_, rfl, rfl, rfl⟩
  rw [endRemaining, hrun]

theorem debounced_deasserted (h : s.lines.raw = false) : debounced s = presenceLost { s with
    lines := { s.lines with tooldet := false, debounce := 0, tooldetChanged := true }
    mirror := Vector.replicate 32 .quiet } := by
  unfold debounced
  simp only [h, Bool.false_eq_true, if_false]
  rfl

/-- Settles O23: the debounced line is deasserted, and presence loss follows. -/
theorem presenceLossEndsEveryGrant : Obligations.PresenceLossEndsEveryGrant := by
  intro s ha ht hd c hc
  obtain ⟨z, hz, hraw⟩ : ∃ z, z = { s with
      lines := { s.lines with raw := false, tooldet := false, debounce := 0, tooldetChanged := true }
      mirror := Vector.replicate 32 .quiet } ∧ exec c s = .next (presenceLost z) := by
    refine ⟨_, rfl, ?_⟩
    obtain ⟨rfl, hn⟩ | ⟨rfl, hn⟩ := hc
    · rw [awake_next ha rfl, sampleTooldet_takes (by rw [ht]; decide) hn, debounced_deasserted rfl]
    · rw [awake_next ha rfl, debounceCompletes_changed (by rw [ht, hn]; decide), debounced_deasserted hn]
      exact congrArg (fun b => Host.Outcome.next (presenceLost { s with
        lines := { s.lines with raw := b, tooldet := false, debounce := 0, tooldetChanged := true }
        mirror := Vector.replicate 32 .quiet })) hn
  have hdz : grantNumbersDistinct z := by rw [hz]; exact hd
  have hk := kept_presenceLost z
  have hg : z.grants = s.grants := by rw [hz]
  have hst : z.store = s.store := by rw [hz]
  have hi : z.inspector = s.inspector := by rw [hz]
  have hx : z.exchanges = s.exchanges := by rw [hz]
  have hwin : ∀ w, z.window w = s.window w := fun w => window_of_inspector hi
  refine ⟨_, hraw, ?_, ?_, ?_, ?_, fun g hgm => ?_, fun h => ?_, ?_, ?_, ?_, fun i => ?_, ?_, ?_, ?_, ?_,
    fun g hgm hs w h => ?_, fun hw hr hq => ?_, fun g w v r a l h hs hb hr hv hrun hrange h1 hl hq => ?_⟩
  · rw [hk.lines, hz]
  · rw [hk.lines, hz]
  · rw [hk.lines, hz]
  · exact hk.challenge
  · obtain ⟨y, hy, hr, rfl⟩ := (mem_presenceLost_iff hdz).1 hgm
    exact ⟨(caused_state _ y).trans hr, caused_isSome _ y, y, by rwa [hg] at hy, (caused_number _ y).symm, hr⟩
  · exact presenceLost_digest (by rw [hg]; exact h)
  · exact hk.failures.trans (congrArg GrantUnit.failures hg : z.grants.failures = _)
  · exact hk.lockout.trans (congrArg GrantUnit.lockout hg : z.grants.lockout = _)
  · exact hk.slots.trans (congrArg GrantUnit.slots hg : z.grants.slots = _)
  · rw [hk.mirror, hz]
    simp
  · rw [hk.lines, hz]
  · rw [hk.lines, hz]
  · rw [hk.signals, hz]
  · rw [hk.kept, hz]
  · exact presenceLost_gone (by rw [hg]; exact hgm) hs h
  · rw [← hst, ← hg]
    refine presenceLost_enters hdz (fun w => ?_) (by rw [hg]; exact hr) (by rw [hst, hg]; exact hq)
    rw [hwin]
    exact closed_window hw w
  · have hc : z.channel v.channel = s.channel v.channel := by rw [hz]; rfl
    rw [← hst, ← hc]
    exact presenceLost_bound (by rw [hg]; exact h) hs hb hr ((hwin w).trans hv) hrun hrange h1
      (by rw [linkedExchange, hx]; exact hl) (by rw [hst]; exact hq)

end Sys2Proof.Machine
end

section
/-! The timers of the Grant Unit and of part time, and what a tick leaves of each field (R90, R97, R100, R106, R149). -/

namespace Sys2Proof.Machine

open Sys2Proof Sys2Proof.Safety

variable {s t : State} {g : Grant} {n : Nat} {w : Fin 2}

/-! ### A tick -/

theorem tickAwake_channelExchange (s : State) (c : Fin 16) : channelExchange (tickAwake s) c =
    (channelExchange s c).map (fun x =>
      { x with seg := x.seg.tick, timer := x.timer.tick, gapTimer := countDown x.gapTimer }) := by
  have h : channelRecords (tickAwake s) = (channelRecords s).map (fun x =>
      { x with seg := x.seg.tick, timer := x.timer.tick, gapTimer := countDown x.gapTimer }) := by
    simp only [channelRecords, tickAwake, List.filterMap_map, List.map_filterMap]
    refine List.filterMap_congr fun e _ => ?_
    cases e <;> rfl
  rw [channelExchange_eq, channelExchange_eq, h, List.find?_map]
  rfl

theorem tickAwake_mgmtExchange (s : State) (m : Mgmt) : mgmtExchange (tickAwake s) m =
    (mgmtExchange s m).map (fun x => { x with seg := x.seg.tick, gapTimer := countDown x.gapTimer }) := by
  have h : mgmtRecords (tickAwake s) = (mgmtRecords s).map (fun x =>
      { x with seg := x.seg.tick, gapTimer := countDown x.gapTimer }) := by
    simp only [mgmtRecords, tickAwake, List.filterMap_map, List.map_filterMap]
    refine List.filterMap_congr fun e _ => ?_
    cases e <;> rfl
  rw [mgmtExchange_eq, mgmtExchange_eq, h, List.find?_map]
  rfl

theorem step_idle (h : s.pending = []) : step s = .next (tick s) := by rw [step, h]

theorem tick_awake (h : s.part.awake = true) : tick s = tickSecond (tickAwake s) := by
  rw [tick_eq, if_pos h]

theorem tick_asleep (h : s.part.awake = false) : tick s = tickSecond s := by
  rw [tick_eq, if_neg (by rw [h]; decide)]

theorem tick_record (s : State) : (tick s).record = { s.record with second := s.record.second - 1 } := by
  rw [tick_eq]
  split <;> rfl

theorem tickAwake_port (s : State) (p : Port) : (tickAwake s).port p = (s.port p).tick := by
  cases p <;> rfl

/-! ### The seconds of a grant (R100) -/

theorem secondOver_active (hf : findGrant s n = some g) (ha : g.state = .active) (hs : g.seconds ≠ none) :
    secondOver n s = if g.remaining ≤ 1 then
        grantExpired { g with remaining := 0 } (updateGrant n (fun x => { x with remaining := 0 }) s)
      else updateGrant n (fun x => { x with remaining := g.remaining - 1, seconds := some 1000 }) s := by
  unfold secondOver
  rw [hf]
  exact if_neg (not_or.2 ⟨not_not_intro ha, hs⟩)

theorem updateGrant_keeps_distinct (hd : grantNumbersDistinct s) (n : Nat) {f : Grant → Grant}
    (hf : ∀ y, (f y).number = y.number) : grantNumbersDistinct (updateGrant n f s) := by
  unfold grantNumbersDistinct
  rw [updateGrant_distinct hd, List.map_map]
  refine (congrArg List.Nodup (List.map_congr_left fun y _ => ?_)).mpr hd
  by_cases hn : y.number = n <;> simp [hn, hf]

/-- Changing a grant twice. -/
theorem updateGrant_twice (hd : grantNumbersDistinct s) (n : Nat) {f h k : Grant → Grant}
    (hf : ∀ y, (f y).number = y.number) (hk : ∀ y, h (f y) = k y) :
    updateGrant n h (updateGrant n f s) = { s with grants := { s.grants with grants := grantsWith s n k } } := by
  rw [updateGrant_distinct (updateGrant_keeps_distinct hd n hf), updateGrant_distinct hd]
  have : grantsWith { s with grants := { s.grants with grants := grantsWith s n f } } n h = grantsWith s n k := by
    refine (List.map_map ..).trans (List.map_congr_left fun y _ => ?_)
    by_cases hn : y.number = n <;> simp [hn, hf, hk]
  exact congrArg (fun l => ({ s with grants := { s.grants with grants := l } } : State)) this

/-- A grant that is changed and then taken off the table. -/
theorem filter_grantsWith (s : State) (n : Nat) {f : Grant → Grant} (hf : ∀ y, (f y).number = y.number) :
    (grantsWith s n f).filter (fun y => decide (y.number ≠ n)) =
      s.grants.grants.filter (fun y => decide (y.number ≠ n)) := by
  unfold grantsWith
  induction s.grants.grants with
  | nil => rfl
  | cons y l ih =>
    rw [List.map_cons]
    by_cases hn : y.number = n
    · rw [if_pos hn, List.filter_cons_of_neg (by simp [hf, hn]), List.filter_cons_of_neg (by simp [hn])]
      exact ih
    · rw [if_neg hn, List.filter_cons_of_pos (by simp [hn]), List.filter_cons_of_pos (by simp [hn])]
      exact congrArg _ ih

/-- Settles O55. -/
theorem grantTimersAndPartTimeRun : Obligations.GrantTimersAndPartTimeRun := by
  refine ⟨fun s t hp hstep less hless => ?_, fun s t hpl hl h => lamp_step hpl hl h, fun s => ⟨rfl, fun ha => ⟨?_,
    fun left q hl hf hq => ?_, fun lit left hl => ?_, fun n g left hd hg hn hact hs => ?_⟩⟩⟩
  · obtain rfl : less = countDown := funext fun o => hless o
    obtain rfl : tick s = t := Host.Outcome.next.inj ((step_idle hp).symm.trans hstep)
    refine ⟨tick_record s, fun ha => by rw [tick_asleep ha]; rfl, fun ha => ?_⟩
    rw [tick_awake ha]
    refine ⟨rfl, rfl, rfl, rfl, fun p => tickAwake_port s p, rfl, fun i => mapAll_get _ _ i, fun i n f => ?_,
      fun c x hx => ?_, fun m x hx => ?_, rfl, fun lit n h => congrArg Lamp.tick h, fun w => tickAwake_window s w⟩
    · have hm : (tickAwake s).mirror.get i = (s.mirror.get i).tick := mapAll_get _ _ i
      exact ⟨fun h => hm.trans (congrArg _ h), fun h => hm.trans (congrArg _ h), fun h => hm.trans (congrArg _ h)⟩
    · refine ⟨_, (tickAwake_channelExchange s c).trans (congrArg _ hx), rfl, fun n h => congrArg ReplyTimer.tick h,
        fun h => ?_⟩
      cases ht : x.timer with
      | running n => exact absurd ht (h n)
      | _ => simp only [ht, ReplyTimer.tick]
    · exact (tickAwake_mgmtExchange s m).trans (congrArg _ hx)
  · rw [awake_next ha rfl]
  · have he : exec .lockoutExpiry s = .next (writeFailures 0 q) := by
      rw [awake_next ha rfl, lockoutOver, hl, hq]
      exact congrArg Host.Outcome.next (if_neg (by rw [hf]; decide))
    subst hq
    exact ⟨fun h => he.trans (congrArg _ (writeFailures_room (by exact h) 0)),
      fun h => he.trans (congrArg _ (writeFailures_full (by exact h) 0))⟩
  · rw [awake_next ha rfl, hl]
    rfl
  · have hfind : findGrant s n.val = some g := hn ▸ findGrant_of_mem hd hg
    have he : exec (.grantSecondsTimerExpiry n) s = .next (secondOver n.val s) := by rw [awake_next ha rfl]
    rw [secondOver_active hfind hact fun h => nomatch hs.symm.trans h] at he
    refine ⟨fun h1 after hafter => ?_, fun h1 hb after hafter => ?_, fun h1 hb hr hq => ?_⟩
    · rw [he, if_neg (by omega), updateGrant_distinct hd, hafter]
    · rw [he, if_pos h1, hafter]
      have hexp : ∀ z, grantExpired { g with remaining := 0 } z = updateGrant n.val
          (fun x => { x with state := .held, remaining := 0, seconds := none }) z := fun z => by
        rw [← hn]
        obtain ⟨w, hb | hb⟩ := hb <;> (unfold grantExpired; dsimp only; rw [hb])
      exact congrArg _ ((hexp _).trans (updateGrant_twice hd n.val (fun _ => rfl) fun _ => rfl))
    · have hd' : grantNumbersDistinct (updateGrant n.val (fun x => { x with remaining := 0 }) s) :=
        updateGrant_keeps_distinct hd n.val fun _ => rfl
      obtain ⟨lamp, hend⟩ := endGrant_reserved (g := { g with remaining := 0 }) hd' hq (.inl hact) hr hb .expired
      have hexp : grantExpired { g with remaining := 0 } (updateGrant n.val (fun x => { x with remaining := 0 }) s) =
          endGrant .expired { g with remaining := 0 } (updateGrant n.val (fun x => { x with remaining := 0 }) s) := by
        unfold grantExpired
        dsimp only
        rw [hb]
      refine ⟨_, he.trans (congrArg Host.Outcome.next ((if_pos h1).trans (hexp.trans hend))), ?_, ?_, ?_⟩
      · dsimp only
        rw [hn, updateGrant_distinct hd]
        exact filter_grantsWith s n.val fun _ => rfl
      · dsimp only
        rw [hn]
        rfl
      · rfl

end Sys2Proof.Machine
end

section
/-! Requests that join the store request queue: writes of tables, credentials and the lock policy, and acknowledgements
(R88, R89, R150, R160, R162). -/

namespace Sys2Proof.Machine

open Sys2Proof Sys2Proof.Safety

variable {s t : State} {x : MgmtExchange} {g : Grant} {m : Mgmt} {n : Nat} {e : TableEntry}

theorem queueTakesWrite_room (h : s.store.queue.length < 8) : queueTakesWrite s = true := decide_eq_true h

/-! ### Credentials (R88, R89) -/

theorem credentialWrite_joins (k : Fin 8) (hn : fieldAt x.buffer 1 1 = k.val)
    (hm : manageGrant s ≠ none ∨ ∀ i, (s.grants.slots.get i).state ≠ .live) (hl : s.lines.stlock = false)
    (hf : s.tables.ports.lock ≠ .frozen) (hs : (s.grants.slots.get k).state = .empty)
    (hq : s.store.queue.length < 8) : credentialWrite .W x s =
      storeOffered s x (.credentialWrite k (BitVec.ofNat 128 (fieldAt x.buffer 2 16))
        ((manageGrant s).map (·.number)) x.id) := by
  have hk : fieldAt x.buffer 1 1 < 8 := hn ▸ k.isLt
  have hfin : (⟨fieldAt x.buffer 1 1, hk⟩ : Fin 8) = k := Fin.ext hn
  have hfirst : ¬(Mgmt.W ≠ Mgmt.W ∨
      s.grants.slots.toList.all (fun k => k.state != .live) = false ∧ manageGrant s = none) := by
    rintro (h | ⟨h, hnone⟩)
    · exact h rfl
    · obtain hm | hm := hm
      · exact hm hnone
      · obtain ⟨y, hy, hlive⟩ := List.all_eq_false.1 h
        obtain ⟨i, hi, rfl⟩ := List.getElem_of_mem hy
        exact hm ⟨i, by simpa using hi⟩ (by simpa [get_eq_getElem] using hlive)
  unfold credentialWrite
  refine (if_neg hfirst).trans ((if_neg (by simp [hl, hf])).trans ((dif_pos hk).trans ?_))
  rw [hfin]
  exact (if_neg (not_not_intro hs)).trans (if_neg (by rw [queueTakesWrite_room hq]; decide))

theorem credentialWithdraw_joins (k : Fin 8) (hn : fieldAt x.buffer 1 1 = k.val) (hm : manageGrant s = some g)
    (hs : (s.grants.slots.get k).state = .live) (hq : s.store.queue.length < 8) : credentialWithdraw .W x s =
      storeOffered s x (.credentialWithdraw k (some g.number) x.id) := by
  have hk : fieldAt x.buffer 1 1 < 8 := hn ▸ k.isLt
  have hfin : (⟨fieldAt x.buffer 1 1, hk⟩ : Fin 8) = k := Fin.ext hn
  unfold credentialWithdraw
  rw [hm]
  refine (dif_pos hk).trans ?_
  rw [hfin]
  exact (if_neg (not_not_intro hs)).trans (if_neg (by rw [queueTakesWrite_room hq]; decide))

/-! ### Tables and the lock policy (R159, R160, R162) -/

theorem entryNumber_lt (e : TableEntry) : entryNumber (tableOf e) (entryPlace e) < 256 := by
  cases e <;> simp only [tableOf, entryPlace, entryNumber] <;> omega

/-- The entry a Table Write spells, where its checks of form pass. -/
theorem writtenEntry_spelt {c : Byte} (hv : entryValid e) (hl : ∀ p, e = .portSettings p → p.lock = s.tables.ports.lock)
    (code : Byte) : writtenEntry s ([code, byte (tableNumber (tableOf e)),
      byte (entryNumber (tableOf e) (entryPlace e)), c] ++ encodeEntry e) = some e := by
  have h1 : ∀ l : List Byte, fieldAt (code :: byte (tableNumber (tableOf e)) :: l) 1 1 = tableNumber (tableOf e) :=
    fun l => by rw [fieldAt_cons, fieldAt_byte, toNat_byte, Nat.mod_eq_of_lt (tableNumber_lt _)]
  have h2 : ∀ l : List Byte, fieldAt (code :: byte (tableNumber (tableOf e)) ::
      byte (entryNumber (tableOf e) (entryPlace e)) :: l) 2 1 = entryNumber (tableOf e) (entryPlace e) :=
    fun l => by rw [fieldAt_cons, fieldAt_cons, fieldAt_byte, toNat_byte, Nat.mod_eq_of_lt (entryNumber_lt _)]
  have hlock : movesLock s e = false := by
    cases e with
    | portSettings p => simp [movesLock, hl p rfl]
    | _ => rfl
  simp only [List.cons_append, List.nil_append]
  rw [writtenEntry, h1, h2, readTable_number]
  simp only [List.drop_succ_cons, List.drop_zero, readEntry_encodeEntry hv, hlock, Bool.false_eq_true, if_false]

theorem lockAllows_of (h : s.tables.ports.lock = .unlocked ∨ s.tables.ports.lock = .line ∧ s.lines.stlock = false) :
    lockAllows s = true := by
  unfold lockAllows
  obtain h | ⟨h, hl⟩ := h
  · rw [h]
  · rw [h, hl]
    rfl

theorem writeStored_joins (hm : manageGrant s = some g)
    (hlock : s.tables.ports.lock = .unlocked ∨ s.tables.ports.lock = .line ∧ s.lines.stlock = false)
    (hw : writtenEntry s x.buffer = some e) (hc : clashes (storedTables s) e = false) (hq : s.store.queue.length < 8) :
    writeStored .W x s = storeOffered s x (.tableEntry e (some (g.number, g.slot)) x.id) := by
  have hg : manageOnW s .W = some g := hm
  unfold writeStored
  rw [hg]
  refine (if_neg (by rw [lockAllows_of hlock]; decide)).trans ?_
  rw [hw]
  exact (if_neg (by rw [hc]; decide)).trans (if_neg (by rw [queueTakesWrite_room hq]; decide))

theorem lockPolicyWrite_joins {p : LockPolicy} (hm : manageGrant s = some g) (hp : fieldAt x.buffer 1 1 = (lockByte p).toNat)
    (hl : s.lines.stlock = false) (hf : s.tables.ports.lock ≠ .frozen) (hne : p ≠ s.tables.ports.lock)
    (hq : s.store.queue.length < 8) :
    lockPolicyWrite .W x s = storeOffered s x (.lockPolicy p (some (g.number, g.slot)) x.id) := by
  have hg : manageOnW s .W = some g := hm
  unfold lockPolicyWrite
  rw [hg, hp, readLock_lockByte]
  exact (if_neg (by rw [hl]; decide)).trans ((if_neg hf).trans ((if_neg hne).trans
    (if_neg (by rw [queueTakesWrite_room hq]; decide))))

/-! ### Acknowledgements (R150) -/

theorem onCOrManage_of (h : m = .C ∨ manageGrant s ≠ none) : onCOrManage s m = true := by
  obtain rfl | h := h
  · rfl
  · cases m with
    | W => exact Option.isSome_iff_ne_none.2 h
    | C => rfl

theorem recordAcknowledge_joins (hm : m = .C ∨ manageGrant s ≠ none)
    (hn : min (fieldAt x.buffer 1 2) s.record.kept.length ≠ 0) (hq : s.store.queue.length < 8) :
    recordAcknowledge m x s =
      storeOffered s x (.trim (min (fieldAt x.buffer 1 2) s.record.kept.length) x.id) := by
  unfold recordAcknowledge
  exact (if_neg (by rw [onCOrManage_of hm]; decide)).trans ((if_neg hn).trans
    (if_neg (by rw [queueTakesWrite_room hq]; decide)))

/-- Settles O56. -/
theorem storeRequestsJoinTheQueue : Obligations.StoreRequestsJoinTheQueue := by
  intro x s hq
  refine ⟨fun k key h hb hlen hm hl hf hs => ?_, fun g hm => ⟨fun k h hb hs => ?_, fun e h hv hb hlock hp hc => ?_,
    fun p h hb hl hf hne => ?_⟩, fun m n hm h hn hb hmin => ?_⟩
  · have f1 : fieldAt x.buffer 1 1 = k.val := by
      rw [hb, List.cons_append, List.cons_append, List.nil_append, fieldAt_cons, fieldAt_byte, toNat_byte]
      omega
    have f2 : fieldAt x.buffer 2 16 = beNat key := by
      rw [hb]
      exact congrArg beNat (List.take_of_length_le hlen.le)
    have hgo := credentialWrite_joins k f1 hm hl hf hs hq
    rw [f2] at hgo
    exact congrArg _ ((serve_waits h _).trans hgo)
  · have f1 : fieldAt x.buffer 1 1 = k.val := by
      rw [hb, fieldAt_cons, fieldAt_byte, toNat_byte]
      omega
    exact congrArg _ ((serve_waits h _).trans (credentialWithdraw_joins k f1 hm hs hq))
  · have hw : writtenEntry s x.buffer = some e := by
      rw [hb]
      exact writtenEntry_spelt hv hp _
    have hstored : namesStored x = true := by
      rw [namesStored, hb]
      rfl
    exact congrArg _ ((serve_waits h _).trans ((if_pos hstored).trans (writeStored_joins hm hlock hw hc hq)))
  · have f1 : fieldAt x.buffer 1 1 = (lockByte p).toNat := by rw [hb, fieldAt_cons, fieldAt_byte]
    exact congrArg _ ((serve_waits h _).trans (lockPolicyWrite_joins hm f1 hl hf hne hq))
  · have f1 : fieldAt x.buffer 1 2 = n := by
      rw [hb]
      exact (congrArg (fieldAt · 0 2) (List.append_nil _).symm).trans (fieldAt_two hn _)
    have hgo := recordAcknowledge_joins hm (by rw [f1]; exact hmin) hq
    rw [f1] at hgo
    exact congrArg _ ((serve_waits h _).trans hgo)

end Sys2Proof.Machine
end

section
/-! What a working Table Write and a Table Reload leave (R3, R34, R85, R110, R138, R159, R161). -/

namespace Sys2Proof.Machine

open Sys2Proof Sys2Proof.Safety

variable {s t z : State} {x : MgmtExchange} {k k' : TableId} {i j : Nat} {e : TableEntry} {p : PortSettings} {q : Port}

/-! ### Entries of a copy -/

theorem take_entry_same (tb src : Tables) (k : TableId) (i : Nat) : (tb.take k src).entry k i = src.entry k i := by
  cases k <;> rfl

theorem take_entry_other (tb src : Tables) (h : k' ≠ k) (i : Nat) : (tb.take k src).entry k' i = tb.entry k' i := by
  cases k <;> cases k' <;> first | rfl | exact absurd rfl h

theorem withEntry_entry_self (tb : Tables) (e : TableEntry) :
    (tb.withEntry e).entry (tableOf e) (entryPlace e) = e := by
  cases e <;> simp only [Tables.withEntry, tableOf, entryPlace, Tables.entry, Fin.ofNat_val_eq_self, put_get_self]

theorem withEntry_entry_table (tb : Tables) (h : k ≠ tableOf e) (i : Nat) : (tb.withEntry e).entry k i = tb.entry k i := by
  cases e <;> cases k <;> first | rfl | exact absurd rfl h

/-- A place of a table that is not the one written. -/
theorem put_get_place {α : Type} {n : Nat} [NeZero n] (l : Vector α n) (a : Fin n) (y : α) (hj : j < n)
    (h : j ≠ a.val) : (put l a y).get (Fin.ofNat n j) = l.get (Fin.ofNat n j) := by
  rw [ofNat_eq hj]
  exact (put_get _ _ _ _).trans (if_neg fun hc => h (congrArg Fin.val hc))

theorem withEntry_entry_place (tb : Tables) (e : TableEntry) (hj : j < tableSize (tableOf e)) (h : j ≠ entryPlace e) :
    (tb.withEntry e).entry (tableOf e) j = tb.entry (tableOf e) j := by
  cases e with
  | portSettings p => exact absurd (Nat.lt_one_iff.1 hj) h
  | channel a y => exact congrArg _ (put_get_place _ a y hj h)
  | code a y => exact congrArg _ (put_get_place _ a y hj h)
  | policy a y => exact congrArg _ (put_get_place _ a y hj h)
  | signal a y => exact congrArg _ (put_get_place _ a y hj h)
  | mirror a y => exact congrArg _ (put_get_place _ a y hj h)
  | map a y => exact congrArg _ (put_get_place _ a y hj h)

theorem withEntry_entry_other (tb : Tables) (e : TableEntry) (hj : j < tableSize k)
    (h : k ≠ tableOf e ∨ j ≠ entryPlace e) : (tb.withEntry e).entry k j = tb.entry k j := by
  by_cases hk : k = tableOf e
  · subst hk
    exact withEntry_entry_place tb e hj (h.resolve_left fun hn => hn rfl)
  · exact withEntry_entry_table tb hk j

/-- The ends of windows change no table but the maps. -/
theorem Kept.entry (h : Kept z t) (hk : k ≠ .regionMap) (i : Nat) : t.tables.entry k i = z.tables.entry k i := by
  cases k with
  | portSettings => exact congrArg _ h.ports
  | channelTable => exact congrArg (fun l => TableEntry.channel _ (Vector.get l _)) h.channels
  | serviceClassMap => exact congrArg (fun l => TableEntry.code _ (Vector.get l _)) h.codes
  | classPolicy => exact congrArg (fun l => TableEntry.policy _ (Vector.get l _)) h.policies
  | signalTable => exact congrArg (fun l => TableEntry.signal _ (Vector.get l _)) h.signalTab
  | mirrorList => exact congrArg (fun l => TableEntry.mirror _ (Vector.get l _)) h.mirrors
  | regionMap => exact absurd rfl hk

/-! ### Port Settings (R3, R138) -/

theorem applyPorts_touches (p : PortSettings) (s : State) : applyPorts p s = { s with
    tables := { s.tables with ports := p }
    part := { s.part with draws := s.part.draws + 1 }
    ports := (applyPorts p s).ports
    meter := (applyPorts p s).meter } := by
  have h : applyPorts p s = testHead .C (testHead .E (settingsApplied p s)) := rfl
  rw [h, testHead_touches .C, testHead_touches .E, settingsApplied_shape]

/-- A port keeps everything but its rate, and the mark of a head that is released. -/
theorem applyPorts_port (p : PortSettings) (s : State) (q : Port) :
    (applyPorts p s).port q = { s.port q with
      rate := ((applyRates s.tables.ports p { s with tables := { s.tables with ports := p } }).port q).rate
      out := ((applyPorts p s).port q).out } ∧ queued (applyPorts p s) q = queued s q := by
  obtain ⟨h1, q1⟩ := testHead_port .C (testHead .E (settingsApplied p s)) q
  obtain ⟨h2, q2⟩ := testHead_port .E (settingsApplied p s) q
  have h3 : (settingsApplied p s).port q =
      (applyRates s.tables.ports p { s with tables := { s.tables with ports := p } }).port q := by cases q <;> rfl
  obtain ⟨r, h4⟩ := applyRates_port s.tables.ports p { s with tables := { s.tables with ports := p } } q
  have hs : State.port { s with tables := { s.tables with ports := p } } q = s.port q := by cases q <;> rfl
  rw [hs] at h4
  refine ⟨h1.trans ?_, q1.trans (q2.trans ?_)⟩
  · rw [h2, h3, h4]
    rfl
  · unfold queued
    rw [h3, h4]

/-- A port transmits its head, or is ready to receive, only while it is ACTIVE (R4, R8). -/
theorem portIdle_withdrawn (h : (s.port q).status = .withdrawn) : portIdle s q = true := by
  simp [portIdle, portSends, portReceives, headEligible, h]

theorem portIdle_sending {o : OutFrame} {l : List OutFrame} (h : (s.port q).status = .active)
    (ho : (s.port q).out = o :: l) (hr : q = .W ∨ o.released = true) : portIdle s q = false := by
  simp [portIdle, portSends, headEligible, h, ho, hr]

theorem portIdle_of (hp : t.port q = s.port q) (hd : t.part.draws = s.part.draws) : portIdle t q = portIdle s q := by
  simp only [portIdle, portSends, portReceives, hp, hd]

theorem applyRate_other {a : Port} (old new : PortSettings) (s : State) (h : q ≠ a) :
    (applyRate old new s a).port q = s.port q := by
  unfold applyRate
  split
  · rw [setPort_port, if_neg h]
  · rfl

theorem applyRate_draws (old new : PortSettings) (s : State) (a : Port) :
    (applyRate old new s a).part.draws = s.part.draws := by
  unfold applyRate
  split
  · cases a <;> rfl
  · rfl

theorem applyRate_rate (old new : PortSettings) (s : State) (q : Port) : ((applyRate old new s q).port q).rate =
    if settingsRate old q ≠ settingsRate new q ∧ portIdle s q = true then settingsRate new q else (s.port q).rate := by
  unfold applyRate
  split
  · rw [setPort_port, if_pos rfl]
  · rfl

/-- A written bit rate that changes holds at once at an idle port, and at no other (R3). -/
theorem applyRates_rate (old new : PortSettings) (s : State) (q : Port) : ((applyRates old new s).port q).rate =
    if settingsRate old q ≠ settingsRate new q ∧ portIdle s q = true then settingsRate new q else (s.port q).rate := by
  have hl : (applyRates old new s).port q =
      (applyRate old new (applyRate old new (applyRate old new s .W) .E) .C).port q := by cases q <;> rfl
  rw [hl]
  cases q with
  | W => rw [applyRate_other _ _ _ (by decide), applyRate_other _ _ _ (by decide), applyRate_rate]
  | E => rw [applyRate_other _ _ _ (by decide), applyRate_rate, applyRate_other _ _ _ (by decide),
      portIdle_of (applyRate_other _ _ _ (by decide)) (applyRate_draws _ _ _ _)]
  | C => rw [applyRate_rate, applyRate_other _ _ _ (by decide), applyRate_other _ _ _ (by decide),
      portIdle_of ((applyRate_other _ _ _ (by decide)).trans (applyRate_other _ _ _ (by decide)))
        ((applyRate_draws _ _ _ _).trans (applyRate_draws _ _ _ _))]

theorem applyPorts_rate (p : PortSettings) (s : State) (q : Port) : ((applyPorts p s).port q).rate =
    if settingsRate s.tables.ports q ≠ settingsRate p q ∧ portIdle s q = true then settingsRate p q
    else (s.port q).rate := by
  have hs : State.port { s with tables := { s.tables with ports := p } } q = s.port q := by cases q <;> rfl
  rw [(applyPorts_port p s q).1]
  refine (applyRates_rate _ _ _ q).trans ?_
  rw [portIdle_of (s := s) hs rfl, hs]

/-! ### Other entries (R34, R74, R85, R110) -/

/-- The entry a working write puts in place: a map keeps the marks that its regions hold (R110). -/
def placed (s : State) : TableEntry → TableEntry
  | .map i m => .map i (newMap s i m)
  | e => e

/-- A written entry in place, a mirror position QUIET and a signal STALE, before the windows are told. -/
def placing (e : TableEntry) (s : State) : State :=
  match e with
  | .signal i g => { s with tables := s.tables.withEntry (.signal i g), signals := put s.signals i .stale }
  | .mirror i r => { s with tables := s.tables.withEntry (.mirror i r), mirror := put s.mirror i .quiet }
  | e => { s with tables := s.tables.withEntry (placed s e) }

theorem placing_tables (e : TableEntry) (s : State) : (placing e s).tables = s.tables.withEntry (placed s e) := by
  cases e <;> rfl

theorem placing_inspector (e : TableEntry) (s : State) : (placing e s).inspector = s.inspector := by cases e <;> rfl

theorem placing_store (e : TableEntry) (s : State) : (placing e s).store = s.store := by cases e <;> rfl

theorem testWindows_closed (h : ∀ w, s.window w = none) : testWindows s = s := by simp [testWindows, testWindow, h]

/-- A working write puts the entry in place, and tells the windows. -/
theorem applyEntry_placing (h : ∀ p, e ≠ .portSettings p) (s : State) : Kept (placing e s) (applyEntry e s) ∧
    ((∀ w, s.window w = none) → applyEntry e s = placing e s) := by
  cases e with
  | portSettings p => exact absurd rfl (h p)
  | policy i p =>
    unfold applyEntry
    dsimp only
    split
    · exact ⟨kept_testWindows _, fun hw => testWindows_closed hw⟩
    · exact ⟨.refl _, fun _ => rfl⟩
  | signal i g =>
    exact ⟨kept_reportConditions _ _, fun hw => reportConditions_noWindow (s := placing (.signal i g) s) hw _⟩
  | _ => exact ⟨.refl _, fun _ => rfl⟩

theorem placed_of (h : tableOf e ≠ .regionMap) (s : State) : placed s e = e := by
  cases e with
  | map i m => exact absurd rfl h
  | _ => rfl

theorem placed_place (e : TableEntry) (s : State) : tableOf (placed s e) = tableOf e ∧
    entryPlace (placed s e) = entryPlace e := by cases e <;> exact ⟨rfl, rfl⟩

theorem applyEntry_entry (h : tableOf e ≠ .regionMap) (s : State) :
    (applyEntry e s).tables.entry (tableOf e) (entryPlace e) = e := by
  by_cases hp : ∃ p, e = .portSettings p
  · obtain ⟨p, rfl⟩ := hp
    rw [applyEntry, applyPorts_touches]
    rfl
  · rw [(applyEntry_placing (fun p he => hp ⟨p, he⟩) s).1.entry h, placing_tables, placed_of h]
    exact withEntry_entry_self _ _

/-- With no window open a working write changes its own entry alone. -/
theorem applyEntry_other (hw : ∀ w, s.window w = none) (hj : j < tableSize k)
    (h : k ≠ tableOf e ∨ j ≠ entryPlace e) : (applyEntry e s).tables.entry k j = s.tables.entry k j := by
  by_cases hp : ∃ p, e = .portSettings p
  · obtain ⟨p, rfl⟩ := hp
    rw [applyEntry, applyPorts_touches]
    exact withEntry_entry_other s.tables (.portSettings p) hj h
  · rw [(applyEntry_placing (fun p he => hp ⟨p, he⟩) s).2 hw, placing_tables]
    obtain ⟨h1, h2⟩ := placed_place e s
    exact withEntry_entry_other _ _ hj (by rw [h1, h2]; exact h)

theorem applyEntry_images (e : TableEntry) (s : State) : (applyEntry e s).store.images = s.store.images := by
  by_cases hp : ∃ p, e = .portSettings p
  · obtain ⟨p, rfl⟩ := hp
    rw [applyEntry, applyPorts_touches]
  · rw [(applyEntry_placing (fun p he => hp ⟨p, he⟩) s).1.images, placing_store]

theorem mergeMarks_region (o m : RegionMap) (i : Fin 3) : (mergeMarks o m).regions.get i = { m.regions.get i with
    writeBar := (m.regions.get i).writeBar || (o.regions.get i).writeBar
    eraseBar := (m.regions.get i).eraseBar || (o.regions.get i).eraseBar } := by
  simp [mergeMarks]

/-! ### The requests (R159, R161) -/

theorem manageOnW_isNone (h : manageGrant s ≠ none) : ¬(manageOnW s .W).isNone = true := by
  rw [Option.isNone_iff_eq_none]
  exact h

theorem writeWorking_writes (hm : manageGrant s ≠ none) (h3 : fieldAt x.buffer 3 1 = 0)
    (hw : writtenEntry s x.buffer = some e) (hc : clashes s.tables e = false) (hu : entryInUse s e = false)
    (hl : loosens s e = false) :
    writeWorking .W x s = accept x (writeReply x.buffer) (applyEntry e s) := by
  unfold writeWorking
  refine (if_neg (manageOnW_isNone hm)).trans ((if_neg (not_not_intro h3)).trans ?_)
  rw [hw]
  exact (if_neg (by rw [hc]; decide)).trans ((if_neg (by rw [hu]; decide)).trans (if_neg (by rw [hl]; decide)))

theorem tableReload_loads (hm : manageGrant s ≠ none) (h1 : fieldAt x.buffer 1 1 = tableNumber k)
    (hu : reloadInUse s k = false) (hc : reloadClash s k = false) : tableReload .W x s =
      accept x [byte (tableNumber k), yesNoByte (!(storedImage s k).passes)] (loadTable s k) := by
  unfold tableReload
  refine (if_neg (manageOnW_isNone hm)).trans ?_
  rw [h1, readTable_number]
  exact (if_neg (by rw [hu]; decide)).trans (if_neg (by rw [hc]; decide))

/-- With no window open a reload takes the table's content, and leaves the store. -/
theorem reloadEffects_closed (hw : ∀ w, s.window w = none) (k : TableId) :
    (reloadEffects k (reloaded s k) s).tables = reloaded s k ∧ (reloadEffects k (reloaded s k) s).store = s.store := by
  have hp : ∀ u : State, ∀ p, (applyPorts p u).tables = { u.tables with ports := p } ∧ (applyPorts p u).store = u.store :=
    fun u p => by
      rw [applyPorts_touches]
      exact ⟨rfl, rfl⟩
  cases k with
  | portSettings => exact hp s _
  | classPolicy =>
    have he : reloadEffects .classPolicy (reloaded s .classPolicy) s = { s with tables := reloaded s .classPolicy } :=
      testWindows_closed hw
    rw [he]
    exact ⟨rfl, rfl⟩
  | signalTable =>
    have he : reloadEffects .signalTable (reloaded s .signalTable) s =
        { s with tables := reloaded s .signalTable, signals := Vector.replicate 4 .stale } :=
      reportConditions_noWindow
        (s := { s with tables := reloaded s .signalTable, signals := Vector.replicate 4 .stale }) hw _
    rw [he]
    exact ⟨rfl, rfl⟩
  | _ => exact ⟨rfl, rfl⟩

theorem loadTable_leaves (hw : ∀ w, s.window w = none) (k : TableId) :
    (loadTable s k).tables = reloaded s k ∧ (loadTable s k).store = { s.store with
      fallback := put s.store.fallback (tableFin k) (!(storedImage s k).passes) } ∧
    ((storedImage s k).passes = false → (loadTable s k).agent.attention.fallback = true) := by
  obtain ⟨h1, h2⟩ := reloadEffects_closed hw k
  unfold loadTable
  cases hp : (storedImage s k).passes
  · refine ⟨h1, ?_, fun _ => rfl⟩
    exact congrArg (fun r : Store => { r with fallback := put r.fallback (tableFin k) true }) h2
  · refine ⟨h1, ?_, nofun⟩
    exact congrArg (fun r : Store => { r with fallback := put r.fallback (tableFin k) false }) h2

/-- Settles O57. -/
theorem workingTablesAreWrittenAndReloaded : Obligations.WorkingTablesAreWrittenAndReloaded := by
  intro x s hm
  refine ⟨fun e k i n hk hi hn h hb hv hp hc hu hl => ?_, fun k h hb hw hno hu hc ok hok => ?_⟩
  · subst hk hi hn
    have h3 : fieldAt x.buffer 3 1 = 0 := by rw [hb]; rfl
    have hwr : writtenEntry s x.buffer = some e := by
      rw [hb]
      exact writtenEntry_spelt hv hp _
    have hstored : ¬namesStored x = true := by
      rw [namesStored, h3]
      decide
    have hreply : writeReply x.buffer =
        [byte (tableNumber (tableOf e)), byte (entryNumber (tableOf e) (entryPlace e)), byte 0] := by
      rw [hb]
      rfl
    refine ⟨applyEntry e s, ?_, fun hk => applyEntry_entry hk s, ?_, ?_, ?_, ?_, applyEntry_images e s,
      fun hw k' j hj h' => applyEntry_other hw hj h'⟩
    · refine congrArg _ ((serve_waits h _).trans ((if_neg hstored).trans
        ((writeWorking_writes hm h3 hwr hc hu hl).trans ((accept_waits h _ _).trans ?_))))
      rw [hreply]
      rfl
    · rintro c w rfl
      have hget : (applyEntry (.map c w) s).tables.maps.get c = newMap s c w := put_get_self _ _ _
      exact ⟨newMap s c w, hget, rfl, fun j => mergeMarks_region (s.tables.maps.get c) w j⟩
    · rintro p q rfl
      obtain ⟨hport, hq⟩ := applyPorts_port p s q
      have hrate := applyPorts_rate p s q
      refine ⟨(congrArg PortState.status hport :), (congrArg PortState.fault hport :), (congrArg PortState.rx hport :),
        (congrArg PortState.counters hport :), (congrArg PortState.recovery hport :), hq, ?_, fun hs hne => ?_,
        fun o l hs ho hr => ?_⟩
      · by_cases hc : settingsRate s.tables.ports q ≠ settingsRate p q ∧ portIdle s q = true
        · exact .inr ⟨hc.1.symm, hrate.trans (if_pos hc)⟩
        · exact .inl (hrate.trans (if_neg hc))
      · exact hrate.trans (if_pos ⟨hne.symm, portIdle_withdrawn hs⟩)
      · refine hrate.trans (if_neg fun hc => ?_)
        rw [portIdle_sending hs ho hr] at hc
        cases hc.2
    · rintro j r rfl
      exact put_get_self _ _ _
    · rintro j g rfl
      rw [(applyEntry_placing (e := .signal j g) (fun p he => nomatch he) s).1.signals]
      exact put_get_self _ _ _
  · have h1 : fieldAt x.buffer 1 1 = tableNumber k := by
      rw [hb, fieldAt_cons, fieldAt_byte, toNat_byte, Nat.mod_eq_of_lt (tableNumber_lt k)]
    obtain ⟨ht, hst, hfb⟩ := loadTable_leaves hw k
    have hpass : (storedImage s k).passes = true ↔ ok := (image_passes_iff _).trans hok.symm
    have hfail : ¬ok → (storedImage s k).passes = false := fun hn => Bool.eq_false_iff.2 fun h => hn (hpass.1 h)
    refine ⟨loadTable s k, !(storedImage s k).passes, ?_, ?_, ?_, fun hn => hfb (hfail hn), fun i e ho hi he => ?_,
      fun i hn hi => ?_, fun k' i hne hi => ?_, ?_⟩
    · exact congrArg _ ((serve_waits h _).trans ((tableReload_loads hm h1 hu hc).trans ((accept_waits h _ _).trans rfl)))
    · rw [← hpass, Bool.not_eq_true', Bool.not_eq_true]
    · rw [hst]
      exact put_get_self _ _ _
    · rw [ht, reloaded, take_entry_same, storedContent_passing (hok.1 ho)]
      exact tableFrom_entry _ hi he
    · rw [ht, reloaded, take_entry_same, storedContent_failing fun hc => hn (hok.2 hc)]
    · rw [ht, reloaded, take_entry_other _ _ hne]
    · rw [hst]

end Sys2Proof.Machine
end

section
/-! What the ends of windows, grants and exchanges leave of the Pending Exchange List (R99, R116, R117): the management
exchanges, and every channel exchange but those that close, its link to an ended window dropped. -/

namespace Sys2Proof.Machine

open Sys2Proof Sys2Proof.Safety

variable {s t : State} {v : Window} {u w : Fin 2} {g : Grant} {x y : ChannelExchange}

/-! ### The list after the end of a window -/

@[simp] theorem grantClose_exchanges (g : Grant) (cause : CloseCause) (s : State) :
    (grantClose g cause s).exchanges = s.exchanges := by
  rw [grantClose, relamp_exchanges, appendInto_exchanges, dropGrant_exchanges]

@[simp] theorem removeWindow_exchanges (w : Fin 2) (v : Window) (s : State) :
    (removeWindow w v s).exchanges = unlinked w s := by
  rw [removeWindow_shape]

theorem unlinked_of (h : t.exchanges = s.exchanges) (w : Fin 2) : unlinked w t = unlinked w s := by
  unfold unlinked unlink
  rw [h]

@[simp] theorem appendEnded_exchanges (w : Fin 2) (v : Window) (o : Outcome) (c : EndCause) (s : State) :
    (appendEnded w v o c s).exchanges = s.exchanges := by
  rw [appendEnded_eq]
  exact appendInto_exchanges _ _ _ _ _ _

@[simp] theorem reportEndedUnactivated_exchanges (g : Nat) (w : Fin 2) (s : State) :
    (reportEndedUnactivated g w s).exchanges = s.exchanges := by
  unfold reportEndedUnactivated
  split
  · split
    · dsimp only
      split <;> simp
    · rfl
  · rfl

@[simp] theorem reportEndedActive_exchanges (g : Nat) (w : Fin 2) (s : State) :
    (reportEndedActive g w s).exchanges = s.exchanges := by
  unfold reportEndedActive
  split
  · split
    · dsimp only
      split
      · simp
      · split <;> simp
    · rfl
  · rfl

@[simp] theorem endActive_exchanges (w : Fin 2) (v : Window) (o : Outcome) (c : EndCause) (tell : Bool) (s : State) :
    (endActive w v o c tell s).exchanges = unlinked w s := by
  have h : (removeWindow w v (appendEnded w v o c s)).exchanges = unlinked w s :=
    (removeWindow_exchanges _ _ _).trans (unlinked_of (appendEnded_exchanges _ _ _ _ _) w)
  unfold endActive
  cases tell
  · exact h
  · exact (reportEndedActive_exchanges _ _ _).trans h

@[simp] theorem endPendingSilent_exchanges (w : Fin 2) (v : Window) (tell : Bool) (s : State) :
    (endPendingSilent w v tell s).exchanges = unlinked w s := by
  unfold endPendingSilent
  cases tell
  · exact removeWindow_exchanges _ _ _
  · exact (reportEndedUnactivated_exchanges _ _ _).trans (removeWindow_exchanges _ _ _)

@[simp] theorem endPending_exchanges (w : Fin 2) (v : Window) (o : Outcome) (c : EndCause) (tell : Bool) (s : State) :
    (endPending w v o c tell s).exchanges = unlinked w s := by
  unfold endPending
  split
  · exact (endPendingSilent_exchanges _ _ _ _).trans (unlinked_of (appendEnded_exchanges _ _ _ _ _) w)
  · exact endPendingSilent_exchanges _ _ _ _

@[simp] theorem endAborted_exchanges (w : Fin 2) (v : Window) (c : EndCause) (tell : Bool) (s : State) :
    (endAborted w v c tell s).exchanges = unlinked w s := by
  unfold endAborted
  split
  · exact endActive_exchanges _ _ _ _ _ _
  · exact endPending_exchanges _ _ _ _ _ _

/-! ### The management exchanges stay -/

theorem mgmtRecords_of (h : t.exchanges = s.exchanges) : mgmtRecords t = mgmtRecords s := by
  unfold mgmtRecords
  rw [h]

theorem mgmtRecords_unlink (w : Fin 2) (s : State) : mgmtRecords (unlink w s) = mgmtRecords s := by
  simp only [mgmtRecords, unlink, List.filterMap_map]
  refine List.filterMap_congr fun e _ => ?_
  cases e with
  | channel x => by_cases hx : x.window = some w <;> simp [asMgmt, hx]
  | management x => rfl

theorem mgmtRecords_unlinked (h : t.exchanges = unlinked w s) : mgmtRecords t = mgmtRecords s :=
  (mgmtRecords_of (s := unlink w s) h).trans (mgmtRecords_unlink w s)

@[simp] theorem mgmtRecords_dropChannel (n : Nat) (s : State) : mgmtRecords (dropChannelExchange n s) = mgmtRecords s := by
  simp only [mgmtRecords, dropChannelExchange_exchanges]
  induction s.exchanges with
  | nil => rfl
  | cons e l ih =>
    cases e with
    | management y =>
      rw [List.eraseP_cons_of_neg (by simp [isChannel])]
      exact congrArg (y :: ·) ih
    | channel y =>
      by_cases h : y.id = n
      · rw [List.eraseP_cons_of_pos (by simpa [isChannel] using h)]
        rfl
      · rw [List.eraseP_cons_of_neg (by simpa [isChannel] using h)]
        exact ih

@[simp] theorem gatewayReply_exchanges (c : Fin 16) (code : Byte) (r : Nat) (s : State) :
    (gatewayReply c code r s).exchanges = s.exchanges := offerState_exchanges _ _ _

theorem mgmtRecords_closeLinked (w : Fin 2) (r : Reason) (s : State) :
    mgmtRecords (closeLinked w r s) = mgmtRecords s := by
  unfold closeLinked
  split
  · exact (mgmtRecords_of (gatewayReply_exchanges _ _ _ _)).trans (mgmtRecords_dropChannel _ _)
  · rfl

theorem mgmtRecords_abortWindow (w : Fin 2) (r : Reason) (c : EndCause) (tell : Bool) (s : State) :
    mgmtRecords (abortWindow w r c tell s) = mgmtRecords s := by
  unfold abortWindow
  split
  · exact (mgmtRecords_unlinked (endAborted_exchanges _ _ _ _ _)).trans (mgmtRecords_closeLinked _ _ _)
  · rfl

theorem mgmtRecords_endGrant (h : g.state ≠ .checking) (cause : CloseCause) (s : State) :
    mgmtRecords (endGrant cause g s) = mgmtRecords s := by
  obtain hc | hr | hg := grant_cases g
  · exact absurd hc h
  · rw [endGrant_recording hr]
    rfl
  · rw [endGrant_granting hg, mgmtRecords_of (grantClose_exchanges _ _ _)]
    unfold abortBound
    split
    · exact mgmtRecords_abortWindow _ _ _ _ _
    · exact mgmtRecords_abortWindow _ _ _ _ _
    · rfl
    · rfl

theorem mgmtRecords_endGrants {l : List Grant} (h : ∀ g ∈ l, g.state ≠ .checking) (cause : CloseCause) (s : State) :
    mgmtRecords (endGrants cause l s) = mgmtRecords s := by
  induction l generalizing s with
  | nil => rfl
  | cons g l ih =>
    exact (ih (fun k hk => h k (List.mem_cons_of_mem _ hk)) _).trans (mgmtRecords_endGrant (h g List.mem_cons_self) cause s)

theorem mgmtExchange_records (h : mgmtRecords t = mgmtRecords s) (m : Mgmt) : mgmtExchange t m = mgmtExchange s m := by
  rw [mgmtExchange_eq, mgmtExchange_eq, h]

end Sys2Proof.Machine
end

section
/-! Restart (R163): its grants end, its reply waits for the store, and the hot start is due once the reply has gone. -/

namespace Sys2Proof.Machine

open Sys2Proof Sys2Proof.Safety

variable {s t : State} {m : Mgmt} {x : MgmtExchange} {p : Port} {f : OutFrame} {l : List OutFrame} {n : Nat}

/-! ### The request -/

theorem restartRequest_taken (hm : m = .C ∨ manageGrant s ≠ none) (hq : s.store.queue = [])
    (hg : ∀ g ∈ s.grants.grants, g.state ≠ .checking) : restartRequest m x s =
      let z := endGrants .restart s.grants.grants
        (setWork x .awaitRestart { s with grants := { s.grants with challenge := none } })
      { z with agent := { z.agent with restart := .taken x.id } } := by
  have hany : s.grants.grants.any (fun g => g.state == .checking) = false := by
    simpa using hg
  unfold restartRequest
  refine (if_neg (by rw [onCOrManage_of hm]; decide)).trans ((if_neg ?_).trans rfl)
  rw [hq, hany]
  decide

/-! ### The reply -/

theorem restartReply_taken (hs : exchangeLaw s) (hr : s.agent.restart = .taken x.id) (hx : mgmtExchange s m = some x)
    (hst : x.state = .serving) : restartReply s =
      if s.store.queue = [] ∧ sideSending s m = false then
        beginReply x [byte 0x9F] (restartAnswered x.id s)
      else s := by
  obtain rfl : x.chan = m := (mgmtExchange_some hx).2
  have ho : mgmtOwned s x.id = some x := (mgmtExchange_of_mem hs (mgmtExchange_some hx).1).2
  unfold restartReply
  rw [hr]
  cases hq : s.store.queue with
  | nil =>
    simp only [List.isEmpty_nil, if_true, ho, hst, true_and]
    rfl
  | cons r rest => exact (if_neg (by rw [List.isEmpty_cons]; decide)).trans (if_neg fun h => nomatch h.1).symm

/-- A full or WITHDRAWN port discards what is offered (R5, R6). -/
theorem offerResult_lost (h : ¬hasRoom s p) : offerResult (s.port p) ≠ .joined := by
  intro hj
  unfold offerResult at hj
  split at hj
  · cases hj
  · next ha =>
    split at hj
    · next hl => exact h ⟨ha, hl⟩
    · cases hj

theorem offerMgmt_lost (h : ¬hasRoom s (mgmtPort m)) (part : MgmtPart) (f : OutFrame) (go : State → State) :
    offerMgmt m part f go s = mgmtLost m part f.owner (offerState (mgmtPort m) f s) := by
  unfold offerMgmt
  split
  · next e => exact absurd e (offerResult_lost h)
  · rfl

theorem beginReply_lost (h : ¬hasRoom s (mgmtPort x.chan)) (reply : List Byte) :
    beginReply x reply s = mgmtLost x.chan .exchange x.id (offerState (mgmtPort x.chan) (mgmtFrameOut x.chan .exchange
      x.response x.id (firstFrame reply s.part.stamp).1 (firstFrame reply s.part.stamp).2) s) := by
  unfold beginReply
  exact offerMgmt_lost h _ _ _

theorem restartAnswered_of {i : Nat} (h : s.agent.restart = .taken i) :
    restartAnswered i s = { s with agent := { s.agent with restart := .answered i } } := by
  rw [restartAnswered, h]
  simp only [if_true]

theorem restartAfter_same (i : Nat) : restartAfter i (.answered i) = .due := if_pos rfl

/-! ### The frame has gone -/

theorem mgmtSent_agent (x : MgmtExchange) (mark : Mark) (s : State) : (mgmtSent x mark s).agent = s.agent := by
  unfold mgmtSent
  split
  · rfl
  · split <;> rfl
  · split <;> rfl
  · rfl

/-- The management exchange of a number, one of whose frames has been sent. -/
def mgmtOwnedSent (n : Nat) (mark : Mark) (s : State) : State :=
  match mgmtOwned s n with
  | some x => mgmtSent x mark s
  | none => s

theorem mgmtOwnedSent_agent (n : Nat) (mark : Mark) (s : State) : (mgmtOwnedSent n mark s).agent = s.agent := by
  unfold mgmtOwnedSent
  split
  · exact mgmtSent_agent _ mark s
  · rfl

theorem sentEffect_management (h : f.origin = .management m .exchange) (s : State) :
    sentEffect f s = mgmtFrameGone f.owner (mgmtOwnedSent f.owner f.mark s) := by
  unfold sentEffect
  rw [h]
  rfl

/-- What the sending of a frame of a management exchange makes of a Restart's reply. -/
theorem sentEffect_restart (h : f.origin = .management m .exchange) (s : State) : (sentEffect f s).agent =
    { s.agent with restart := restartAfter f.owner s.agent.restart } := by
  rw [sentEffect_management h, mgmtFrameGone, mgmtOwnedSent_agent]

theorem frameSent_eligible (ha : (s.port p).status = .active) (ho : (s.port p).out = f :: l)
    (hf : p = .W ∨ f.released = true) : frameSent p s =
      sentEffect f (testPort p ((presetQuiet s).setPort p (s.port p).afterSent)) := by
  have : headEligible p (s.port p) = some f := by
    rw [headEligible, ha, ho]
    exact if_pos hf
  rw [frameSent, this]

@[simp] theorem testPort_agent (p : Port) (s : State) : (testPort p s).agent = s.agent := by
  rw [testPort_touches]

/-! ### The flush at a withdrawal -/

/-- The exchange of a number, one of whose frames a withdrawal has removed. -/
def flushedExchange (p : Port) (n : Nat) (s : State) : State :=
  match ownedExchange s n with
  | some x => closeExchange x (.portDown (p != .W)) s
  | none => s

/-- A side answer, one of whose frames a withdrawal has removed. -/
def flushedSide (m : Mgmt) (n : Nat) (s : State) : State :=
  match sideOf s m with
  | .sending id _ _ _ => if id = n then endSide m s else s
  | _ => s

theorem flushed_exchange {c : Fin 16} (h : f.origin = .exchange c ∨ f.origin = .pace c) (p : Port) (s : State) :
    flushed p f s = flushedExchange p f.owner s := by
  unfold flushed
  obtain h | h := h <;> rw [h] <;> rfl

theorem flushed_management (h : f.origin = .management m .exchange) (p : Port) (s : State) :
    flushed p f s = mgmtFrameGone f.owner (closeMgmt f.owner s) := by
  unfold flushed
  rw [h]

theorem flushed_side (h : f.origin = .management m .side) (p : Port) (s : State) :
    flushed p f s = flushedSide m f.owner s := by
  unfold flushed
  rw [h]
  rfl

/-- A frame of no message in hand. -/
def ofNone (f : OutFrame) : Prop :=
  f.origin = .mirror ∨ (∃ c, f.origin = .reply c) ∨ ∃ m, f.origin = .management m .loose

theorem flushed_none (h : ofNone f) (p : Port) (s : State) : flushed p f s = s := by
  unfold flushed
  obtain h | ⟨c, h⟩ | ⟨m, h⟩ := h <;> rw [h]

/-- What a frame may belong to. -/
theorem origin_cases (f : OutFrame) : (∃ c, f.origin = .exchange c ∨ f.origin = .pace c) ∨
    (∃ m, f.origin = .management m .exchange) ∨ (∃ m, f.origin = .management m .side) ∨ ofNone f := by
  unfold ofNone
  cases h : f.origin with
  | management m part => cases part <;> simp
  | _ => simp

theorem flushedExchange_restart (p : Port) (n : Nat) (s : State) :
    (flushedExchange p n s).agent.restart = s.agent.restart := by
  unfold flushedExchange
  split
  · exact (kept_closeExchange _ _ _).restart
  · rfl

theorem endSide_restart (m : Mgmt) (s : State) : (endSide m s).agent.restart = s.agent.restart := by cases m <;> rfl

theorem flushedSide_restart (m : Mgmt) (n : Nat) (s : State) : (flushedSide m n s).agent.restart = s.agent.restart := by
  unfold flushedSide
  split
  · split
    · exact endSide_restart m s
    · rfl
  · rfl

/-- A Restart's reply takes notice of the flush of its own frame alone. -/
theorem flushed_restart (p : Port) (f : OutFrame) (s : State) :
    ((∃ m, f.origin = .management m .exchange) ∧
        (flushed p f s).agent.restart = restartAfter f.owner s.agent.restart) ∨
      ((∀ m, f.origin ≠ .management m .exchange) ∧ (flushed p f s).agent.restart = s.agent.restart) := by
  obtain ⟨c, h⟩ | ⟨m, h⟩ | ⟨m, h⟩ | h := origin_cases f
  · refine .inr ⟨fun m e => by rw [e] at h; simp at h, ?_⟩
    rw [flushed_exchange h]
    exact flushedExchange_restart p _ s
  · refine .inl ⟨⟨m, h⟩, ?_⟩
    rw [flushed_management h]
    rfl
  · refine .inr ⟨fun m e => by rw [e] at h; simp at h, ?_⟩
    rw [flushed_side h]
    exact flushedSide_restart m _ s
  · refine .inr ⟨fun m e => by simp [ofNone, e] at h, ?_⟩
    rw [flushed_none h]

theorem flush_due (p : Port) (h : s.agent.restart = .due) (l : List OutFrame) :
    (l.foldl (fun s f => flushed p f s) s).agent.restart = .due := by
  induction l generalizing s with
  | nil => exact h
  | cons f l ih =>
    refine ih ?_
    obtain ⟨-, e⟩ | ⟨-, e⟩ := flushed_restart p f s <;> rw [e, h]
    rfl

/-- The flush of a Restart's reply makes the hot start due. -/
theorem flush_answered (p : Port) (h : s.agent.restart = .answered n)
    (hf : ∃ f ∈ l, (∃ m, f.origin = .management m .exchange) ∧ f.owner = n) :
    (l.foldl (fun s f => flushed p f s) s).agent.restart = .due := by
  induction l generalizing s with
  | nil =>
    obtain ⟨f, hm, -⟩ := hf
    cases hm
  | cons f l ih =>
    obtain ⟨k, hk, ⟨m, hkm⟩, hkn⟩ := hf
    obtain ⟨-, e⟩ | ⟨hno, e⟩ := flushed_restart p f s
    · by_cases hn : f.owner = n
      · exact flush_due p (e.trans (by rw [h, hn, restartAfter_same])) l
      · refine ih (e.trans (by rw [h]; exact if_neg fun e => hn e.symm)) ?_
        obtain rfl | hk := List.mem_cons.1 hk
        · exact absurd hkn hn
        · exact ⟨k, hk, ⟨m, hkm⟩, hkn⟩
    · refine ih (e.trans h) ?_
      obtain rfl | hk := List.mem_cons.1 hk
      · exact absurd hkm (hno m)
      · exact ⟨k, hk, ⟨m, hkm⟩, hkn⟩

theorem closeDown_kept (s : State) (id : Nat) : Kept s (closeDown s id) := by
  unfold closeDown
  split
  · exact kept_closeExchange _ _ _
  · exact .refl s

theorem closeDowns_kept (l : List Nat) (s : State) : Kept s (l.foldl closeDown s) := by
  induction l generalizing s with
  | nil => exact .refl s
  | cons n l ih => exact (closeDown_kept s n).trans (ih _)

theorem windowDown_kept (p : Port) (w : Fin 2) (s : State) : Kept s (windowDown p w s) := by
  unfold windowDown
  split
  · split
    · exact kept_endAborted _ _ _ _ _
    · exact .refl s
  · exact .refl s

/-- The port WITHDRAWN with its queue flushed, before what the frames belonged to ends. -/
def emptied (p : Port) (s : State) : State :=
  s.setPort p { s.port p with
    status := .withdrawn, out := [], recovery := some 100
    counters := (s.port p).counters.addDiscarded (s.port p).out.length }

/-- Once the flush has ended what its frames belonged to. -/
def flushedOut (p : Port) (s : State) : State :=
  ((s.port p).out.foldl (fun s f => flushed p f s) (emptied p s)).count p Counters.addWithdrawals

theorem flushedOut_agent (p : Port) (s : State) : (flushedOut p s).agent =
    ((s.port p).out.foldl (fun s f => flushed p f s) (emptied p s)).agent := count_agent _ p _

theorem withdraw_eq (p : Port) (s : State) : withdraw p s = raiseWithdrawn p (windowDown p 1 (windowDown p 0
    ((targeting p (flushedOut p s)).foldl closeDown (flushedOut p s)))) := rfl

theorem raiseWithdrawn_restart (p : Port) (s : State) : (raiseWithdrawn p s).agent.restart = s.agent.restart := by
  cases p <;> rfl

theorem withdraw_restart (p : Port) (s : State) :
    (withdraw p s).agent.restart = (flushedOut p s).agent.restart := by
  rw [withdraw_eq, raiseWithdrawn_restart, (windowDown_kept p 1 _).restart, (windowDown_kept p 0 _).restart,
    (closeDowns_kept _ _).restart]

theorem transmissionFailed_withdraws (ha : (s.port p).status = .active) (ho : (s.port p).out = f :: l)
    (hf : p = .W ∨ f.released = true) (hn : 128 ≤ (s.port p).fault + 8) : transmissionFailed p s =
      withdraw p (s.setPort p { s.port p with fault := (s.port p).fault + 8 }) := by
  have : headEligible p (s.port p) = some f := by
    rw [headEligible, ha, ho]
    exact if_pos hf
  rw [transmissionFailed, this]
  exact if_pos hn

/-- An empty frame, or a pace frame that is out of turn, ends a reply that is being sent (logs 23 and 54). -/
theorem mgmtFrame_ends {data : List Byte} (hx : mgmtExchange s m = some x) (hst : x.state = .answering)
    (hph : x.seg.phase = .none) (hside : ∀ id seg msg gap, sideOf s m ≠ .sending id seg msg gap)
    (hd : data = [] ∨ ∃ ctl code gap more, data = ctl :: code :: gap :: more ∧ 192 ≤ ctl.toNat ∧ code.toNat ≤ 2 ∧
      gap.toNat ≤ 127) : mgmtFrame m data s = closeMgmt x.id s := by
  obtain rfl | ⟨ctl, code, gap, more, rfl, h1, h2, h3⟩ := hd
  · have hq : sideBad m .empty s = s := if_neg fun h => by
      obtain ⟨id, seg, msg, left, e⟩ := (sideSending_iff s m).1 h.1
      exact hside id seg msg left e
    show exchangeBad m .empty (sideBad m .empty s) = _
    rw [hq, exchangeBad, hx]
    simp only [hst]
    exact if_neg (by decide)
  · rw [mgmtFrame_pace (readSsx_pace (f := frameOf (.std 0) (ctl :: code :: gap :: more)) ⟨⟨more, rfl⟩, h1, h2, h3⟩ _),
      mgmtPace_reply hside hx hst]
    exact answeringPace_ends (.inr (by rw [hph]; decide))

/-- Settles O58. -/
theorem restartEndsGrantsAndThenAnswers : Obligations.RestartEndsGrantsAndThenAnswers := by
  refine ⟨fun m x s hs hd => ⟨fun h hm hq hg => ?_, fun ha hr hx hst => ?_⟩,
    fun m id p f rest s ha hr hst ho hf => ⟨fun hor hown => ?_, fun hn hex => ?_⟩,
    fun m f rest x s hs h hx hst hph hside hdata => ?_⟩
  · obtain ⟨z, hz⟩ : ∃ z, z = endGrants .restart s.grants.grants
      (setWork x .awaitRestart { s with grants := { s.grants with challenge := none } }) := ⟨_, rfl⟩
    have hgo := restartRequest_taken (x := x) hm hq hg
    rw [← hz] at hgo
    have hk : Kept _ z := hz ▸ kept_endGrants _ _ _
    have hx : mgmtExchange s x.chan = some x := by
      rw [(mgmtExchange_some h.pending).2]
      exact h.pending
    refine ⟨_, congrArg Host.Outcome.next ((serve_waits h _).trans hgo), hk.challenge, fun g hgm => ?_, rfl, ?_, hk.slots, hk.failures,
      hk.lockout, hk.kept⟩
    · rw [hz] at hgm
      obtain ⟨k, -, hk, rfl⟩ := (endGrants_all (s := setWork x .awaitRestart
        { s with grants := { s.grants with challenge := none } }) hd .restart).1 hgm
      exact (caused_state _ k).trans hk
    · refine (mgmtExchange_records (s := setWork x .awaitRestart { s with grants := { s.grants with challenge := none } })
        (?_ : mgmtRecords z = _) m).trans ?_
      · rw [hz]
        exact mgmtRecords_endGrants hg _ _
      · exact (setMgmtExchange_found (s := { s with grants := { s.grants with challenge := none } })
          (y := { x with work := .awaitRestart }) hs hx rfl rfl m).trans (if_pos (mgmtExchange_some h.pending).2.symm)
  · have hgo : exec .restartReplyOffered s = .next (restartReply s) := by rw [awake_next ha rfl]
    rw [restartReply_taken hs hr hx hst, restartAnswered_of hr] at hgo
    have hquiet : (∀ id seg msg gap, sideOf s m ≠ .sending id seg msg gap) → sideSending s m = false := fun h =>
      Bool.eq_false_iff.2 fun hs => by
        obtain ⟨id, seg, msg, gap, e⟩ := (sideSending_iff s m).1 hs
        exact h id seg msg gap e
    refine ⟨fun hq => hgo.trans (congrArg _ (if_neg fun h => hq h.1)), fun hsd => hgo.trans (congrArg _ (if_neg fun h => ?_)),
      fun hq hsd hrm => ?_, fun hq hsd hrm => ?_⟩
    · rw [(sideSending_iff s m).2 hsd] at h
      cases h.2
    · rw [if_pos ⟨hq, hquiet hsd⟩] at hgo
      obtain ⟨t, ht, h1, h2, h3⟩ := beginReply_room (s := { s with agent := { s.agent with restart := .answered x.id } })
        hs hx hrm [byte 0x9F]
      exact ⟨t, hgo.trans (congrArg _ ht), h1, by rw [h3], ⟨_, h2, rfl, rfl⟩, by rw [h3]⟩
    · rw [if_pos ⟨hq, hquiet hsd⟩] at hgo
      obtain rfl : x.chan = m := (mgmtExchange_some hx).2
      refine ⟨_, hgo.trans (congrArg _ (beginReply_lost (by exact hrm) _)), ?_, ?_⟩
      · rw [mgmtLost, offerState_touches]
        exact congrArg (fun r => ({ s.agent with restart := r } : Agent)) (restartAfter_same x.id)
      · rw [mgmtLost, offerState_touches]
        rfl
  · refine ⟨_, awake_next ha rfl, ?_⟩
    rw [frameSent_eligible hst ho hf, sentEffect_restart hor, testPort_agent, setPort_agent]
    show { s.agent with restart := restartAfter f.owner s.agent.restart } = _
    rw [hr, hown, restartAfter_same]
  · refine ⟨_, awake_next ha rfl, ?_⟩
    rw [transmissionFailed_withdraws hst ho hf hn, withdraw_restart, flushedOut_agent]
    refine flush_answered (n := id) p ?_ ?_
    · rw [emptied, setPort_agent, setPort_agent]
      exact hr
    · rw [setPort_port, if_pos rfl]
      obtain ⟨o, ho, hor, hown⟩ := hex
      exact ⟨o, ho, ⟨m, hor⟩, hown⟩
  · have hgo := routerTakes_mgmt h
    obtain ⟨P, hP, -⟩ := taken_split s (mgmtPort m) rest
    rw [hP] at hgo ⊢
    exact hgo.trans (congrArg _ (mgmtFrame_ends (s := { s with ports := P }) hx hst hph hside hdata))

end Sys2Proof.Machine
end

section
/-! The completions of appends, of failure-count writes and of trims (R96, R97, R145, R149 to R151). -/

namespace Sys2Proof.Machine

open Sys2Proof Sys2Proof.Safety

variable {s t u : State} {rest : List StoreRequest} {e : Entry} {g : Grant} {n : Nat} {pass : Bool}

/-! ### Completions -/

/-- A row that completes the operation in progress. -/
theorem completes_of {c : Instr} {f eff : State → State} (ha : s.part.awake = true)
    (hc : exec c s = .next (whenAwake s f)) (hf : f s = complete rest eff s)
    (hu : eff { s with store := { s.store with queue := rest } } = u) : completesWith c s u :=
  ⟨complete rest eff s, (awake_next ha hc).trans (congrArg _ hf), hu ▸ complete_begun rest eff s⟩

theorem completes_append (ha : s.part.awake = true) (hq : s.store.queue = .append e :: rest) (pass : Bool)
    (hu : reportOpened e pass (if pass then appendPassed e { s with store := { s.store with queue := rest } }
      else appendFailed e { s with store := { s.store with queue := rest } }) = u) :
    completesWith (.appendComplete pass) s u :=
  completes_of ha rfl (by rw [appendComplete, hq]) hu

/-! ### Appends (R145, R151) -/

theorem stored_entries (e : Entry) (l : List StoredEntry) : storedWith (.of e) l =
    l.eraseP (fun y => decide (y.check ≠ checkWord [entryBytes y.entry])) ++
      [{ entry := e, check := checkWord [entryBytes e] }] := by
  have h : (fun y : StoredEntry => !y.passes) = fun y => decide (y.check ≠ checkWord [entryBytes y.entry]) := by
    funext y
    rw [passes_iff, decide_not]
  rw [storedWith, h]
  rfl

/-- The entry is kept, stored with its check word, and its number is the stored mark. -/
theorem appendPassed_eq (e : Entry) (s : State) : appendPassed e s = { s with
    record := { s.record with kept := s.record.kept ++ [e] }
    store := { s.store with
      mark := { value := e.number, check := checkWord [beBytes 4 e.number] }
      entries := s.store.entries.eraseP (fun y => decide (y.check ≠ checkWord [entryBytes y.entry])) ++
        [{ entry := e, check := checkWord [entryBytes e] }] } } := by
  unfold appendPassed
  rw [stored_entries]
  rfl

/-- A failed append is counted, with the events that its entry carried; whether its mark is stored is free (log 16). -/
theorem appendFailed_cases (e : Entry) (s : State) : ∃ z, z = { s with
    part := { s.part with draws := s.part.draws + 1 }
    record := { s.record with unrecorded := min 65535 (s.record.unrecorded + (1 + e.unrecorded)) }
    agent := { s.agent with attention := { s.agent.attention with storeFail := true } } } ∧
    (appendFailed e s = z ∨ appendFailed e s = { z with store := { z.store with
      mark := { value := e.number, check := checkWord [beBytes 4 e.number] } } }) := by
  refine ⟨_, rfl, ?_⟩
  unfold appendFailed
  dsimp only
  split
  · exact .inr rfl
  · exact .inl rfl

theorem reportOpened_other (h : ∀ a b c, e.detail ≠ .grantOpened a b c) (pass : Bool) (s : State) :
    reportOpened e pass s = s := by
  unfold reportOpened
  split
  · next hd _ => exact absurd hd (h _ _ _)
  · rfl

theorem reportOpened_grant {a : BitVec 16} {b : BitVec 6} {c : Nat} (h : e.detail = .grantOpened a b c)
    (hn : e.grant = some n) (pass : Bool) (s : State) : reportOpened e pass s = grantDecided n pass s := by
  unfold reportOpened
  rw [h, hn]

/-! ### The decision of a RECORDING grant (R96) -/

theorem find_recording (hd : grantNumbersDistinct s) (hg : g ∈ s.grants.grants) (hr : g.state = .recording) :
    s.grants.grants.find? (fun y => y.number == g.number && y.state == .recording) = some g := by
  have h := findGrant_of_mem hd hg
  rw [findGrant, List.find?_eq_some_iff_append] at h
  obtain ⟨-, l, k, e, hl⟩ := h
  rw [List.find?_eq_some_iff_append]
  refine ⟨by simp [hr], l, k, e, fun y hy => ?_⟩
  have := hl y hy
  simp only [Bool.not_eq_true', beq_eq_false_iff_ne] at this ⊢
  simp [this]

theorem grantDecided_fail (hd : grantNumbersDistinct s) (hg : g ∈ s.grants.grants) (hr : g.state = .recording) :
    grantDecided g.number false s =
      answerProof g.number [byte 0xFF, byte 0x11, byte 0x0B] (dropGrant g.number s) := by
  unfold grantDecided
  rw [find_recording hd hg hr]
  rfl

theorem grantDecided_closed {why : CloseCause} (hd : grantNumbersDistinct s) (hg : g ∈ s.grants.grants)
    (hr : g.state = .recording) (hc : g.cause = some why) : grantDecided g.number true s =
      answerProof g.number [byte 0xFF, byte 0x11, byte 2] (grantClose g why s) := by
  unfold grantDecided
  rw [find_recording hd hg hr]
  dsimp only
  rw [hc]
  rfl

theorem grantDecided_opened (hd : grantNumbersDistinct s) (hg : g ∈ s.grants.grants)
    (hr : g.state = .recording) (hc : g.cause = none) : grantDecided g.number true s =
      answerProof g.number ([byte 0x91, byte g.number] ++ beBytes 2 g.granted)
        (relamp (updateGrant g.number (fun y => { y with
          state := .active, remaining := y.granted, activation := some s.record.partTime, seconds := some 1000 }) s)) := by
  unfold grantDecided
  rw [find_recording hd hg hr]
  dsimp only
  rw [hc]
  rfl

/-! ### Failure counts and trims (R97, R150) -/

theorem completes_failureCount (ha : s.part.awake = true) (hq : s.store.queue = .failureCount n :: rest) (pass : Bool)
    (hu : (if pass then storeFailures n { s with store := { s.store with queue := rest } }
      else raiseStoreFail { s with store := { s.store with queue := rest } }) = u) :
    completesWith (.failureCountWriteComplete pass) s u :=
  completes_of ha rfl (by rw [failureCountWriteComplete, hq]) hu

theorem completes_trim {id : Nat} (ha : s.part.awake = true) (hq : s.store.queue = .trim n id :: rest) (pass : Bool)
    (hu : (if pass then trimmed n id { s with store := { s.store with queue := rest } }
      else storeFailed id (byte 0x1C) { s with store := { s.store with queue := rest } }) = u) :
    completesWith (.trimComplete pass) s u :=
  completes_of ha rfl (by rw [trimComplete, hq]) hu

/-- Settles O59. -/
theorem recordOperationsComplete : Obligations.RecordOperationsComplete := by
  intro rest s ha
  refine ⟨fun e hq stored hst => ⟨fun hno => ?_, fun a b c n g hdet hn hd hg hgn hr proof hproof =>
      ⟨fun hc => ?_, fun why hc hres hlen => ?_, ?_⟩, fun hno => ?_⟩,
    fun n hq => ⟨completes_failureCount ha hq true rfl, completes_failureCount ha hq false rfl⟩,
    fun n id hq hn => ⟨⟨removeOldest n { s with store := { s.store with queue := rest } }, ?_, rfl, ?_⟩,
      completes_trim ha hq false rfl⟩⟩
  · refine completes_append ha hq true ((reportOpened_other hno _ _).trans ?_)
    rw [hst]
    exact appendPassed_eq e _
  · subst hgn
    have hk : ∀ z : State, reportOpened e true (if true = true then appendPassed e { s with
        store := { s.store with queue := rest } } else z) = grantDecided g.number true stored := fun z => by
      rw [reportOpened_grant hdet hn, if_pos rfl, appendPassed_eq, hst]
    have hgr : stored.grants = s.grants := by rw [hst]
    have hpt : stored.record.partTime = s.record.partTime := by rw [hst]
    have hds : grantNumbersDistinct stored := by rw [grantNumbersDistinct, hgr]; exact hd
    have hgs : g ∈ stored.grants.grants := by rw [hgr]; exact hg
    refine ⟨_, completes_append ha hq true ((hk _).trans (grantDecided_opened hds hgs hr hc)), ?_, ?_,
      (hproof _ _).2 fun x hx hw hs => answerProof_answers ?_ _ _ x hs hx hw⟩
    · rw [answerProof_eq]
      rfl
    · rw [answerProof_grants, relamp_grants, updateGrant_distinct hds, hpt]
      show grantsWith stored _ _ = _
      unfold grantsWith
      rw [hgr]
    · rw [relamp_exchanges, updateGrant_exchanges, hst]
  · subst hgn
    have hk : ∀ z : State, reportOpened e true (if true = true then appendPassed e { s with
        store := { s.store with queue := rest } } else z) = grantDecided g.number true stored := fun z => by
      rw [reportOpened_grant hdet hn, if_pos rfl, appendPassed_eq, hst]
    have hgr : stored.grants = s.grants := by rw [hst]
    have hds : grantNumbersDistinct stored := by rw [grantNumbersDistinct, hgr]; exact hd
    have hgs : g ∈ stored.grants.grants := by rw [hgr]; exact hg
    have hqs : stored.store.queue = rest := by rw [hst]
    obtain ⟨lamp, hclose⟩ := grantClose_reserved hds (by rw [hqs]; exact hlen) hres why
    have hgo := (hk s).trans (grantDecided_closed hds hgs hr hc)
    rw [hclose] at hgo
    refine ⟨_, entryNow stored (.grantClosed why) (some g.number) (some g.slot) none, completes_append ha hq true hgo,
      ?_, rfl, rfl, rfl, ?_, ?_, (hproof _ _).2 fun x hx hw hs => answerProof_answers ?_ _ _ x hs hx hw⟩
    · rw [(answerProof_record _ _ _).2.1, hqs]
    · rw [(answerProof_record _ _ _).1]
    · rw [answerProof_grants, hgr]
    · rw [hst]
  · subst hgn
    obtain ⟨z, hz, hcase⟩ := appendFailed_cases e { s with store := { s.store with queue := rest } }
    obtain ⟨v, hv, hgr, hx, hkept, hent, hqv, hfail⟩ : ∃ v, appendFailed e { s with
        store := { s.store with queue := rest } } = v ∧ v.grants = s.grants ∧ v.exchanges = s.exchanges ∧
        v.record.kept = s.record.kept ∧ v.store.entries = s.store.entries ∧ v.store.queue = rest ∧
        v.agent.attention.storeFail = true := by
      refine ⟨_, rfl, ?_⟩
      obtain e | e := hcase <;> rw [e, hz] <;> exact ⟨rfl, rfl, rfl, rfl, rfl, rfl⟩
    have hds : grantNumbersDistinct v := by rw [grantNumbersDistinct, hgr]; exact hd
    have hgs : g ∈ v.grants.grants := by rw [hgr]; exact hg
    have hgo : reportOpened e false (if false = true then appendPassed e { s with
        store := { s.store with queue := rest } } else appendFailed e { s with store := { s.store with queue := rest } }) =
        answerProof g.number [byte 0xFF, byte 0x11, byte 0x0B] (dropGrant g.number v) := by
      rw [reportOpened_grant hdet hn, if_neg (by decide), hv]
      exact grantDecided_fail hds hgs hr
    obtain ⟨h1, h2, h3, h4⟩ := answerProof_record g.number [byte 0xFF, byte 0x11, byte 0x0B] (dropGrant g.number v)
    refine ⟨_, completes_append ha hq false hgo, ?_, ?_, ?_, ?_, ?_,
      (hproof _ _).2 fun x hx' hw hs => answerProof_answers ((dropGrant_exchanges _ _).trans hx) _ _ x hs hx' hw⟩
    · rw [h2]; exact hqv
    · rw [h1]; exact hkept
    · rw [h2]; exact hent
    · rw [h3]; exact hfail
    · rw [h4, dropGrant_distinct hds, hgr]
  · obtain ⟨z, hz, hcase⟩ := appendFailed_cases e { s with store := { s.store with queue := rest } }
    refine ⟨_, completes_append ha hq false (reportOpened_other hno _ _), ?_, ?_, ?_, ?_⟩
    · obtain e | e := hcase <;> exact (congrArg (·.record) e).trans (by rw [hz])
    · obtain e | e := hcase <;> exact (congrArg (·.agent) e).trans (by rw [hz])
    · obtain e | e := hcase
      · exact .inl ((congrArg (·.store) e).trans (by rw [hz]))
      · exact .inr ((congrArg (·.store) e).trans (by rw [hz]))
    · show appendFailed e _ = _
      obtain e | e := hcase <;> rw [if_neg (by decide), e, hz]
  · refine completes_trim ha hq true ?_
    have h1 : (s.record.kept.drop n).length = s.record.kept.length - n := List.length_drop
    show answer id [byte 0x9C, byte (min n s.record.kept.length), byte (s.record.kept.drop n).length] _ = _
    rw [h1, Nat.min_eq_left hn]
  · exact passing_trimStored n s.store.entries

end Sys2Proof.Machine
end

section
/-! The completions of table writes, of credential writes and withdrawals, and of lock policy writes (R88, R89, R111,
R142, R160, R162, R164, R166). -/

namespace Sys2Proof.Machine

open Sys2Proof Sys2Proof.Safety

variable {s t u z : State} {rest : List StoreRequest} {e : TableEntry} {g : Option Nat} {i : Option (Fin 8)} {k : TableId}
  {d : Detail} {j n id : Nat} {p : LockPolicy} {carrier : Option (Nat × Fin 8)}

/-! ### An entry that is appended, or counted where there is no room (R142, R146) -/

theorem appendEntry_noted (d : Detail) (g : Option Nat) (i : Option (Fin 8)) (s : State) :
    noted s d g i none (appendEntry d g i none s) := by
  refine ⟨fun ⟨h1, h2⟩ => ?_, fun h => ?_⟩
  · rw [appendEntry_room h1, writeEntry_room h2]
    rfl
  · by_cases h1 : occupied s < 128
    · rw [appendEntry_room h1, writeEntry_full (by omega)]
      rfl
    · rw [appendEntry_full (by omega)]
      rfl

/-- An entry does not depend on what the record, its room and the queue do not. -/
theorem appendEntry_beside (hr : z.record = s.record) (hq : z.store.queue = s.store.queue)
    (ho : occupied z = occupied s) (d : Detail) (g : Option Nat) (i : Option (Fin 8)) :
    appendEntry d g i none z = { z with
      store := { z.store with queue := (appendEntry d g i none s).store.queue }
      record := (appendEntry d g i none s).record } := by
  obtain ⟨h1, h2⟩ := appendEntry_noted d g i s
  obtain ⟨h3, h4⟩ := appendEntry_noted d g i z
  by_cases hroom : occupied s < 128 ∧ s.store.queue.length < 16
  · rw [h1 hroom, h3 (by rw [ho, hq]; exact hroom), hr, hq]
    unfold entryNow
    rw [hr]
  · rw [h2 hroom, h4 (by rw [ho, hq]; exact hroom), hr, ← hq]

theorem appendEntry_self (d : Detail) (g : Option Nat) (i : Option (Fin 8)) (s : State) :
    appendEntry d g i none s = { s with
      store := { s.store with queue := (appendEntry d g i none s).store.queue }
      record := (appendEntry d g i none s).record } := appendEntry_beside rfl rfl rfl d g i

/-! ### The stored image after a write (R164) -/

theorem entryWritten_shape (e : TableEntry) (s : State) : entryWritten e s = { s with
    tables := (entryWritten e s).tables
    inspector := { s.inspector with overlays := (entryWritten e s).inspector.overlays }
    store := { s.store with images := (writeImage (storedForm s e) s).store.images } } := by
  unfold entryWritten
  rw [mapFollows_shape]
  rfl

theorem baseImages_size (h : (storedImage s k).entries.length = tableSize k) : (baseImages s k).length = tableSize k := by
  unfold baseImages
  split
  · exact h
  · simp [Tables.images]

theorem storedForm_place (s : State) (e : TableEntry) : tableOf (storedForm s e) = tableOf e ∧
    entryPlace (storedForm s e) = entryPlace e := by cases e <;> exact ⟨rfl, rfl⟩

theorem storedForm_of (h : ∀ p, e ≠ .portSettings p) (s : State) : storedForm s e = e := by
  cases e with
  | portSettings p => exact absurd rfl (h p)
  | _ => rfl

theorem baseImages_getD (s : State) (k : TableId) (hj : j < tableSize k) : (baseImages s k).getD j [] =
    if (storedImage s k).check = checkWord (storedImage s k).entries then (storedImage s k).entries.getD j []
    else encodeEntry (Tables.fallback.entry k j) := by
  unfold baseImages
  by_cases h : (storedImage s k).check = checkWord (storedImage s k).entries
  · rw [if_pos ((image_passes_iff _).2 h), if_pos h]
  · rw [if_neg fun hc => h ((image_passes_iff _).1 hc), if_neg h]
    exact imageAt_images hj

theorem entryPlace_lt (e : TableEntry) : entryPlace e < tableSize (tableOf e) := by
  cases e with
  | portSettings p => exact Nat.zero_lt_one
  | channel i y => exact i.isLt
  | code i y => exact i.isLt
  | policy i y => exact i.isLt
  | signal i y => exact i.isLt
  | mirror i y => exact i.isLt
  | map i y => exact i.isLt

/-- What a stored write leaves in its table's image, and the others. -/
theorem written_image (e : TableEntry) (h : (storedImage s (tableOf e)).entries.length = tableSize (tableOf e)) :
    (storedImage (writeImage e s) (tableOf e)).check = checkWord (storedImage (writeImage e s) (tableOf e)).entries ∧
      (storedImage (writeImage e s) (tableOf e)).entries.length = tableSize (tableOf e) ∧
      (storedImage (writeImage e s) (tableOf e)).entries.getD (entryPlace e) [] = encodeEntry e ∧
      (∀ j, j < tableSize (tableOf e) → j ≠ entryPlace e →
        (storedImage (writeImage e s) (tableOf e)).entries.getD j [] =
          if (storedImage s (tableOf e)).check = checkWord (storedImage s (tableOf e)).entries then
            (storedImage s (tableOf e)).entries.getD j []
          else encodeEntry (Tables.fallback.entry (tableOf e) j)) ∧
      ∀ k, k ≠ tableOf e → storedImage (writeImage e s) k = storedImage s k := by
  have hl := baseImages_size h
  rw [storedImage_writeImage, if_pos rfl]
  refine ⟨rfl, (List.length_set ..).trans hl, ?_, fun j hj hne => ?_, fun k hk => ?_⟩
  · exact (imageAt_set _).trans (if_pos ⟨rfl, by rw [hl]; exact entryPlace_lt e⟩)
  · exact ((imageAt_set j).trans (if_neg fun hc => hne hc.1)).trans (baseImages_getD s _ hj)
  · rw [storedImage_writeImage, if_neg hk]

/-- Port Settings within their ranges are read back as they were stored. -/
theorem written_ports {p : PortSettings} (h : (storedImage s .portSettings).entries.length = 1)
    (hv : portSettingsValid p) : (storedTables (writeImage (.portSettings p) s)).ports = p := by
  have hl : (baseImages s .portSettings).length = 1 := baseImages_size (k := .portSettings) h
  have hc := storedContent_writeImage_self (.portSettings p) s
  rw [storedTables_ports]
  refine (congrArg Tables.ports hc).trans ?_
  show (decodePortSettings (imageAt ((baseImages s .portSettings).set 0 (encodePortSettings p)) 0)).getD _ = p
  rw [imageAt_set, if_pos ⟨rfl, by omega⟩, decodePortSettings_encode hv]
  rfl

/-! ### The rows -/

theorem completes_table (ha : s.part.awake = true) (hq : s.store.queue = .tableEntry e carrier id :: rest) (pass : Bool)
    (hu : (if pass then tableWritten e carrier id { s with store := { s.store with queue := rest } }
      else storeFailed id (byte 0x18) { s with store := { s.store with queue := rest } }) = u) :
    completesWith (.tableEntryWriteComplete pass) s u :=
  completes_of ha rfl (by rw [tableEntryWriteComplete, hq]) hu

theorem completes_credentialWrite {k : Fin 8} {key : BitVec 128} {carrier : Option Nat} (ha : s.part.awake = true)
    (hq : s.store.queue = .credentialWrite k key carrier id :: rest) (pass : Bool)
    (hu : (if pass then credentialWritten k key carrier id { s with store := { s.store with queue := rest } }
      else storeFailed id (byte 0x14) { s with store := { s.store with queue := rest } }) = u) :
    completesWith (.credentialWriteComplete pass) s u :=
  completes_of ha rfl (by rw [credentialWriteComplete, hq]) hu

theorem completes_credentialWithdraw {k : Fin 8} {carrier : Option Nat} (ha : s.part.awake = true)
    (hq : s.store.queue = .credentialWithdraw k carrier id :: rest) (pass : Bool)
    (hu : (if pass then credentialWithdrawn k carrier id { s with store := { s.store with queue := rest } }
      else storeFailed id (byte 0x15) { s with store := { s.store with queue := rest } }) = u) :
    completesWith (.credentialWithdrawComplete pass) s u :=
  completes_of ha rfl (by rw [credentialWithdrawComplete, hq]) hu

theorem completes_lockPolicy (ha : s.part.awake = true) (hq : s.store.queue = .lockPolicy p carrier id :: rest)
    (pass : Bool) (hu : (if pass then lockWritten p carrier id { s with store := { s.store with queue := rest } }
      else storeFailed id (byte 0x1A) { s with store := { s.store with queue := rest } }) = u) :
    completesWith (.lockPolicyWriteComplete pass) s u :=
  completes_of ha rfl (by rw [lockPolicyWriteComplete, hq]) hu

/-- A table write that passes: the entry is stored, a map followed, and the write noted. -/
theorem tableWritten_eq (e : TableEntry) (carrier : Option (Nat × Fin 8)) (id : Nat) (s : State) :
    tableWritten e carrier id s =
      answer id [byte 0x98, byte (tableNumber (tableOf e)), byte (entryNumber (tableOf e) (entryPlace e)), byte 1]
        (appendEntry (.tableWritten (tableOf e) (entryNumber (tableOf e) (entryPlace e))) (carrier.map (·.1))
          (carrier.map (·.2)) none (entryWritten e s)) := by
  have h := mapFollows_append e (.tableWritten (tableOf e) (entryNumber (tableOf e) (entryPlace e))) (carrier.map (·.1))
    (carrier.map (·.2)) (writeImage (storedForm s e) s)
  unfold tableWritten appendWritten
  dsimp only
  rw [h]
  rfl

theorem dropChallenge_eq (k : Fin 8) (s : State) :
    dropChallenge k s = { s with grants := { s.grants with challenge := (dropChallenge k s).grants.challenge } } := by
  unfold dropChallenge
  split
  · split <;> rfl
  · rfl

/-- Only a challenge of the slot is discarded (R89, R90). -/
theorem dropChallenge_some (k : Fin 8) (s : State) (ch : Challenge) :
    (dropChallenge k s).grants.challenge = some ch ↔ s.grants.challenge = some ch ∧ ch.slot ≠ k := by
  unfold dropChallenge
  cases hc : s.grants.challenge with
  | none => simp [hc]
  | some c =>
    dsimp only
    by_cases hk : c.slot = k
    · rw [if_pos hk]
      refine ⟨nofun, fun ⟨h, hn⟩ => ?_⟩
      obtain rfl := Option.some.inj h
      exact absurd hk hn
    · rw [if_neg hk, hc]
      exact ⟨fun h => ⟨h, Option.some.inj h ▸ hk⟩, fun h => h.1⟩

theorem storedImage_of (h : t.store.images = s.store.images) (k : TableId) : storedImage t k = storedImage s k :=
  congrArg (fun l => Vector.get l (tableFin k)) h

/-- What the map's stored write does to the working map (R111). -/
theorem entryWritten_map {c : Fin 16} {m : RegionMap} (s : State) :
    (windowOn s c = none → (entryWritten (.map c m) s).tables = { s.tables with maps := put s.tables.maps c m } ∧
      (entryWritten (.map c m) s).inspector = s.inspector) ∧
    (windowOn s c ≠ none → (entryWritten (.map c m) s).tables = s.tables ∧
      (entryWritten (.map c m) s).inspector =
        { s.inspector with overlays := put s.inspector.overlays c (some m) }) := by
  have hw : windowOn (writeImage (storedForm s (.map c m)) s) c = windowOn s c := rfl
  unfold entryWritten mapFollows
  dsimp only
  rw [hw]
  refine ⟨fun h => ?_, fun h => ?_⟩
  · rw [if_neg (by rw [h]; decide)]
    exact ⟨rfl, rfl⟩
  · rw [if_pos (Option.isSome_iff_ne_none.2 h)]
    exact ⟨rfl, rfl⟩

theorem entryWritten_other (h : ∀ c m, e ≠ .map c m) (s : State) :
    (entryWritten e s).tables = s.tables ∧ (entryWritten e s).inspector = s.inspector := by
  have hm : tableOf e ≠ .regionMap := by
    cases e with
    | map c m => exact absurd rfl (h c m)
    | _ => nofun
  unfold entryWritten
  rw [mapFollows_of_not_map hm]
  exact ⟨rfl, rfl⟩

/-- A stored write that has been noted, beside the note alone. -/
theorem noted_beside {tables : Tables} {overlays : Vector (Option RegionMap) 16} {images : Vector Image 7}
    (hz : z = { s with
      tables := tables
      inspector := { s.inspector with overlays := overlays }
      store := { s.store with images := images } }) (d : Detail) (g : Option Nat) (i : Option (Fin 8)) :
    ∃ u, u = appendEntry d g i none z ∧ u.tables = tables ∧ u.inspector = { s.inspector with overlays := overlays } ∧
      u.store.images = images ∧ (appendEntry d g i none s).inspector = s.inspector ∧
      u = { appendEntry d g i none s with
        store := { (appendEntry d g i none s).store with images := u.store.images }
        tables := u.tables
        inspector := u.inspector } := by
  have hb : appendEntry d g i none z = _ :=
    appendEntry_beside (s := s) (by rw [hz]) (by rw [hz]) (by rw [hz]; rfl) d g i
  have hself := appendEntry_self d g i s
  rw [hz] at hb
  refine ⟨_, rfl, ?_⟩
  rw [hz, hb]
  clear hb hz
  generalize appendEntry d g i none s = q at hself ⊢
  generalize q.store.queue = queue, q.record = record at hself ⊢
  subst hself
  exact ⟨rfl, rfl, rfl, rfl, rfl⟩

/-! ### The withdrawal of a slot (R89) -/

/-- The state once the withdrawal is stored and noted, before the grants of the slot end. -/
abbrev slotWithdrawn (k : Fin 8) (carrier : Option Nat) (s : State) : State :=
  dropChallenge k (appendEntry (.credentialChanged true) carrier (some k) none
    (storeSlot k { state := .withdrawn, key := (s.grants.slots.get k).key } s))

theorem credentialWithdrawn_eq (k : Fin 8) (carrier : Option Nat) (id : Nat) (s : State) :
    credentialWithdrawn k carrier id s = answer id [byte 0x95, byte k.val] (endGrants .withdrawnSlot
      ((slotWithdrawn k carrier s).grants.grants.filter (fun g => g.slot == k)) (slotWithdrawn k carrier s)) := rfl

theorem slotWithdrawn_shape (k : Fin 8) (carrier : Option Nat) (s : State) : slotWithdrawn k carrier s = { s with
    grants := { s.grants with
      slots := put s.grants.slots k { s.grants.slots.get k with state := .withdrawn }
      challenge := (slotWithdrawn k carrier s).grants.challenge }
    store := { s.store with
      slots := put s.store.slots k (.of { s.grants.slots.get k with state := .withdrawn })
      queue := (appendEntry (.credentialChanged true) carrier (some k) none s).store.queue }
    record := (appendEntry (.credentialChanged true) carrier (some k) none s).record } := by
  have hb := appendEntry_beside (s := s)
    (z := storeSlot k { state := .withdrawn, key := (s.grants.slots.get k).key } s) rfl rfl rfl
    (.credentialChanged true) carrier (some k)
  unfold slotWithdrawn
  refine (dropChallenge_eq k _).trans ?_
  rw [hb]
  rfl

theorem slotWithdrawn_challenge (k : Fin 8) (carrier : Option Nat) (s : State) (ch : Challenge) :
    (slotWithdrawn k carrier s).grants.challenge = some ch ↔ s.grants.challenge = some ch ∧ ch.slot ≠ k := by
  unfold slotWithdrawn
  rw [dropChallenge_some, appendEntry_beside (s := s)
    (z := storeSlot k { state := .withdrawn, key := (s.grants.slots.get k).key } s) rfl rfl rfl]
  rfl

/-! ### The lock policy (R162) -/

/-- Both copies of the Port Settings with another lock policy. -/
abbrev lockStored (p : LockPolicy) (s : State) : State :=
  { writeImage (.portSettings { (storedTables s).ports with lock := p }) s with
    tables := { s.tables with ports := { s.tables.ports with lock := p } } }

theorem lockStored_shape (p : LockPolicy) (s : State) : lockStored p s = { s with
    tables := { s.tables with ports := { s.tables.ports with lock := p } }
    inspector := { s.inspector with overlays := s.inspector.overlays }
    store := { s.store with
      images := (writeImage (.portSettings { (storedTables s).ports with lock := p }) s).store.images } } := rfl

/-- Settles O60. -/
theorem tableAndCredentialOperationsComplete : Obligations.TableAndCredentialOperationsComplete := by
  rintro rest s ha failed rfl left rfl
  refine ⟨fun e carrier id k i hq hk hi hl => ⟨?_, completes_table ha hq false rfl⟩,
    fun k key carrier id hq => ⟨?_, completes_credentialWrite ha hq false rfl⟩,
    fun k carrier id hq hd => ⟨?_, completes_credentialWithdraw ha hq false rfl⟩,
    fun p carrier id hq hl => ⟨?_, completes_lockPolicy ha hq false rfl⟩⟩
  · subst hk hi
    have hz := entryWritten_shape e { s with store := { s.store with queue := rest } }
    obtain ⟨u, hu, htab, hins, him, -, hshape⟩ := noted_beside hz
      (.tableWritten (tableOf e) (entryNumber (tableOf e) (entryPlace e))) (carrier.map (·.1)) (carrier.map (·.2))
    replace hins := hins.trans (congrArg (·.inspector) hz).symm
    obtain ⟨p1, p2⟩ := storedForm_place { s with store := { s.store with queue := rest } } e
    have himg : ∀ k, storedImage u k = storedImage
      (writeImage (storedForm { s with store := { s.store with queue := rest } } e)
        { s with store := { s.store with queue := rest } }) k := storedImage_of him
    have hw := written_image (s := { s with store := { s.store with queue := rest } })
      (storedForm { s with store := { s.store with queue := rest } } e) (by rw [p1]; exact hl)
    rw [p1, p2] at hw
    obtain ⟨w1, w2, w3, w4, w5⟩ := hw
    refine ⟨u, appendEntry (.tableWritten (tableOf e) (entryNumber (tableOf e) (entryPlace e))) (carrier.map (·.1))
      (carrier.map (·.2)) none { s with store := { s.store with queue := rest } },
      completes_table ha hq true ?_, appendEntry_noted _ _ _ _, hshape, ?_, ?_, fun hp => ?_, fun p hp hv => ?_,
      fun j hj hne => ?_, fun k' hk' => ?_, fun c w he hwin => ?_, fun c w he hwin => ?_, fun hm => ?_⟩
    · rw [if_pos rfl, tableWritten_eq, ← hu]
    · rw [himg]
      exact w1
    · rw [himg]
      exact w2
    · rw [himg]
      exact w3.trans (congrArg encodeEntry (storedForm_of hp _))
    · subst hp
      rw [storedTables_of him]
      exact written_ports hl hv
    · rw [himg]
      exact w4 j hj hne
    · rw [himg]
      exact w5 k' hk'
    · subst he
      obtain ⟨h1, h2⟩ := (entryWritten_map (m := w) { s with store := { s.store with queue := rest } }).1 hwin
      exact ⟨htab.trans h1, hins.trans h2⟩
    · subst he
      obtain ⟨h1, h2⟩ := (entryWritten_map (m := w) { s with store := { s.store with queue := rest } }).2 hwin
      exact ⟨htab.trans h1, hins.trans h2⟩
    · obtain ⟨h1, h2⟩ := entryWritten_other hm { s with store := { s.store with queue := rest } }
      exact ⟨htab.trans h1, hins.trans h2⟩
  · refine ⟨_, _, completes_credentialWrite ha hq true rfl, appendEntry_noted (.credentialChanged false) carrier (some k) _,
      ?_⟩
    have hb := appendEntry_beside (s := { s with store := { s.store with queue := rest } })
      (z := storeSlot k { state := .live, key := key } { s with store := { s.store with queue := rest } }) rfl rfl rfl
      (.credentialChanged false) carrier (some k)
    have hself := appendEntry_self (.credentialChanged false) carrier (some k)
      { s with store := { s.store with queue := rest } }
    refine hb.trans ?_
    clear hb
    generalize appendEntry (.credentialChanged false) carrier (some k) none
      { s with store := { s.store with queue := rest } } = q at hself ⊢
    generalize q.store.queue = queue, q.record = record at hself ⊢
    subst hself
    rfl
  · obtain ⟨z, hz⟩ : ∃ z, z = slotWithdrawn k carrier { s with store := { s.store with queue := rest } } := ⟨_, rfl⟩
    have hshape := slotWithdrawn_shape k carrier { s with store := { s.store with queue := rest } }
    have hch := slotWithdrawn_challenge k carrier { s with store := { s.store with queue := rest } }
    rw [← hz] at hshape hch
    obtain ⟨l, hl⟩ : ∃ l, l = z.grants.grants.filter (fun g => g.slot == k) := ⟨_, rfl⟩
    have hkept : Kept _ (endGrants .withdrawnSlot l z) := kept_endGrants .withdrawnSlot l z
    obtain ⟨more, hmore⟩ := hkept.queue
    have hgr : z.grants.grants = s.grants.grants := by rw [hshape]
    have hdz : grantNumbersDistinct z := by rw [grantNumbersDistinct, hgr]; exact hd
    have hmem : ∀ y, y ∈ l ↔ y ∈ s.grants.grants ∧ y.slot = k := fun y => by
      rw [hl, List.mem_filter, hgr, beq_iff_eq]
    have hleft := mem_endGrants_iff hdz ((hd.sublist (hgr ▸ hl ▸ List.filter_sublist.map _)))
      (fun g hg => by rw [hgr]; exact ((hmem g).1 hg).1) .withdrawnSlot
    have hqz : z.store.queue =
        (appendEntry (.credentialChanged true) carrier (some k) none
          { s with store := { s.store with queue := rest } }).store.queue := by rw [hshape]
    have hslots : (endGrants .withdrawnSlot l z).grants.slots =
        put s.grants.slots k { s.grants.slots.get k with state := .withdrawn } := by
      rw [hkept.slots, hshape]
    have hstored : (endGrants .withdrawnSlot l z).store.slots =
        put s.store.slots k (.of { s.grants.slots.get k with state := .withdrawn }) := by
      rw [hkept.stored, hshape]
    refine ⟨endGrants .withdrawnSlot l z, _, more.map .append, completes_credentialWithdraw ha hq true ?_,
      appendEntry_noted (.credentialChanged true) carrier (some k) _, hmore.trans (congrArg (· ++ _) hqz), hslots, ?_, ?_,
      fun j hj => ?_, fun ch h => ?_, fun ch h hne => ?_, fun g hg hs => ?_, fun g hg hs _ => ?_, fun hno => ?_, ?_, ?_, ?_⟩
    · rw [if_pos rfl, credentialWithdrawn_eq, ← hz, ← hl]
    · rw [hstored, hslots, put_get_self, put_get_self]
      rfl
    · rw [hstored, put_get_self]
      rfl
    · rw [hstored]
      exact (put_get _ _ _ _).trans (if_neg hj)
    · obtain ⟨h1, h2⟩ := (hch ch).1 (hkept.challenge.symm.trans h)
      exact ⟨h2, h1⟩
    · exact hkept.challenge.trans ((hch ch).2 ⟨h, hne⟩)
    · obtain ⟨hgs, hn⟩ | ⟨y, hy, hr, rfl⟩ := (hleft g).1 hg
      · exact absurd rfl (hn g ((hmem g).2 ⟨hgr ▸ hgs, hs⟩))
      · exact ⟨(caused_state _ y).trans hr, caused_isSome _ y⟩
    · refine (hleft g).2 (.inl ⟨by rw [hgr]; exact hg, fun y hy e => ?_⟩)
      obtain ⟨hys, hyk⟩ := (hmem y).1 hy
      obtain rfl : g = y := List.inj_on_of_nodup_map hd hg hys e
      exact hs hyk
    · have hnil : l = [] := List.eq_nil_iff_forall_not_mem.2 fun y hy => hno y ((hmem y).1 hy).1 ((hmem y).1 hy).2
      have he : endGrants .withdrawnSlot l z = z := by
        rw [hnil]
        rfl
      refine ⟨?_, by rw [he, hgr]⟩
      rw [he] at hmore
      exact List.append_right_eq_self.1 hmore.symm
    · rw [hkept.failures, hshape]
    · rw [hkept.kept, hshape]
      exact (kept_appendEntry _ _ _ _ _).kept
    · rw [hkept.ports, hshape]
  · have hw := written_image (s := { s with store := { s.store with queue := rest } })
      (.portSettings { (storedTables s).ports with lock := p }) hl
    obtain ⟨w1, -, -, -, w5⟩ := hw
    obtain ⟨u, hu, htab, hins, him, hq', hshape⟩ := noted_beside (s := { s with store := { s.store with queue := rest } })
      (lockStored_shape p _) (.tableWritten .portSettings 0) (carrier.map (·.1)) (carrier.map (·.2))
    have himg := storedImage_of him
    replace hins := hins.trans hq'.symm
    refine ⟨u, _, completes_lockPolicy ha hq true ?_, appendEntry_noted (.tableWritten .portSettings 0) (carrier.map (·.1))
      (carrier.map (·.2)) _, hshape.trans ?_, ?_, fun hv => ?_, fun k hk => ?_⟩
    · rw [if_pos rfl, hu]
      rfl
    · rw [htab, hins]
    · rw [himg]
      exact w1
    · rw [storedTables_of him]
      exact written_ports hl hv
    · rw [himg]
      exact w5 k hk

end Sys2Proof.Machine
end

section
/-! The withdrawal of a port (R8, R67, R129): what the flush of its queue ends, and what the reports end after it. -/

namespace Sys2Proof.Machine

open Sys2Proof Sys2Proof.Safety

variable {s t u : State} {p : Port} {f o : OutFrame} {w : Fin 2} {v : Window} {x y : ChannelExchange} {D : Prop} {a : Bool}
  {n : Nat} {told : Bool}

/-! ### Where the windows come from -/

/-- Every window of the later state was there before, on the same channel. -/
def WindowsFrom (s t : State) : Prop := ∀ w v, t.window w = some v → ∃ x, s.window w = some x ∧ x.channel = v.channel

theorem WindowsFrom.refl (s : State) : WindowsFrom s s := fun _ v h => ⟨v, h, rfl⟩

theorem WindowsFrom.trans (h : WindowsFrom s t) (k : WindowsFrom t u) : WindowsFrom s u := fun w v hv => by
  obtain ⟨x, hx, e⟩ := k w v hv
  obtain ⟨y, hy, e'⟩ := h w x hx
  exact ⟨y, hy, e'.trans e⟩

theorem windowsFrom_of (h : ∀ w, t.window w = s.window w) : WindowsFrom s t := fun w v hv => ⟨v, (h w).symm.trans hv, rfl⟩

theorem windowsFrom_put {v x : Window} (hv : s.window w = some v) (hc : x.channel = v.channel) :
    WindowsFrom s (setWindow w (some x) s) := fun u y hy => by
  rw [setWindow_window] at hy
  split at hy
  · next e =>
    obtain rfl := Option.some.inj hy
    exact ⟨v, e ▸ hv, hc.symm⟩
  · exact ⟨y, hy, rfl⟩

/-- No shared update opens a window. -/
theorem Move.windowsFrom (hm : Move D a s t) : WindowsFrom s t := by
  cases hm with
  | inert t hi => exact windowsFrom_of fun w => congrArg (fun l => l.get w) hi.windows
  | ports t e _ => rw [e]; exact .refl s
  | release n => rw [testHead_touches]; exact .refl s
  | credit n v _ => cases n <;> exact .refl s
  | exchanges t e _ => rw [e]; exact .refl s
  | append d g i c => obtain ⟨q, m, n, e, _⟩ := appendEntry_shape d g i c s; rw [e]; exact .refl s
  | window w v x hv hc _ => exact windowsFrom_put hv hc
  | spend w v x d g i c hv hc _ =>
    obtain ⟨q, m, n, e, _⟩ := writeEntry_shape d g i c (setWindow w (some x) s)
    rw [e]
    exact windowsFrom_put hv hc
  | windowGone w v x _ _ =>
    intro u y hy
    rw [removeWindow_window] at hy
    split at hy
    · cases hy
    · exact ⟨y, hy, rfl⟩
  | grantClosed g cause _ => obtain ⟨q, m, n, l, e, _⟩ := grantClose_shape g cause s; rw [e]; exact .refl s
  | _ => exact .refl s

theorem Course.windowsFrom (h : Course D a s t) : WindowsFrom s t :=
  h.relates WindowsFrom.refl WindowsFrom.trans Move.windowsFrom

theorem WindowsFrom.closed (h : WindowsFrom s t) (hw : s.window w = none) : t.window w = none := by
  cases hv : t.window w with
  | none => rfl
  | some v =>
    obtain ⟨x, hx, -⟩ := h w v hv
    rw [hw] at hx
    cases hx

/-! ### The relation of the steps of a withdrawal -/

/-- What every step of the withdrawal of a port leaves: what is sampled and the tables; exchanges, windows and side
answers only end, and where an exchange ends, the window it was linked to does. -/
structure Ends (s t : State) : Prop where
  channels : t.tables.channels = s.tables.channels
  lines    : t.lines = s.lines
  signals  : t.signals = s.signals
  mirror   : t.mirror = s.mirror
  records  : ∀ y ∈ channelRecords t, ∃ x ∈ channelRecords s, x.id = y.id ∧ x.channel = y.channel
  links    : ∀ x ∈ channelRecords s, ∀ w, x.window = some w →
    t.window w = none ∨ ∃ y ∈ channelRecords t, y.id = x.id ∧ y.window = some w
  windows  : WindowsFrom s t
  mgmt     : ∀ y ∈ mgmtRecords t, y ∈ mgmtRecords s
  side     : ∀ m, sideOf t m = sideOf s m ∨ sideOf t m = .absent

theorem Ends.refl (s : State) : Ends s s :=
  ⟨rfl, rfl, rfl, rfl, fun y hy => ⟨y, hy, rfl, rfl⟩, fun x hx _ hw => .inr ⟨x, hx, rfl, hw⟩, .refl s, fun _ h => h,
    fun _ => .inl rfl⟩

theorem Ends.trans (h : Ends s t) (k : Ends t u) : Ends s u where
  channels := k.channels.trans h.channels
  lines := k.lines.trans h.lines
  signals := k.signals.trans h.signals
  mirror := k.mirror.trans h.mirror
  records y hy := by
    obtain ⟨z, hz, h1, h2⟩ := k.records y hy
    obtain ⟨x, hx, h3, h4⟩ := h.records z hz
    exact ⟨x, hx, h3.trans h1, h4.trans h2⟩
  links x hx w hw := by
    obtain hn | ⟨z, hz, hid, hzw⟩ := h.links x hx w hw
    · exact .inl (k.windows.closed hn)
    · obtain hn | ⟨y, hy, hid', hyw⟩ := k.links z hz w hzw
      · exact .inl hn
      · exact .inr ⟨y, hy, hid'.trans hid, hyw⟩
  windows := h.windows.trans k.windows
  mgmt y hy := h.mgmt y (k.mgmt y hy)
  side m := by
    obtain e | e := k.side m
    · rw [e]
      exact h.side m
    · exact .inr e

theorem ends_same (hc : t.tables.channels = s.tables.channels) (hl : t.lines = s.lines) (hg : t.signals = s.signals)
    (hm : t.mirror = s.mirror) (hx : t.exchanges = s.exchanges) (hw : ∀ w, t.window w = s.window w)
    (hs : ∀ m, sideOf t m = sideOf s m) : Ends s t where
  channels := hc
  lines := hl
  signals := hg
  mirror := hm
  records y hy := ⟨y, by rw [channelRecords, ← hx]; exact hy, rfl, rfl⟩
  links x hxm w hxw := .inr ⟨x, by rw [channelRecords, hx]; exact hxm, rfl, hxw⟩
  windows := windowsFrom_of hw
  mgmt y hy := by rw [mgmtRecords, ← hx]; exact hy
  side m := .inl (hs m)

theorem ends_of (hk : Kept s t) (hx : t.exchanges = s.exchanges) (hw : ∀ w, t.window w = s.window w) : Ends s t :=
  ends_same hk.channels hk.lines hk.signals hk.mirror hx hw fun m => by cases m <;> [exact hk.sideW; exact hk.sideC]

/-- Such a step that leaves the port as well. -/
structure Downs (p : Port) (s t : State) : Prop extends Ends s t where
  port : t.port p = s.port p

theorem Downs.refl (p : Port) (s : State) : Downs p s s := ⟨.refl s, rfl⟩

theorem Downs.trans (h : Downs p s t) (k : Downs p t u) : Downs p s u :=
  ⟨h.toEnds.trans k.toEnds, k.port.trans h.port⟩

/-! ### The end of a window, and of its exchange -/

/-- A record without its link to a window. -/
def clearLink (w : Fin 2) (x : ChannelExchange) : ChannelExchange := if x.window = some w then { x with window := none } else x

theorem channelRecords_unlinked (h : t.exchanges = unlinked w s) :
    channelRecords t = (channelRecords s).map (clearLink w) := by
  unfold channelRecords
  rw [h]
  simp only [unlinked, unlink, List.filterMap_map, List.map_filterMap]
  refine List.filterMap_congr fun e _ => ?_
  cases e with
  | channel x => by_cases hx : x.window = some w <;> simp [asChannel, clearLink, hx]
  | management x => rfl

theorem mem_unlinked (h : t.exchanges = unlinked w s) : y ∈ channelRecords t ↔
    ∃ x ∈ channelRecords s, y = if x.window = some w then { x with window := none } else x := by
  rw [channelRecords_unlinked h, List.mem_map]
  exact ⟨fun ⟨x, hx, e⟩ => ⟨x, hx, e.symm⟩, fun ⟨x, hx, e⟩ => ⟨x, hx, e.symm⟩⟩

/-- A step that ends a window and drops the links to it. -/
theorem downs_windowGone (hk : Kept s t) (hf : WindowsFrom s t) (hp : t.port p = s.port p)
    (hx : t.exchanges = unlinked w s) (hw : t.window w = none) : Downs p s t where
  port := hp
  channels := hk.channels
  lines := hk.lines
  signals := hk.signals
  mirror := hk.mirror
  records y hy := by
    obtain ⟨x, hxm, rfl⟩ := (mem_unlinked hx).1 hy
    refine ⟨x, hxm, ?_⟩
    split <;> exact ⟨rfl, rfl⟩
  links x hxm w' hxw := by
    by_cases e : w' = w
    · exact .inl (e ▸ hw)
    · exact .inr ⟨x, (mem_unlinked hx).2 ⟨x, hxm, (if_neg fun h => e (Option.some.inj (hxw.symm.trans h))).symm⟩, rfl, hxw⟩
  windows := hf
  mgmt y hy := by rw [← mgmtRecords_unlinked hx]; exact hy
  side m := .inl (by cases m <;> [exact hk.sideW; exact hk.sideC])

theorem endAborted_ports (w : Fin 2) (v : Window) (c : EndCause) (tell : Bool) (s : State) :
    (endAborted w v c tell s).ports = s.ports := by
  unfold endAborted
  split
  · exact endActive_ports _ _ _ _ _ _
  · exact endPending_ports _ _ _ _ _ _

theorem endAborted_gone (w : Fin 2) (v : Window) (c : EndCause) (tell : Bool) (s : State) :
    (endAborted w v c tell s).window w = none := by
  unfold endAborted
  split
  · exact endActive_gone _ _ _ _ _ _
  · exact endPending_gone _ _ _ _ _ _

theorem port_of_ports (h : t.ports = s.ports) (p : Port) : t.port p = s.port p := by
  unfold State.port
  rw [h]

/-- The report of a withdrawal ends the windows on the channels of the port (R129). -/
theorem windowDown_downs (p q : Port) (w : Fin 2) (s : State) : Downs q s (windowDown p w s) := by
  unfold windowDown
  split
  · next v hv =>
    split
    · exact downs_windowGone (kept_endAborted _ _ _ _ _) (course_endAborted (D := False) (a := false) hv _ _).windowsFrom
        (port_of_ports (endAborted_ports _ _ _ _ _) q) (endAborted_exchanges _ _ _ _ _) (endAborted_gone _ _ _ _ _)
    · exact .refl q s
  · exact .refl q s

theorem windowDown_apart (p : Port) (w : Fin 2) (s : State) (v : Window) (h : (windowDown p w s).window w = some v) :
    targetPort s v.channel ≠ p := by
  unfold windowDown at h
  split at h
  · next x hx =>
    split at h
    · rw [endAborted_gone] at h
      cases h
    · next hp =>
      obtain rfl := Option.some.inj (hx.symm.trans h)
      exact hp
  · next hx =>
    rw [hx] at h
    cases h

/-- What a close by PORT_DOWN reports to the Inspector: the window that the exchange was linked to ends. -/
theorem inspectorClosed_down (x : ChannelExchange) (told : Bool) (s : State) :
    (inspectorClosed x (.portDown told) s = s ∧ ∀ w, x.window = some w → s.window w = none) ∨
      ∃ w, x.window = some w ∧ (inspectorClosed x (.portDown told) s).exchanges = unlinked w s ∧
        (inspectorClosed x (.portDown told) s).window w = none := by
  unfold inspectorClosed
  cases hw : x.window with
  | none => exact .inl ⟨rfl, nofun⟩
  | some w =>
    cases hv : s.window w with
    | none => exact .inl ⟨by simp only [hv], fun u hu => by rw [← Option.some.inj hu]; exact hv⟩
    | some v =>
      refine .inr ⟨w, rfl, ?_⟩
      simp only [hv]
      cases v.state <;> exact ⟨by simp, by simp [endActive_gone, endPending_gone]⟩

theorem mem_dropped (hs : exchangeLaw s) : y ∈ channelRecords (dropChannelExchange n s) ↔
    y ∈ channelRecords s ∧ y.id ≠ n := by
  rw [channelRecords_dropped, eraseP_eq_filter _ _ (channelRecords_distinct hs).2, List.mem_filter, decide_eq_true_eq]

/-- What is left once an exchange has closed: no exchange of its number, no window that it was linked to. -/
def Closed (x : ChannelExchange) (t : State) : Prop :=
  (∀ y ∈ channelRecords t, y.id ≠ x.id) ∧ ∀ w, x.window = some w → t.window w = none

theorem dropChannelExchange_downs (hs : exchangeLaw s) (hx : x ∈ channelRecords s)
    (hw : ∀ w, x.window = some w → s.window w = none) (p : Port) : Downs p s (dropChannelExchange x.id s) where
  port := rfl
  channels := rfl
  lines := rfl
  signals := rfl
  mirror := rfl
  records y hy := ⟨y, ((mem_dropped hs).1 hy).1, rfl, rfl⟩
  links y hy w hyw := by
    by_cases e : y.id = x.id
    · obtain rfl : y = x := List.inj_on_of_nodup_map (channelRecords_distinct hs).2 hy hx e
      exact .inl (hw w hyw)
    · exact .inr ⟨y, (mem_dropped hs).2 ⟨hy, e⟩, rfl, hyw⟩
  windows := .refl s
  mgmt y hy := by rwa [mgmtRecords_dropChannel] at hy
  side _ := .inl rfl

/-- The report of a close to the Inspector, by PORT_DOWN. -/
theorem dropped_downs (hs : exchangeLaw s) (hx : x ∈ channelRecords s) (told : Bool) (p : Port) :
    Downs p s (inspectorClosed x (.portDown told) (dropChannelExchange x.id s)) ∧
      Closed x (inspectorClosed x (.portDown told) (dropChannelExchange x.id s)) := by
  have hgone : ∀ y ∈ channelRecords (dropChannelExchange x.id s), y.id ≠ x.id := fun y hy => ((mem_dropped hs).1 hy).2
  have hk : Kept s (inspectorClosed x (.portDown told) (dropChannelExchange x.id s)) :=
    (kept_dropChannel _ _).trans (kept_inspectorClosed _ _ _)
  have hf : WindowsFrom s (inspectorClosed x (.portDown told) (dropChannelExchange x.id s)) :=
    (course_inspectorClosed (D := False) (a := false) x (.portDown told) (dropChannelExchange x.id s)).windowsFrom
  obtain ⟨e, hw⟩ | ⟨w, hxw, hex, hwin⟩ := inspectorClosed_down x told (dropChannelExchange x.id s)
  · rw [e]
    exact ⟨dropChannelExchange_downs hs hx hw p, hgone, hw⟩
  · refine ⟨?_, fun y hy => ?_, fun u hu => ?_⟩
    · have hrec := fun y => mem_unlinked (y := y) hex
      refine ⟨⟨hk.channels, hk.lines, hk.signals, hk.mirror, fun y hy => ?_, fun y hy u hyu => ?_, hf, fun y hy => ?_,
        fun m => .inl (by cases m <;> [exact hk.sideW; exact hk.sideC])⟩, port_of_ports (inspectorClosed_ports _ _ _) p⟩
      · obtain ⟨z, hz, rfl⟩ := (hrec y).1 hy
        refine ⟨z, ((mem_dropped hs).1 hz).1, ?_⟩
        split <;> exact ⟨rfl, rfl⟩
      · by_cases huw : u = w
        · exact .inl (huw ▸ hwin)
        · refine .inr ⟨y, (hrec y).2 ⟨y, (mem_dropped hs).2 ⟨hy, fun e => ?_⟩, ?_⟩, rfl, hyu⟩
          · obtain rfl : y = x := List.inj_on_of_nodup_map (channelRecords_distinct hs).2 hy hx e
            exact huw (Option.some.inj (hyu.symm.trans hxw))
          · exact (if_neg fun h => huw (Option.some.inj (hyu.symm.trans h))).symm
      · rwa [mgmtRecords_unlinked hex, mgmtRecords_dropChannel] at hy
    · obtain ⟨z, hz, rfl⟩ := (mem_unlinked hex).1 hy
      have := hgone z hz
      split <;> exact this
    · rw [← Option.some.inj (hxw.symm.trans hu)]
      exact hwin

/-- An offer to port W leaves the other ports, the exchanges and the windows. -/
theorem gatewayReply_downs (hp : p ≠ .W) (c : Fin 16) (code : Byte) (r : Nat) (s : State) :
    Downs p s (gatewayReply c code r s) ∧ (gatewayReply c code r s).exchanges = s.exchanges ∧
      ∀ w, (gatewayReply c code r s).window w = s.window w := by
  have hwin : ∀ w, (gatewayReply c code r s).window w = s.window w := fun w =>
    window_of_inspector (by rw [gatewayReply_touches])
  exact ⟨⟨ends_of (kept_gatewayReply s c code r) (gatewayReply_exchanges _ _ _ _) hwin, offerState_other hp _ _⟩,
    gatewayReply_exchanges _ _ _ _, hwin⟩

/-- A close by PORT_DOWN, told to the tool where it is not port W that is down (R65, R67). -/
theorem closeExchange_downs (hs : exchangeLaw s) (hx : x ∈ channelRecords s) (hp : told = true → p ≠ .W) :
    Downs p s (closeExchange x (.portDown told) s) ∧ Closed x (closeExchange x (.portDown told) s) := by
  obtain ⟨hd, h1, h2⟩ := dropped_downs hs hx told p
  cases told with
  | false => exact ⟨hd, h1, h2⟩
  | true =>
    obtain ⟨hg, hex, hwin⟩ := gatewayReply_downs (hp rfl) x.channel x.code (reasonCode .portDown)
      (inspectorClosed x (.portDown true) (dropChannelExchange x.id s))
    refine ⟨hd.trans hg, fun y hy => h1 y ?_, fun w hw => (hwin w).trans (h2 w hw)⟩
    rwa [channelRecords, ← hex]

theorem exchangeLaw_of_course (h : Course False false s t) (hs : exchangeLaw s) : exchangeLaw t :=
  h.keeps Move.exchangeLaw hs

/-! ### The flush of one frame -/

/-- What the flush of a frame has ended. -/
structure Gone (o : OutFrame) (s t : State) : Prop where
  exchange : ∀ c, o.origin = .exchange c ∨ o.origin = .pace c → (∀ y ∈ channelRecords t, y.id ≠ o.owner) ∧
    ∀ y ∈ channelRecords s, y.id = o.owner → ∀ w, y.window = some w → t.window w = none
  mgmt : ∀ m, o.origin = .management m .exchange → ∀ y ∈ mgmtRecords t, y.id ≠ o.owner
  side : ∀ m id seg msg gap, o.origin = .management m .side → sideOf s m = .sending id seg msg gap → id = o.owner →
    sideOf t m = .absent

/-- What has gone stays so. -/
theorem Gone.after (h : Gone o s t) (k : Ends t u) : Gone o s u where
  exchange c ho := by
    obtain ⟨h1, h2⟩ := h.exchange c ho
    refine ⟨fun y hy => ?_, fun y hy e w hw => k.windows.closed (h2 y hy e w hw)⟩
    obtain ⟨x, hx, hid, -⟩ := k.records y hy
    rw [← hid]
    exact h1 x hx
  mgmt m ho y hy := h.mgmt m ho y (k.mgmt y hy)
  side m id seg msg gap ho hside hid := by
    have := h.side m id seg msg gap ho hside hid
    obtain e | e := k.side m
    · exact e.trans this
    · exact e

/-- What has gone had gone from the beginning. -/
theorem Gone.before (h : Ends s t) (k : Ends t u) (g : Gone o t u) : Gone o s u where
  exchange c ho := by
    obtain ⟨h1, h2⟩ := g.exchange c ho
    refine ⟨h1, fun y hy e w hw => ?_⟩
    obtain hn | ⟨z, hz, hid, hzw⟩ := h.links y hy w hw
    · exact k.windows.closed hn
    · exact h2 z hz (hid.trans e) w hzw
  mgmt := g.mgmt
  side m id seg msg gap ho hside hid := by
    obtain e | e := h.side m
    · exact g.side m id seg msg gap ho (e.trans hside) hid
    · obtain e' | e' := k.side m
      · exact e'.trans e
      · exact e'

theorem flushedExchange_downs (hs : exchangeLaw s) (p : Port) (n : Nat) : Downs p s (flushedExchange p n s) ∧
    (∀ y ∈ channelRecords (flushedExchange p n s), y.id ≠ n) ∧
    ∀ y ∈ channelRecords s, y.id = n → ∀ w, y.window = some w → (flushedExchange p n s).window w = none := by
  unfold flushedExchange
  split
  · next x hx =>
    obtain ⟨hm, hid⟩ := ownedExchange_some hx
    have hxm : x ∈ channelRecords s := mem_channelRecords.2 hm
    obtain ⟨hd, h1, h2⟩ := closeExchange_downs (told := p != .W) hs hxm fun h => by simpa using h
    refine ⟨hd, fun y hy => hid ▸ h1 y hy, fun y hy e w hw => h2 w ?_⟩
    obtain rfl : y = x := List.inj_on_of_nodup_map (channelRecords_distinct hs).2 hy hxm (e.trans hid.symm)
    exact hw
  · next hn =>
    have hnone : ∀ y ∈ channelRecords s, y.id ≠ n := by
      rw [ownedExchange_eq, List.find?_eq_none] at hn
      exact fun y hy => by simpa using hn y hy
    exact ⟨.refl p s, hnone, fun y hy e => absurd e (hnone y hy)⟩

theorem closeMgmt_downs (hs : exchangeLaw s) (p : Port) (n : Nat) : Downs p s (mgmtFrameGone n (closeMgmt n s)) ∧
    ∀ y ∈ mgmtRecords (mgmtFrameGone n (closeMgmt n s)), y.id ≠ n := by
  have hm : ∀ y, y ∈ mgmtRecords (mgmtFrameGone n (closeMgmt n s)) ↔ y ∈ mgmtRecords s ∧ y.id ≠ n := fun y => by
    have h : mgmtRecords (mgmtFrameGone n (closeMgmt n s)) = mgmtRecords (closeMgmt n s) := rfl
    rw [h, mgmtRecords_dropped, eraseP_eq_filter _ _ (mgmtRecords_distinct hs).2, List.mem_filter, decide_eq_true_eq]
  have hc : channelRecords (mgmtFrameGone n (closeMgmt n s)) = channelRecords s := by
    show (s.exchanges.eraseP (isMgmt n)).filterMap asChannel = s.exchanges.filterMap asChannel
    induction s.exchanges with
    | nil => rfl
    | cons e l ih =>
      cases e with
      | channel y =>
        rw [List.eraseP_cons_of_neg (by simp [isMgmt])]
        exact congrArg (y :: ·) ih
      | management y =>
        by_cases h : y.id = n
        · rw [List.eraseP_cons_of_pos (by simpa [isMgmt] using h)]
          rfl
        · rw [List.eraseP_cons_of_neg (by simpa [isMgmt] using h)]
          exact ih
  refine ⟨⟨⟨rfl, rfl, rfl, rfl, fun y hy => ⟨y, hc ▸ hy, rfl, rfl⟩, fun y hy w hw => .inr ⟨y, hc.symm ▸ hy, rfl, hw⟩,
    .refl s, fun y hy => ((hm y).1 hy).1, fun m => .inl (by cases m <;> rfl)⟩, rfl⟩, fun y hy => ((hm y).1 hy).2⟩

theorem setSide_downs (m : Mgmt) (p : Port) (s : State) : Downs p s (endSide m s) := by
  refine ⟨⟨by cases m <;> rfl, by cases m <;> rfl, by cases m <;> rfl, by cases m <;> rfl,
    fun y hy => ⟨y, by cases m <;> exact hy, rfl, rfl⟩, fun y hy w hw => .inr ⟨y, by cases m <;> exact hy, rfl, hw⟩,
    windowsFrom_of fun w => by cases m <;> rfl, fun y hy => by cases m <;> exact hy, fun k => ?_⟩, by cases m <;> rfl⟩
  cases m <;> cases k <;> first | exact .inl rfl | exact .inr rfl

theorem flushedSide_downs (m : Mgmt) (p : Port) (n : Nat) (s : State) : Downs p s (flushedSide m n s) ∧
    ∀ id seg msg gap, sideOf s m = .sending id seg msg gap → id = n → sideOf (flushedSide m n s) m = .absent := by
  unfold flushedSide
  split
  · next id _ _ _ hside =>
    split
    · exact ⟨setSide_downs m p s, fun _ _ _ _ _ _ => by cases m <;> rfl⟩
    · next hn =>
      refine ⟨.refl p s, fun id' seg msg gap e hid => absurd ?_ hn⟩
      rw [hside] at e
      injection e with e1
      exact e1.trans hid
  · next hno => exact ⟨.refl p s, fun id seg msg gap e _ => absurd e (hno id seg msg gap)⟩

theorem ofNone_not (h : (∃ c, f.origin = .exchange c ∨ f.origin = .pace c) ∨
    ∃ m k, f.origin = .management m k ∧ k ≠ .loose) : ¬ ofNone f := by
  rintro (e | ⟨c, e⟩ | ⟨m, e⟩) <;> rw [e] at h <;> simp at h

/-- The flush of one frame ends what it belongs to. -/
theorem flushed_downs (hs : exchangeLaw s) (p : Port) (f : OutFrame) :
    Downs p s (flushed p f s) ∧ Gone f s (flushed p f s) := by
  obtain ⟨c, h⟩ | ⟨m, h⟩ | ⟨m, h⟩ | h := origin_cases f
  · rw [flushed_exchange h]
    obtain ⟨hd, h1, h2⟩ := flushedExchange_downs hs p f.owner
    refine ⟨hd, fun _ _ => ⟨h1, h2⟩, fun m e => ?_, fun m _ _ _ _ e => ?_⟩ <;> (rw [e] at h; simp at h)
  · rw [flushed_management h]
    obtain ⟨hd, h1⟩ := closeMgmt_downs hs p f.owner
    refine ⟨hd, fun c e => ?_, fun _ _ => h1, fun m _ _ _ _ e => ?_⟩
    · rw [h] at e
      simp at e
    · rw [h] at e
      simp at e
  · rw [flushed_side h]
    obtain ⟨hd, h1⟩ := flushedSide_downs m p f.owner s
    refine ⟨hd, fun c e => ?_, fun m e => ?_, fun m' id seg msg gap e hside hid => ?_⟩
    · rw [h] at e
      simp at e
    · rw [h] at e
      simp at e
    · obtain rfl : m = m' := by
        rw [h] at e
        injection e
      exact h1 id seg msg gap hside hid
  · rw [flushed_none h]
    refine ⟨.refl p s, fun c e => absurd h (ofNone_not (.inl ⟨c, e⟩)), fun m e => absurd h (ofNone_not (.inr ⟨m, _, e, nofun⟩)),
      fun m _ _ _ _ e => absurd h (ofNone_not (.inr ⟨m, _, e, nofun⟩))⟩

/-- The flush of a whole queue. -/
theorem flush_downs (hs : exchangeLaw s) (p : Port) (l : List OutFrame) :
    Downs p s (l.foldl (fun s f => flushed p f s) s) ∧ exchangeLaw (l.foldl (fun s f => flushed p f s) s) ∧
      ∀ o ∈ l, Gone o s (l.foldl (fun s f => flushed p f s) s) := by
  induction l generalizing s with
  | nil => exact ⟨.refl p s, hs, nofun⟩
  | cons f l ih =>
    obtain ⟨hd, hg⟩ := flushed_downs hs p f
    obtain ⟨hd', hs', hg'⟩ := ih (s := flushed p f s) (exchangeLaw_of_course (course_flushed p f s) hs)
    refine ⟨hd.trans hd', hs', fun o ho => ?_⟩
    obtain rfl | ho := List.mem_cons.1 ho
    · exact hg.after hd'.toEnds
    · exact (hg' o ho).before hd.toEnds hd'.toEnds

/-! ### The closes that follow (R67) -/

theorem closeDown_downs (hs : exchangeLaw s) (hp : p ≠ .W) (n : Nat) : Downs p s (closeDown s n) ∧
    ∀ y ∈ channelRecords (closeDown s n), y.id ≠ n := by
  have hb : (p != Port.W) = true := by simpa using hp
  have he : closeDown s n = flushedExchange p n s := by
    unfold closeDown flushedExchange
    cases ownedExchange s n with
    | none => rfl
    | some x =>
      show closeExchange x (.portDown true) s = closeExchange x (.portDown (p != .W)) s
      rw [hb]
  rw [he]
  obtain ⟨hd, h1, -⟩ := flushedExchange_downs hs p n
  exact ⟨hd, h1⟩

theorem closeDowns_downs (hs : exchangeLaw s) (hp : p ≠ .W) (l : List Nat) : Downs p s (l.foldl closeDown s) ∧
    ∀ n ∈ l, ∀ y ∈ channelRecords (l.foldl closeDown s), y.id ≠ n := by
  induction l generalizing s with
  | nil => exact ⟨.refl p s, nofun⟩
  | cons n l ih =>
    obtain ⟨hd, h1⟩ := closeDown_downs hs hp n
    obtain ⟨hd', h2⟩ := ih (s := closeDown s n) (exchangeLaw_of_course (course_closeDown s n) hs)
    refine ⟨hd.trans hd', fun k hk y hy => ?_⟩
    obtain rfl | hk := List.mem_cons.1 hk
    · obtain ⟨x, hx, hid, -⟩ := hd'.records y hy
      rw [← hid]
      exact h1 x hx
    · exact h2 k hk y hy

theorem mem_targeting : n ∈ targeting p s ↔ ∃ x ∈ channelRecords s, targetPort s x.channel = p ∧ x.id = n := by
  unfold targeting
  rw [List.mem_filterMap]
  constructor
  · rintro ⟨e, he, h⟩
    cases e with
    | management x => cases h
    | channel x =>
      dsimp only at h
      split at h
      · next ht => exact ⟨x, mem_channelRecords.2 he, ht, Option.some.inj h⟩
      · cases h
  · rintro ⟨x, hx, ht, rfl⟩
    exact ⟨.channel x, mem_channelRecords.1 hx, if_pos ht⟩

theorem targeting_W (s : State) : targeting .W s = [] := by
  rw [List.eq_nil_iff_forall_not_mem]
  intro n hn
  obtain ⟨x, -, ht, -⟩ := mem_targeting.1 hn
  exact netPort_ne_W _ ht.symm

/-- Every exchange of a channel of the port closes (R67). -/
theorem targeted_downs (hs : exchangeLaw s) (p : Port) : Downs p s ((targeting p s).foldl closeDown s) ∧
    ∀ y ∈ channelRecords ((targeting p s).foldl closeDown s), targetPort s y.channel ≠ p := by
  by_cases hp : p = .W
  · subst hp
    rw [targeting_W]
    exact ⟨.refl _ s, fun y _ => (netPort_ne_W _).symm⟩
  · obtain ⟨hd, h1⟩ := closeDowns_downs hs hp (targeting p s)
    refine ⟨hd, fun y hy ht => ?_⟩
    obtain ⟨x, hx, hid, hch⟩ := hd.records y hy
    exact h1 x.id (mem_targeting.2 ⟨x, hx, by rw [hch]; exact ht, rfl⟩) y hy hid.symm

/-! ### The whole withdrawal (R8) -/

theorem setPort_ends (s : State) (p : Port) (x : PortState) : Ends s (s.setPort p x) := by
  cases p <;> exact ends_same rfl rfl rfl rfl rfl (fun _ => rfl) fun _ => rfl

theorem setPort_exchangeLaw (hs : exchangeLaw s) (p : Port) (x : PortState) : exchangeLaw (s.setPort p x) := by
  cases p <;> exact hs

theorem raiseWithdrawn_ends (p : Port) (s : State) : Ends s (raiseWithdrawn p s) := by
  cases p <;> exact ends_same rfl rfl rfl rfl rfl (fun _ => rfl) fun _ => rfl

theorem raiseWithdrawn_port (p : Port) (s : State) : (raiseWithdrawn p s).port p = s.port p := by
  cases p <;> rfl

theorem targetPort_ends (h : Ends s t) (c : Fin 16) : targetPort t c = targetPort s c := by
  unfold targetPort State.channel
  rw [h.channels]

/-- The flush, with the withdrawal counted, before the closes of R67. -/
theorem flushedOut_ends (hs : exchangeLaw s) (p : Port) : Ends s (flushedOut p s) ∧ exchangeLaw (flushedOut p s) ∧
    (flushedOut p s).port p = { (emptied p s).port p with
      counters := ((emptied p s).port p).counters.addWithdrawals } ∧ ∀ o ∈ (s.port p).out, Gone o s (flushedOut p s) := by
  have he : Ends s (emptied p s) := setPort_ends _ _ _
  have hel : exchangeLaw (emptied p s) := setPort_exchangeLaw hs p _
  obtain ⟨hd, hl, hg⟩ := flush_downs hel p (s.port p).out
  have hc : Ends _ (flushedOut p s) := setPort_ends _ _ _
  refine ⟨(he.trans hd.toEnds).trans hc, setPort_exchangeLaw hl p _, ?_, fun o ho =>
    ((hg o ho).before he hd.toEnds).after hc⟩
  rw [flushedOut, count_eq, setPort_port_self, hd.port]

theorem withdraw_ends (hs : exchangeLaw s) (p : Port) : Ends s (withdraw p s) ∧
    (withdraw p s).port p = { (emptied p s).port p with
      counters := ((emptied p s).port p).counters.addWithdrawals } ∧
    (∀ y ∈ channelRecords (withdraw p s), targetPort s y.channel ≠ p) ∧
    (∀ w v, (withdraw p s).window w = some v → targetPort s v.channel ≠ p) ∧
    ∀ o ∈ (s.port p).out, Gone o s (withdraw p s) := by
  obtain ⟨hf, hl, hp, hg⟩ := flushedOut_ends hs p
  obtain ⟨hd, htarget⟩ := targeted_downs hl p
  rw [withdraw_eq]
  generalize (targeting p (flushedOut p s)).foldl closeDown (flushedOut p s) = t at hd htarget ⊢
  have h0 := windowDown_downs p p 0 t
  have h1 := windowDown_downs p p 1 (windowDown p 0 t)
  have hr := raiseWithdrawn_ends p (windowDown p 1 (windowDown p 0 t))
  have hfrom : Ends (flushedOut p s) (raiseWithdrawn p (windowDown p 1 (windowDown p 0 t))) :=
    ((hd.trans h0).trans h1).toEnds.trans hr
  have ht0 : Ends s t := hf.trans hd.toEnds
  have ht1 : Ends s (windowDown p 0 t) := ht0.trans h0.toEnds
  refine ⟨hf.trans hfrom, ?_, fun y hy => ?_, fun w v hv => ?_, fun o ho => (hg o ho).after hfrom⟩
  · rw [raiseWithdrawn_port, h1.port, h0.port, hd.port, hp]
  · obtain ⟨x, hx, -, hc⟩ := ((h0.trans h1).toEnds.trans hr).records y hy
    rw [← targetPort_ends hf, ← hc]
    exact htarget x hx
  · obtain ⟨x, hx, hc⟩ := hr.windows w v hv
    rw [← hc]
    obtain rfl | rfl : w = 0 ∨ w = 1 := by omega
    · obtain ⟨z, hz, hzc⟩ := h1.windows 0 x hx
      rw [← targetPort_ends ht0, ← hzc]
      exact windowDown_apart p 0 t z hz
    · rw [← targetPort_ends ht1]
      exact windowDown_apart p 1 _ x hx

/-- Settles O20: the failed attempt that brings the fault score to 128 withdraws the port. -/
theorem failedAttemptWithdrawsThePort : Obligations.FailedAttemptWithdrawsThePort := by
  unfold Obligations.FailedAttemptWithdrawsThePort
  intro p f rest s h hs ha ho hf hn
  obtain ⟨z, hz⟩ : ∃ z, z = s.setPort p { s.port p with fault := (s.port p).fault + 8 } := ⟨_, rfl⟩
  have hzp : z.port p = { s.port p with fault := (s.port p).fault + 8 } := by rw [hz, setPort_port_self]
  have hze : Ends s z := hz ▸ setPort_ends _ _ _
  have hzl : exchangeLaw z := hz ▸ setPort_exchangeLaw hs p _
  obtain ⟨he, hp, hx, hw, hg⟩ := withdraw_ends hzl p
  rw [emptied, setPort_port_self, hzp] at hp
  refine ⟨withdraw p z, ?_, by rw [hp], by rw [hp], by rw [hp], by rw [hp], by rw [hp], by rw [hp]; rfl, by rw [hp]; rfl,
    by rw [hp]; rfl, ?_, by rintro rfl; rfl, by rintro rfl; rfl, by rintro rfl; rfl, fun y hy => ?_, fun w v hv => ?_,
    fun o hom => ?_, (hze.trans he).channels, (hze.trans he).lines, (hze.trans he).signals, (hze.trans he).mirror⟩
  · rw [awake_next h rfl, transmissionFailed_withdraws ha ho hf hn, hz]
  · rw [hp]
    show saturate (_ + (s.port p).out.length) = _
    rw [ho]
    rfl
  · rw [show netPort _ = targetPort s y.channel from rfl, ← targetPort_ends hze]
    exact hx y (mem_channelRecords.2 hy)
  · rw [show netPort _ = targetPort s v.channel from rfl, ← targetPort_ends hze]
    exact hw w v hv
  · have hgone : Gone o s (withdraw p z) := (hg o (by rw [hzp]; exact hom)).before hze he
    refine ⟨fun c hc => ?_, fun m hm y hy => hgone.mgmt m hm y (mem_mgmtRecords.2 hy), hgone.side⟩
    obtain ⟨h1, h2⟩ := hgone.exchange c hc
    refine ⟨fun y hy => h1 y (mem_channelRecords.2 hy), fun y w hy hyw => ?_⟩
    obtain ⟨hm, hid⟩ := ownedExchange_some hy
    exact h2 y (mem_channelRecords.2 hm) hid w hyw

end Sys2Proof.Machine
end

section
/-! The three outcomes of a transmission attempt (R7), and what a frame sent means for its message (R48, R53, R61, R121). -/

namespace Sys2Proof.Machine

open Sys2Proof Sys2Proof.Safety

variable {s t u q : State} {p : Port} {f : OutFrame} {l : List OutFrame} {w : Fin 2} {v : Window} {x : ChannelExchange}
  {e : MgmtExchange} {m : Mgmt} {n : Nat} {g : Seg} {msg : List Byte} {gap : Option Nat}

/-! ### A record put back as it was -/

/-- Where the search that a replacement makes finds a value, putting it there again changes nothing. -/
theorem modifyFirst_found {α β : Type} {k : β → α} {c : α → Option β} {d : α → Bool} {b : β} {l : List α}
    (hk : ∀ a b, c a = some b → a = k b) (hd : ∀ a, d a = (c a).isSome) (h : l.findSome? c = some b) :
    modifyFirst d (fun _ => k b) l = l := by
  induction l with
  | nil => rfl
  | cons a l ih =>
    unfold modifyFirst
    rw [hd]
    cases ha : c a with
    | none =>
      rw [List.findSome?_cons, ha] at h
      exact congrArg (a :: ·) (ih h)
    | some y =>
      rw [List.findSome?_cons, ha] at h
      obtain rfl := Option.some.inj h
      exact congrArg (· :: l) (hk a y ha).symm

theorem setChannelExchange_same (h : ownedExchange s n = some x) : setChannelExchange x s = s := by
  obtain ⟨-, rfl⟩ := ownedExchange_some h
  refine congrArg (fun l => { s with exchanges := l }) (modifyFirst_found (fun a b hab => ?_) (fun a => ?_) h)
  · cases a with
    | channel y => simpa using (Option.ite_none_right_eq_some.1 hab).2
    | management y => cases hab
  · cases a with
    | channel y => by_cases hy : y.id = x.id <;> simp [isChannel, hy]
    | management y => rfl

theorem setMgmtExchange_same (h : mgmtOwned s n = some e) : setMgmtExchange e s = s := by
  obtain ⟨-, rfl⟩ := mgmtOwned_some h
  refine congrArg (fun l => { s with exchanges := l }) (modifyFirst_found (fun a b hab => ?_) (fun a => ?_) h)
  · cases a with
    | management y => simpa using (Option.ite_none_right_eq_some.1 hab).2
    | channel y => cases hab
  · cases a with
    | management y => by_cases hy : y.id = e.id <;> simp [isMgmt, hy]
    | channel y => rfl

theorem setSide_same (m : Mgmt) (s : State) : setSide m (sideOf s m) s = s := by cases m <;> rfl

/-! ### The turn given away -/

theorem turnSent_preset (h : g.phase ≠ .none) : g.turnSent g.turn = { g with timer := some 1000 } := if_pos ⟨rfl, h⟩

/-- A later frame of the message has given the turn away (log 14). -/
theorem turnSent_late (h : g.turn ≠ n) : g.turnSent n = g := if_neg fun k => h k.1

/-! ### What a frame sent brings about -/

theorem sentEffect_none (h : ofNone f) (s : State) : sentEffect f s = s := by
  unfold sentEffect
  obtain h | ⟨c, h⟩ | ⟨m, h⟩ := h <;> rw [h]

theorem sentEffect_channel {c : Fin 16} (h : f.origin = .exchange c ∨ f.origin = .pace c) (s : State) :
    (ownedExchange s f.owner = none → sentEffect f s = s) ∧
      ∀ x, ownedExchange s f.owner = some x → sentEffect f s = channelSent x f.mark s := by
  unfold sentEffect
  obtain h | h := h <;> rw [h] <;> exact ⟨fun e => by rw [e], fun x e => by rw [e]⟩

/-- A Restart waits for no other frame of a management exchange. -/
theorem mgmtFrameGone_other (h : s.agent.restart ≠ .answered n) : mgmtFrameGone n s = s := by
  have : restartAfter n s.agent.restart = s.agent.restart := by
    cases hr : s.agent.restart with
    | answered i => exact if_neg fun e => h (by rw [hr, e])
    | _ => rfl
  rw [mgmtFrameGone, this]

theorem sentEffect_mgmt (h : f.origin = .management m .exchange) (hr : s.agent.restart ≠ .answered f.owner) :
    (mgmtOwned s f.owner = none → sentEffect f s = s) ∧
      ∀ e, mgmtOwned s f.owner = some e → sentEffect f s = mgmtSent e f.mark s := by
  rw [sentEffect_management h, mgmtFrameGone_other (by rw [mgmtOwnedSent_agent]; exact hr), mgmtOwnedSent]
  exact ⟨fun k => by rw [k], fun e k => by rw [k]⟩

theorem sentEffect_side (h : f.origin = .management m .side) (s : State) :
    ((∀ g msg gap, sideOf s m ≠ .sending f.owner g msg gap) → sentEffect f s = s) ∧
      ∀ g msg gap, sideOf s m = .sending f.owner g msg gap →
        sentEffect f s = sideSent m f.owner g msg gap f.mark s := by
  unfold sentEffect
  rw [h]
  dsimp only
  refine ⟨fun k => ?_, fun g msg gap k => ?_⟩
  · split
    · next i g msg gap e => exact if_neg fun hi => k g msg gap (by rw [e, hi])
    · rfl
  · rw [k]
    exact if_pos rfl

/-- The last follow of a re-sent block releases the staging buffer (R121). -/
theorem blockSent_window (hw : x.window = some w) (hv : s.window w = some v) : blockSent x s = setChannelExchange
    { x with state := .awaiting, seg := x.seg.reset, gapTimer := none, extended := false,
             timer := .running (s.channel x.channel).replyTimeout } (setWindow w (some { v with buffer := none }) s) := by
  unfold blockSent
  rw [hw]
  dsimp only
  rw [hv]
  rfl

/-! ### The port -/

/-- The frame leaves the queue, and the new head is tested: on E and C as HEAD_FRAME_RELEASE does. -/
theorem frameSent_then (h : s.part.awake = true) (ha : (s.port p).status = .active) (ho : (s.port p).out = f :: l)
    (hf : p = .W ∨ f.released = true) (hu : u = (presetQuiet s).setPort p (s.port p).afterSent) (hW : p = .W → q = u)
    (hN : ∀ n, p = netPort n → exec (.headFrameRelease n) u = .next q) :
    exec (.frameSent p) s = .next (sentEffect f q) ∧
      ∃ P M, q = { s with part := { s.part with quiet := 5000 }, ports := P, meter := M } := by
  have hq : testPort p u = q := by
    have hua : u.part.awake = true := by
      rw [hu]
      cases p <;> exact h
    cases p with
    | W => exact (hW rfl).symm
    | E => exact Host.Outcome.next.inj ((exec_headFrameRelease hua .E).symm.trans (hN .E rfl))
    | C => exact Host.Outcome.next.inj ((exec_headFrameRelease hua .C).symm.trans (hN .C rfl))
  refine ⟨?_, (testPort p u).ports, (testPort p u).meter, ?_⟩
  · rw [awake_next h rfl, frameSent_eligible ha ho hf, ← hu, hq]
  · conv_lhs => rw [← hq, testPort_touches]
    rw [hu]
    cases p <;> rfl

/-! ### What each mark says -/

theorem channelSent_turn {i : Nat} (hx : ownedExchange s i = some x) (hp : x.seg.phase ≠ .none) :
    (x.seg.turn = n → channelSent x (.turn n) s =
        setChannelExchange { x with seg := { x.seg with timer := some 1000 } } s) ∧
      (x.seg.turn ≠ n → channelSent x (.turn n) s = s) := by
  refine ⟨fun e => ?_, fun e => ?_⟩ <;> unfold channelSent <;> dsimp only
  · rw [← e, turnSent_preset hp]
  · rw [turnSent_late e]
    exact setChannelExchange_same hx

theorem mgmtSent_turn {i : Nat} (he : mgmtOwned s i = some e) (hp : e.seg.phase ≠ .none) :
    (e.seg.turn = n → mgmtSent e (.turn n) s = setMgmtExchange { e with seg := { e.seg with timer := some 1000 } } s) ∧
      (e.seg.turn ≠ n → mgmtSent e (.turn n) s = s) := by
  refine ⟨fun k => ?_, fun k => ?_⟩ <;> unfold mgmtSent <;> dsimp only
  · rw [← k, turnSent_preset hp]
  · rw [turnSent_late k]
    exact setMgmtExchange_same he

theorem sideSent_turn {i : Nat} (hs : sideOf s m = .sending i g msg gap) (hp : g.phase ≠ .none) :
    (g.turn = n → sideSent m i g msg gap (.turn n) s =
        setSide m (.sending i { g with timer := some 1000 } msg gap) s) ∧
      (g.turn ≠ n → sideSent m i g msg gap (.turn n) s = s) := by
  refine ⟨fun k => ?_, fun k => ?_⟩ <;> unfold sideSent <;> dsimp only
  · rw [← k, turnSent_preset hp]
  · rw [turnSent_late k, ← hs]
    exact setSide_same m s

/-- Settles O19: a frame is sent, lost or failed. -/
theorem transmissionAttemptEndsInOneOfThreeWays : Obligations.TransmissionAttemptEndsInOneOfThreeWays := by
  unfold Obligations.TransmissionAttemptEndsInOneOfThreeWays
  intro p f rest s h ha ho hf
  have hel : headEligible p (s.port p) = some f := by
    rw [headEligible, ha, ho]
    exact if_pos hf
  refine ⟨?_, fun hn => ?_, fun x u q hx hu hW hN => ?_⟩
  · rw [awake_next h rfl, transmissionLost, hel]
    rfl
  · rw [awake_next h rfl, transmissionFailed, hel]
    exact congrArg Host.Outcome.next (if_neg (by omega))
  subst hx
  obtain ⟨hgo, P, M, rfl⟩ := frameSent_then (u := u) h ha ho hf (by rw [hu, PortState.afterSent, ho]; rfl) hW hN
  rw [hgo]
  refine ⟨fun hno => by rw [sentEffect_none hno], fun c hc => ?_, fun m hm hr => ?_, fun m hm => ?_⟩
  · obtain ⟨hnone, hsome⟩ := sentEffect_channel hc
      { s with part := { s.part with quiet := 5000 }, ports := P, meter := M }
    refine ⟨fun k => congrArg Host.Outcome.next ?_, fun e he => ?_⟩
    · obtain k | k := k
      · exact hnone k
      · cases he : ownedExchange s f.owner with
        | none => exact hnone he
        | some e => rw [hsome e he, k]; rfl
    rw [hsome e he]
    refine ⟨fun n k hp => ?_, fun k hp => ?_, fun k h1 h2 => ?_, fun w v k h1 hw hv => ?_⟩ <;> rw [k]
    · obtain ⟨h1, h2⟩ := channelSent_turn (n := n)
        (s := { s with part := { s.part with quiet := 5000 }, ports := P, meter := M }) he hp
      exact ⟨fun e => congrArg _ (h1 e), fun e => congrArg _ (h2 e)⟩
    · exact congrArg Host.Outcome.next (if_pos hp)
    · exact congrArg Host.Outcome.next (if_pos ⟨h1, h2⟩)
    · exact congrArg Host.Outcome.next ((if_pos h1).trans (blockSent_window hw hv))
  · obtain ⟨hnone, hsome⟩ := sentEffect_mgmt
      (s := { s with part := { s.part with quiet := 5000 }, ports := P, meter := M }) hm hr
    refine ⟨fun k => congrArg Host.Outcome.next ?_, fun e he => ?_⟩
    · obtain k | k := k
      · exact hnone k
      · cases he : mgmtOwned s f.owner with
        | none => exact hnone he
        | some e => rw [hsome e he, k]; rfl
    rw [hsome e he]
    refine ⟨fun n k hp => ?_, fun k hp => ?_, fun k h1 => ?_⟩ <;> rw [k]
    · obtain ⟨h1, h2⟩ := mgmtSent_turn (n := n)
        (s := { s with part := { s.part with quiet := 5000 }, ports := P, meter := M }) he hp
      exact ⟨fun e => congrArg _ (h1 e), fun e => congrArg _ (h2 e)⟩
    · exact congrArg Host.Outcome.next (if_pos hp)
    · exact congrArg Host.Outcome.next (if_pos h1)
  · obtain ⟨hnone, hsome⟩ := sentEffect_side hm
      { s with part := { s.part with quiet := 5000 }, ports := P, meter := M }
    refine ⟨fun k => congrArg Host.Outcome.next ?_, fun g msg gap hg => ?_⟩
    · obtain k | k := k
      · exact hnone fun g msg gap e => k g msg gap (by cases m <;> exact e)
      · by_cases he : ∃ g msg gap, sideOf s m = .sending f.owner g msg gap
        · obtain ⟨g, msg, gap, he⟩ := he
          rw [hsome g msg gap (by cases m <;> exact he), k]
          rfl
        · exact hnone fun g msg gap e => he ⟨g, msg, gap, by cases m <;> exact e⟩
    have hg' : sideOf { s with part := { s.part with quiet := 5000 }, ports := P, meter := M } m =
        .sending f.owner g msg gap := by cases m <;> exact hg
    rw [hsome g msg gap hg']
    refine ⟨fun n k hp => ?_, fun k hp => ?_, fun k => ?_⟩ <;> rw [k]
    · obtain ⟨h1, h2⟩ := sideSent_turn (n := n) hg' hp
      exact ⟨fun e => congrArg _ (h1 e), fun e => congrArg _ (h2 e)⟩
    · exact congrArg Host.Outcome.next (if_pos hp)
    · rfl

end Sys2Proof.Machine
end

section
/-! The answers to the steps of a download (R62, R115 to R117, R122, R123). -/

namespace Sys2Proof.Machine

open Sys2Proof Sys2Proof.Safety

variable {s t : State} {c : Fin 16} {f : Frame} {rest : List Frame} {msg data : List Byte} {x y : ChannelExchange}
  {w : Fin 2} {v : Window} {n : Nat}

/-! ### Frames of the controller -/

/-- The state once a controller's frame has been taken: its ports alone have changed, and port W's queue has not. -/
theorem controller_split (s : State) (c : Fin 16) (rest : List Frame) : ∃ P,
    taken s (netPort (s.channel c).port) rest = { s with ports := P } ∧
      (hasRoom s .W → hasRoom { s with ports := P } .W) ∧ queued { s with ports := P } .W = queued s .W := by
  obtain ⟨P, hP⟩ : ∃ P, taken s (netPort (s.channel c).port) rest = { s with ports := P } := ⟨_, taken_touches _ _ _⟩
  refine ⟨P, hP, fun hr => ?_, ?_⟩ <;> rw [← hP]
  · exact hasRoom_W_taken hr _ rest
  · exact queued_taken_W s _ rest

theorem controller_unit (h : ControllerSide s c f rest) (hx : channelExchange s c = some x) (hst : x.state = .awaiting)
    (hd : f.data = byte 0 :: msg) (hm : msg ≠ []) : exec (.routerTakesFrame (netPort (s.channel c).port)) s =
      .next (takeReply x (.unit msg) msg f.data (taken s (netPort (s.channel c).port) rest)) := by
  have hread : readSsx x.seg.count f.data = .unit msg := by
    rw [hd]
    exact readSsx_unitData (List.length_pos_iff.2 hm) _
  rw [controller_pending h hx, (controllerPending_awaiting hst).1 hread]

/-- The frame that passes a controller's reply on. -/
theorem toTool_frame (h : ControllerSide s c f rest) (hc : x.channel = c) (ht : t.channel c = s.channel c)
    (data : List Byte) (pace : Bool) (mark : Mark) : (toTool t x data pace mark).frame = { f with data := data } := by
  unfold toTool
  rw [hc, ht, h.response]
  rfl

/-! ### The form of a reply (R41) -/

theorem replyForm_positive {code : Byte} (hc : code.toNat ≤ 0x7E) (msg : List Byte) :
    replyForm code msg = .positive ↔ msg.head? = some (code + 0x80) := by
  have hcode : (code + 0x80).toNat = code.toNat + 0x80 := by
    rw [BitVec.toNat_add]
    exact Nat.mod_eq_of_lt (by have : (0x80 : Byte).toNat = 128 := rfl; omega)
  cases msg with
  | nil => simp [replyForm]
  | cons b l =>
    have : b.toNat = code.toNat + 0x80 ↔ b = code + 0x80 := by rw [← hcode]; exact BitVec.toNat_inj
    unfold replyForm
    rw [fieldAt_byte, List.head?_cons, Option.some_inj, ← this]
    by_cases h : b.toNat = code.toNat + 0x80
    · simp [h]
    · simp only [h, false_and, if_false, iff_false]
      split
      · split <;> nofun
      · nofun

/-! ### The Inspector's part in a reply -/

/-- An exchange whose reply has come: its reply timer stops (R62). -/
abbrev stopTimer (x : ChannelExchange) : ChannelExchange := { x with timer := .stopped }

theorem takeReply_withheld {form : ReplyForm} (hf : replyForm x.code msg = form) (hn : form ≠ .stillWorking)
    (hi : inspectReply (stopTimer x) form msg data (setChannelExchange (stopTimer x) s) = (t, none)) (first : Ssx) :
    takeReply x first msg data s = t := by
  unfold takeReply
  simp only [hf, if_neg hn, hi]

theorem takeReply_passed {form : ReplyForm} {d : List Byte} (hf : replyForm x.code msg = form) (hn : form ≠ .stillWorking)
    (hi : inspectReply (stopTimer x) form msg data (setChannelExchange (stopTimer x) s) = (t, some d))
    (ho : ownedExchange t x.id = some y) (hr : hasRoom t .W) :
    takeReply x (.unit msg) msg data s = closeExchange y .answered (withReply t (toTool t y d false .plain)) := by
  unfold takeReply
  simp only [hf, if_neg hn, hi, ho]
  exact offerThen_W hr _ _

/-- An answered exchange leaves a window that has been ACTIVE, which goes on (R118, R122, R127). -/
theorem answered_leaves (hw : x.window = some w) (hv : s.window w = some v) (hst : v.state = .active ∨ v.state = .suspended)
    (hr : x.role ≠ some .closing) :
    closeExchange x .answered s = setWindow w (some (unlinkedWindow v)) (dropChannelExchange x.id s) := by
  have hu : v.unlinked = unlinkedWindow v := by
    unfold Window.unlinked
    rw [if_pos hst]
  have hv' : (dropChannelExchange x.id s).window w = some v := hv
  show inspectorClosed x .answered (dropChannelExchange x.id s) = _
  rw [← hu]
  unfold inspectorClosed
  obtain h | h := hst <;> simp only [hw, hv', h, if_neg hr] <;> unfold leaveWindow <;> rw [hv']

/-! ### The answer to a Block (R122) -/

/-- The window takes the length of a new block that has been answered; a repeat changes nothing. -/
theorem advance_cases (b : HandBlock) (r : WindowRun) (h : b.count ≤ r.remaining) :
    (advance b r).next + (advance b r).remaining = r.next + r.remaining ∧ (b.again = true → advance b r = r) ∧
      (b.again = false → advance b r = { r with
        next := r.next + b.count, remaining := r.remaining - b.count, expected := (b.counter + 1) % 256
        last := some { start := b.start, count := b.count, counter := b.counter }, erase := false }) := by
  unfold advance
  cases hb : b.again
  · refine ⟨?_, nofun, fun _ => rfl⟩
    show r.next + b.count + (r.remaining - b.count) = _
    omega
  · exact ⟨rfl, fun _ => rfl, nofun⟩

theorem inspectReply_block {r : WindowRun} {b : HandBlock} (hw : x.window = some w) (hv : s.window w = some v)
    (hst : v.state = .active) (hr : x.role = some .block) (hrun : v.run = some r) (hb : v.inHand = some b) :
    inspectReply x .positive msg data s = (setWindow w (some { v with run := some (advance b r) }) s, some data) := by
  have h : blockAnswered w v s = setWindow w (some { v with run := some (advance b r) }) s := by
    unfold blockAnswered
    rw [hrun, hb]
  rw [← h]
  unfold inspectReply
  simp only [hw, hv, hst, hr, if_true]

theorem positiveBlock_taken {r : WindowRun} {b : HandBlock} (hs : exchangeLaw s) (hx : channelExchange s c = some x)
    (hr : hasRoom s .W) (hw : x.window = some w) (hv : s.window w = some v) (hst : v.state = .active)
    (hrole : x.role = some .block) (hrun : v.run = some r) (hb : v.inHand = some b)
    (hf : replyForm x.code msg = .positive) : takeReply x (.unit msg) msg data s =
      setWindow w (some (unlinkedWindow { v with run := some (advance b r) })) (withReply (dropChannelExchange x.id s)
        (toTool s x data false .plain)) := by
  obtain ⟨t, ht⟩ : ∃ t, t = setWindow w (some { v with run := some (advance b r) })
    (setChannelExchange (stopTimer x) s) := ⟨_, rfl⟩
  have ho : ownedExchange t x.id = some (stopTimer x) := by
    rw [ht]
    exact setChannelExchange_owned (y := stopTimer x) hs hx rfl
  have hi := inspectReply_block (msg := msg) (data := data) (x := stopTimer x) (s := setChannelExchange (stopTimer x) s) hw hv
    hst hrole hrun hb
  have hv' : t.window w = some { v with run := some (advance b r) } := by
    rw [ht]
    exact setWindow_window_self _ w _
  rw [takeReply_passed hf nofun (hi.trans (congrArg (·, some data) ht.symm)) ho (by rw [ht]; exact hr)]
  refine (answered_leaves (x := stopTimer x) (s := withReply t (toTool t (stopTimer x) data false .plain)) hw hv'
    (.inl hst) (by rw [hrole]; decide)).trans ?_
  rw [ht]
  exact congrArg₂ (fun l e => ({ withReply s (toTool s x data false .plain) with
      inspector := { s.inspector with windows := l }, exchanges := e } : State)) (put_put _ w _ _)
    (eraseP_modifyFirst (isChannel_self (stopTimer x)) s.exchanges)

/-! ### The reports to the grant (R104) -/

/-- A change of the grants of one number is its change of the one that has it. -/
theorem grantsWith_congr {g : Grant} {j k : Grant → Grant} (hd : grantNumbersDistinct s) (hg : g ∈ s.grants.grants)
    (h : j g = k g) : grantsWith s g.number j = grantsWith s g.number k := by
  refine List.map_congr_left fun y hy => ?_
  split
  · next e => rw [List.inj_on_of_nodup_map hd hy hg e, h]
  · rfl

theorem reportActive_pending {g : Grant} (hd : grantNumbersDistinct s) (hg : g ∈ s.grants.grants)
    (hb : g.binding = .pending w) : reportActive g.number w s = { s with
      grants := { s.grants with grants := grantsWith s g.number fun y => { y with binding := .bound w } } } := by
  rw [reportActive, updateGrant_distinct hd]
  have h := grantsWith_congr (k := fun y => { y with binding := .bound w })
    (j := fun y => if y.binding = .pending w then { y with binding := .bound w } else y) hd hg (if_pos hb)
  exact congrArg (fun l => { s with grants := { s.grants with grants := l } }) h

theorem reportEndedUnactivated_pending {g : Grant} (hd : grantNumbersDistinct s) (hg : g ∈ s.grants.grants)
    (hb : g.binding = .pending w) (ha : g.state = .active) : reportEndedUnactivated g.number w s = { s with
      grants := { s.grants with grants := grantsWith s g.number fun y => { y with binding := .none } } } := by
  rw [reportEndedUnactivated, findGrant_of_mem hd hg]
  simp only [if_pos hb, ha, reduceCtorEq, if_false]
  exact updateGrant_distinct hd _ _

/-! ### The answer to an Open (R115, R116) -/

theorem setWindow_same (hv : s.window w = some v) : setWindow w (some v) s = s := by
  have : put s.inspector.windows w (some v) = s.inspector.windows := by
    rw [← hv]
    simp [put, State.window, get_eq_getElem]
  unfold setWindow
  rw [this]

/-- The test of a window that has just become ACTIVE. -/
theorem suspendTest_active (hv : s.window w = some v) (hst : v.state = .active) : ∃ u,
    suspendTest w s = setWindow w (some u) s ∧ u = { v with state := u.state, grace := u.grace } ∧
      ((s.tables.policies.get 4).required &&& ~~~(conditions s) = 0 → u.state = .active ∧ u.grace = v.grace) ∧
      ((s.tables.policies.get 4).required &&& ~~~(conditions s) ≠ 0 → u.state = .suspended ∧ u.grace = some 5000) := by
  have htrue : allTrue s (watched s) = true ↔ (s.tables.policies.get 4).required &&& ~~~(conditions s) = 0 :=
    allTrue_iff s _
  by_cases h : allTrue s (watched s) = true
  · refine ⟨v, ?_, rfl, fun _ => ⟨hst, rfl⟩, fun hn => absurd (htrue.1 h) hn⟩
    rw [suspendTest, hv]
    exact (if_neg fun hc => by simp [h] at hc).trans (setWindow_same hv).symm
  · refine ⟨{ v with state := .suspended, grace := some 5000 }, suspendTest_suspends (by simpa using h) hv hst, rfl,
      fun h0 => absurd (htrue.2 h0) h, fun _ => ⟨rfl, rfl⟩⟩

/-- What an accepted Open leaves, its entry taken by the store. -/
theorem acceptOpen_room {g : Grant} {a l : Nat} (h1 : 1 ≤ v.reservations) (hq : s.store.queue.length < 16)
    (hr : v.range = some (a, l)) (hd : grantNumbersDistinct s) (hg : g ∈ s.grants.grants) (hn : g.number = v.grant)
    (hb : g.binding = .pending w) (bmax : Nat) : ∃ u, acceptOpen w v bmax s = { s with
        inspector := { s.inspector with windows := put s.inspector.windows w (some u) }
        grants := { s.grants with grants := grantsWith s v.grant fun y => { y with binding := .bound w } }
        store := { s.store with queue := s.store.queue ++ [.append (entryNow s (.downloadOpened a l)
          (some v.grant) (some v.slot) (some (v.channel, (s.channel v.channel).label)))] }
        record := { s.record with mark := (s.record.mark + 1) % 4294967296, unrecorded := 0 } } ∧
      u = { v with
        state := u.state, grace := u.grace, reservations := v.reservations - 1
        run := some { bmax := bmax, next := a, remaining := l, expected := 1, last := none, erase := true } } ∧
      ((s.tables.policies.get 4).required &&& ~~~(conditions s) = 0 → u.state = .active ∧ u.grace = v.grace) ∧
      ((s.tables.policies.get 4).required &&& ~~~(conditions s) ≠ 0 → u.state = .suspended ∧ u.grace = some 5000) := by
  obtain ⟨z, hz⟩ : ∃ z, z = ({ v with
      state := .active, reservations := v.reservations - 1
      run := some { bmax := bmax, next := a, remaining := l, expected := 1, last := none, erase := true } } : Window) :=
    ⟨_, rfl⟩
  obtain ⟨q, hqe⟩ : ∃ q, q = ({ s with
      inspector := { s.inspector with windows := put s.inspector.windows w (some z) }
      grants := { s.grants with grants := grantsWith s v.grant fun y => { y with binding := .bound w } }
      store := { s.store with queue := s.store.queue ++ [.append (entryNow s (.downloadOpened a l)
        (some v.grant) (some v.slot) (some (v.channel, (s.channel v.channel).label)))] }
      record := { s.record with mark := (s.record.mark + 1) % 4294967296, unrecorded := 0 } } : State) := ⟨_, rfl⟩
  have he : acceptOpen w v bmax s = suspendTest w q := by
    have hw : appendInto (decide (0 < v.reservations)) (.downloadOpened a l) (some v.grant) (some v.slot)
        (some v.channel) (setWindow w (some z) s) = _ :=
      (congrArg (appendInto · _ _ _ _ _) (decide_eq_true h1)).trans
        (writeEntry_room (s := setWindow w (some z) s) (by exact hq) _ _ _ _)
    unfold acceptOpen
    rw [show v.range.getD (0, 0) = (a, l) by rw [hr]; rfl]
    show suspendTest w (reportActive v.grant w (appendInto (decide (0 < v.reservations)) (.downloadOpened a l)
      (some v.grant) (some v.slot) (some v.channel) (setWindow w _ s))) = _
    rw [← hz, hw, ← hn, hqe, ← hn]
    exact congrArg (suspendTest w) (reportActive_pending (by exact hd) (by exact hg) hb)
  have hv : q.window w = some z := by
    rw [hqe]
    exact setWindow_window_self s w _
  obtain ⟨u, h1, h2, h3, h4⟩ := suspendTest_active hv (by rw [hz])
  refine ⟨u, ?_, ?_, ?_, ?_⟩
  · rw [he, h1, hqe]
    simp only [setWindow, put_put]
  · rw [h2, hz]
  · rw [hqe, hz] at h3
    exact h3
  · rw [hqe] at h4
    exact h4

/-! ### The records once a window has gone -/

theorem linkedExchange_set (hs : exchangeLaw s) (hl : linkedExchange s w = some x) (hid : y.id = x.id)
    (hw : y.window = some w) : linkedExchange (setChannelExchange y s) w = some y := by
  obtain ⟨hm, hxw⟩ := linkedExchange_some hl
  rw [linkedExchange_eq] at hl ⊢
  rw [channelRecords_setChannel hs, List.find?_map]
  have hp : ∀ z ∈ channelRecords s, ((fun z : ChannelExchange => decide (z.window = some w)) ∘
      fun z => if z.id = y.id then y else z) z = decide (z.window = some w) := fun z hz => by
    by_cases e : z.id = y.id
    · have : z = x := List.inj_on_of_nodup_map (channelRecords_distinct hs).2 hz (mem_channelRecords.2 hm) (e.trans hid)
      simp [hid, this, hw, hxw]
    · simp [e]
  rw [List.find?_congr hp, hl]
  exact congrArg some (if_pos hid.symm)

theorem ownedExchange_unlinked (ht : t.exchanges = unlinked w s) (ho : ownedExchange s n = some x)
    (hw : x.window = some w) : ownedExchange t n = some { x with window := none } := by
  rw [ownedExchange_eq] at ho ⊢
  rw [channelRecords_unlinked ht, List.find?_map]
  have hp : ((fun z : ChannelExchange => decide (z.id = n)) ∘ clearLink w) = fun z => decide (z.id = n) := by
    funext z
    simp only [Function.comp, clearLink]
    split <;> rfl
  rw [hp, ho]
  exact congrArg some (if_pos hw)

theorem unlinked_eraseP (w : Fin 2) (n : Nat) (s : State) :
    (unlinked w s).eraseP (isChannel n) = unlinked w (dropChannelExchange n s) := by
  unfold unlinked unlink
  rw [List.eraseP_map]
  refine congrArg (List.map _) (congrArg (List.eraseP · s.exchanges) ?_)
  funext e
  cases e with
  | channel z => by_cases hz : z.window = some w <;> simp [isChannel, hz]
  | management z => rfl

/-- The list once the exchange of a window that has ended has closed. -/
theorem closed_unlinked (hs : exchangeLaw s) (hx : channelExchange s c = some x) (w : Fin 2)
    (ht : t.exchanges = (unlinked w (setChannelExchange (stopTimer x) s)).eraseP (isChannel x.id)) :
    channelExchange t c = none ∧ t.exchanges.length + 1 = s.exchanges.length := by
  have hd : dropChannelExchange x.id (setChannelExchange (stopTimer x) s) = dropChannelExchange x.id s :=
    dropChannelExchange_set (stopTimer x) s
  rw [unlinked_eraseP, hd] at ht
  refine ⟨?_, by rw [ht]; exact dropped_length hx s rfl w⟩
  have := channelExchange_unlink (channelExchange_dropped hs hx) w
  unfold channelExchange at this ⊢
  rw [ht]
  exact this

/-- The list once the exchange of a window that goes on has closed. -/
theorem closed_dropped (hs : exchangeLaw s) (hx : channelExchange s c = some x)
    (ht : t.exchanges = s.exchanges.eraseP (isChannel x.id)) :
    channelExchange t c = none ∧ t.exchanges.length + 1 = s.exchanges.length := by
  have hm := (channelExchange_some hx).1
  refine ⟨?_, ?_⟩
  · have := channelExchange_dropped hs hx
    unfold channelExchange at this ⊢
    rw [ht]
    exact this
  · rw [ht, List.length_eraseP_of_mem hm (isChannel_self x)]
    have := List.length_pos_of_mem hm
    omega

/-! ### The end of a window that has not been ACTIVE (R116) -/

theorem endPendingSilent_pending {g : Grant} (hd : grantNumbersDistinct s) (hg : g ∈ s.grants.grants)
    (hn : g.number = v.grant) (hb : g.binding = .pending w) (ha : g.state = .active) :
    ∃ lamp, endPendingSilent w v true s = { s with
      tables := { s.tables with maps := resolvedMaps s v.channel }
      inspector := { s.inspector with
        overlays := resolvedOverlays s v.channel, windows := put s.inspector.windows w none }
      exchanges := unlinked w s
      grants := { s.grants with
        lamp := lamp, grants := grantsWith s v.grant fun y => { y with binding := .none } } } := by
  refine ⟨(removeWindow w v s).grants.lamp, ?_⟩
  rw [endPendingSilent, if_pos rfl, removeWindow_shape, ← hn]
  exact reportEndedUnactivated_pending (by exact hd) (by exact hg) hb ha

theorem endPending_entered {g : Grant} {a l : Nat} (h1 : 1 ≤ v.reservations) (hq : s.store.queue.length < 16)
    (hrun : v.run = none) (hr : v.range = some (a, l)) (hd : grantNumbersDistinct s) (hg : g ∈ s.grants.grants)
    (hn : g.number = v.grant) (hb : g.binding = .pending w) (ha : g.state = .active) (o : Outcome) (e : EndCause) :
    ∃ lamp, endPending w v o e true s = { s with
      tables := { s.tables with maps := resolvedMaps s v.channel }
      inspector := { s.inspector with
        overlays := resolvedOverlays s v.channel, windows := put s.inspector.windows w none }
      exchanges := unlinked w s
      grants := { s.grants with
        lamp := lamp, grants := grantsWith s v.grant fun y => { y with binding := .none } }
      store := { s.store with queue := s.store.queue ++ [.append (entryNow s (.downloadEnded a l l o e)
        (some v.grant) (some v.slot) (some (v.channel, (s.channel v.channel).label)))] }
      record := { s.record with mark := (s.record.mark + 1) % 4294967296, unrecorded := 0 }
      agent := { s.agent with attention := { s.agent.attention with downloadEnded := true } } } := by
  obtain ⟨lamp, h⟩ := removeWindow_entered (w := w) h1 hq hr o e
  refine ⟨lamp, ?_⟩
  have hrem : endRemaining v = l := by rw [endRemaining, hrun, hr]
  rw [hrem] at h
  rw [endPending, hr]
  show endPendingSilent w v true (appendEnded w v o e s) = _
  rw [endPendingSilent, if_pos rfl, h, ← hn]
  exact reportEndedUnactivated_pending (by exact hd) (by exact hg) hb ha

/-! ### The Inspector's part, by the window's state -/

theorem inspectReply_opened (hw : x.window = some w) (hv : s.window w = some v) (hst : v.state = .openPending)
    (hl : 3 ≤ msg.length) : inspectReply x .positive msg data s =
      (acceptOpen w v (bmaxOf (fieldAt msg 1 2)) s, some (rewriteBmax (bmaxOf (fieldAt msg 1 2)) data)) := by
  unfold inspectReply
  simp only [hw, hv, hst, if_true, if_neg (Nat.not_lt.2 hl)]

theorem inspectReply_short (hw : x.window = some w) (hv : s.window w = some v) (hst : v.state = .openPending)
    (hl : msg.length < 3) : inspectReply x .positive msg data s =
      (endPending w v .failed .broken true (closeLinked w .broken s), none) := by
  unfold inspectReply
  simp only [hw, hv, hst, if_true, if_pos hl]

theorem inspectReply_denied {form : ReplyForm} (hw : x.window = some w) (hv : s.window w = some v)
    (hst : v.state = .openPending) (hf : form ≠ .positive) : inspectReply x form msg data s =
      (endPendingSilent w v true s, some data) := by
  unfold inspectReply
  simp only [hw, hv, hst, if_neg hf]

/-- How the answer to a Close ends the window. -/
def closeOutcome (form : ReplyForm) : Outcome × EndCause :=
  if form = .positive then (.complete, .none) else (.failed, .closeRefused)

theorem inspectReply_closing {form : ReplyForm} (hw : x.window = some w) (hv : s.window w = some v)
    (hst : v.state = .closing) : inspectReply x form msg data s =
      (endActive w v (closeOutcome form).1 (closeOutcome form).2 true s, some data) := by
  unfold inspectReply closeOutcome
  simp only [hw, hv, hst]
  split <;> rfl

/-- Bmax and the reply that carries it (R115 step 1). -/
theorem bmaxOf_eq (b hi lo : Byte) (more : List Byte) :
    bmaxOf (fieldAt (b :: hi :: lo :: more) 1 2) = max 1 (min 446 (hi.toNat * 256 + lo.toNat)) := by
  have : fieldAt (b :: hi :: lo :: more) 1 2 = hi.toNat * 256 + lo.toNat := by
    simp [fieldAt, beNat]
  rw [this, bmaxOf]
  split <;> omega

/-! ### The answers to an Open and a Close, taken -/

/-- What the statements ask of an exchange whose final reply has come, with the window it is linked to. -/
structure LinkedReply (s : State) (c : Fin 16) (x : ChannelExchange) (w : Fin 2) (v : Window) (g : Grant) (a l : Nat) :
    Prop where
  law      : exchangeLaw s
  replies  : hasRoom s .W
  pending  : channelExchange s c = some x
  linked   : linkedExchange s w = some x
  link     : x.window = some w
  window   : s.window w = some v
  channel  : v.channel = c
  range    : v.range = some (a, l)
  reserved : 1 ≤ v.reservations
  place    : s.store.queue.length < 16
  distinct : grantNumbersDistinct s
  grant    : g ∈ s.grants.grants
  number   : g.number = v.grant
  active   : g.state = .active

variable {g : Grant} {a l : Nat}

theorem LinkedReply.stopped (h : LinkedReply s c x w v g a l) :
    ownedExchange (setChannelExchange (stopTimer x) s) x.id = some (stopTimer x) ∧
      linkedExchange (setChannelExchange (stopTimer x) s) w = some (stopTimer x) :=
  ⟨setChannelExchange_owned (y := stopTimer x) h.law h.pending rfl,
    linkedExchange_set (y := stopTimer x) h.law h.linked rfl h.link⟩

theorem openAccepted_taken (h : LinkedReply s c x w v g a l) (hst : v.state = .openPending)
    (hb : g.binding = .pending w) (hrole : x.role = some .opening) (hf : replyForm x.code msg = .positive)
    (hl : 3 ≤ msg.length) (bmax : Nat) (hmax : bmaxOf (fieldAt msg 1 2) = bmax) :
    ∃ t u, takeReply x (.unit msg) msg data s = t ∧ t.exchanges = s.exchanges.eraseP (isChannel x.id) ∧
      t.ports = (withReply s (toTool s x (rewriteBmax bmax data) false .plain)).ports ∧ t.window w = some u ∧
      u = { unlinkedWindow v with
        state := u.state, grace := u.grace, reservations := v.reservations - 1
        run := some { bmax := bmax, next := a, remaining := l, expected := 1, last := none, erase := true } } ∧
      ((s.tables.policies.get 4).required &&& ~~~(conditions s) = 0 → u.state = .active ∧ u.grace = v.grace) ∧
      ((s.tables.policies.get 4).required &&& ~~~(conditions s) ≠ 0 → u.state = .suspended ∧ u.grace = some 5000) ∧
      t.store.queue = s.store.queue ++ [.append (entryNow s (.downloadOpened a l) (some v.grant) (some v.slot)
        (some (c, (s.channel c).label)))] ∧
      t.grants.grants = grantsWith s g.number fun y => { y with binding := .bound w } := by
  obtain ⟨ho, -⟩ := h.stopped
  obtain ⟨u, e, hu, h0, h1⟩ := acceptOpen_room (s := setChannelExchange (stopTimer x) s) h.reserved h.place h.range
    h.distinct h.grant h.number hb bmax
  have hi := inspectReply_opened (data := data) (x := stopTimer x) (s := setChannelExchange (stopTimer x) s) h.link
    h.window hst hl
  rw [hmax] at hi
  obtain ⟨z, hz⟩ : ∃ z, z = acceptOpen w v bmax (setChannelExchange (stopTimer x) s) := ⟨_, rfl⟩
  rw [← hz] at hi e
  have hpass := takeReply_passed (y := stopTimer x) hf nofun hi (by rw [e]; exact ho) (by rw [e]; exact h.replies)
  have hwin : z.window w = some u := by
    rw [e]
    exact put_get_self _ _ _
  have hact : u.state = .active ∨ u.state = .suspended := by
    by_cases hc : (s.tables.policies.get 4).required &&& ~~~(conditions s) = 0
    · exact .inl (h0 hc).1
    · exact .inr (h1 hc).1
  have hleave := answered_leaves (x := stopTimer x)
    (s := withReply z (toTool z (stopTimer x) (rewriteBmax bmax data) false .plain)) h.link hwin hact (by
      show x.role ≠ _
      rw [hrole]
      decide)
  refine ⟨_, unlinkedWindow u, hpass.trans hleave, ?_, ?_, setWindow_window_self _ w _, ?_, h0, h1, ?_, ?_⟩
  · rw [e]
    exact eraseP_modifyFirst (isChannel_self (stopTimer x)) s.exchanges
  · rw [e]
    rfl
  · rw [hu]
  · rw [e, ← h.channel]
    rfl
  · rw [e, h.number]
    rfl

/-- A positive answer that carries no maximum block length is withheld. -/
theorem openShort_taken (h : LinkedReply s c x w v g a l) (hst : v.state = .openPending) (hrun : v.run = none)
    (hb : g.binding = .pending w) (hf : replyForm x.code msg = .positive) (hl : msg.length < 3) (first : Ssx) :
    ∃ t, takeReply x first msg data s = t ∧
      t.exchanges = (unlinked w (setChannelExchange (stopTimer x) s)).eraseP (isChannel x.id) ∧
      t.ports = (withReply s (replyFrame s c x.code 0xE6)).ports ∧ t.window w = none ∧
      t.agent.attention.downloadEnded = true ∧
      t.store.queue = s.store.queue ++ [.append (entryNow s (.downloadEnded a l l .failed .broken) (some v.grant)
        (some v.slot) (some (c, (s.channel c).label)))] ∧
      t.grants.grants = grantsWith s g.number fun y => { y with binding := .none } := by
  obtain ⟨-, hk⟩ := h.stopped
  obtain rfl : x.channel = c := (channelExchange_some h.pending).2
  have hi := inspectReply_short (data := data) (x := stopTimer x) (s := setChannelExchange (stopTimer x) s) h.link
    h.window hst hl
  rw [closeLinked_room (s := setChannelExchange (stopTimer x) s) hk h.replies .broken] at hi
  obtain ⟨lamp, e⟩ := endPending_entered (w := w) (s := withReply (dropChannelExchange x.id
    (setChannelExchange (stopTimer x) s)) (replyFrame s x.channel x.code 0xE6)) h.reserved h.place hrun h.range h.distinct
    h.grant h.number hb h.active .failed .broken
  refine ⟨_, takeReply_withheld hf nofun (hi.trans (congrArg (·, none) e)) first, ?_, rfl, put_get_self _ _ _, rfl, ?_, ?_⟩
  · rw [unlinked_eraseP]
    rfl
  · rw [← h.channel]
    rfl
  · rw [h.number]
    rfl

/-- Any other answer to an Open is passed on, and its window ends. -/
theorem openDenied_taken {form : ReplyForm} (h : LinkedReply s c x w v g a l) (hst : v.state = .openPending)
    (hb : g.binding = .pending w) (hf : replyForm x.code msg = form) (hp : form ≠ .positive) (hn : form ≠ .stillWorking) :
    ∃ t, takeReply x (.unit msg) msg data s = t ∧
      t.exchanges = (unlinked w (setChannelExchange (stopTimer x) s)).eraseP (isChannel x.id) ∧
      t.ports = (withReply s (toTool s x data false .plain)).ports ∧ t.window w = none ∧ t.store = s.store ∧
      t.grants.grants = grantsWith s g.number fun y => { y with binding := .none } := by
  obtain ⟨ho, -⟩ := h.stopped
  have hi := inspectReply_denied (msg := msg) (data := data) (x := stopTimer x)
    (s := setChannelExchange (stopTimer x) s) h.link h.window hst hp
  obtain ⟨lamp, e⟩ := endPendingSilent_pending (v := v) (s := setChannelExchange (stopTimer x) s) h.distinct h.grant
    h.number hb h.active
  rw [e] at hi
  have hpass := takeReply_passed hf hn hi (ownedExchange_unlinked rfl ho h.link) h.replies
  refine ⟨_, hpass.trans (closeExchange_answered rfl _), rfl, rfl, put_get_self _ _ _, rfl, ?_⟩
  rw [h.number]
  rfl

/-- The answer to a Close is passed on, and its window ends. -/
theorem closeAnswered_taken {form : ReplyForm} {r : WindowRun} (h : LinkedReply s c x w v g a l) (hst : v.state = .closing)
    (hrun : v.run = some r) (hb : g.binding = .bound w) (hc : g.classes &&& ~~~bitReprogram ≠ 0)
    (hf : replyForm x.code msg = form) (hn : form ≠ .stillWorking) :
    ∃ t, takeReply x (.unit msg) msg data s = t ∧
      t.exchanges = (unlinked w (setChannelExchange (stopTimer x) s)).eraseP (isChannel x.id) ∧
      t.ports = (withReply s (toTool s x data false .plain)).ports ∧ t.window w = none ∧
      t.agent.attention.downloadEnded = true ∧
      t.store.queue = s.store.queue ++ [.append (entryNow s
        (.downloadEnded a l r.remaining (closeOutcome form).1 (closeOutcome form).2) (some v.grant)
        (some v.slot) (some (c, (s.channel c).label)))] ∧
      t.grants.grants = consumed s g.number := by
  obtain ⟨ho, -⟩ := h.stopped
  have hi := inspectReply_closing (form := form) (msg := msg) (data := data) (x := stopTimer x)
    (s := setChannelExchange (stopTimer x) s) h.link h.window hst
  obtain ⟨lamp, e⟩ := endActive_keeps (w := w) (s := setChannelExchange (stopTimer x) s) h.reserved h.place hrun h.range
    h.distinct h.grant h.number hb h.active hc (closeOutcome form).1 (closeOutcome form).2
  rw [e] at hi
  have hpass := takeReply_passed hf hn hi (ownedExchange_unlinked rfl ho h.link) h.replies
  refine ⟨_, hpass.trans (closeExchange_answered rfl _), rfl, rfl, put_get_self _ _ _, rfl, ?_, ?_⟩
  · rw [← h.channel]
    rfl
  · rw [h.number]
    rfl

theorem queued_reply {o : OutFrame} (h : t.ports = (withReply s o).ports) : queued t .W = queued s .W ++ [o.frame] := by
  unfold queued State.port
  rw [h]
  exact List.map_append ..

/-- Settles O42. -/
theorem positiveBlockReplyAdvancesTheWindow : Obligations.PositiveBlockReplyAdvancesTheWindow := by
  unfold Obligations.PositiveBlockReplyAdvancesTheWindow
  refine ⟨fun c f rest more x w v r b s hs h hr hx hst hrole hw hv hva hrun hb hle hcode hd hm => ?_,
    fun c f rest msg x w v a l g s hs h hr hx hst hw hl hv hch hrange hres hq hcode hd hm hm7 hwork hdist hg hn hact p
      closed positive hp hpos hclosed wrote hwrote => ?_⟩
  · have hgo := controller_unit h hx hst hd (by simp)
    obtain ⟨P, hP, hroom, hqueue⟩ := controller_split s c rest
    rw [hP] at hgo
    have hf : replyForm x.code ((x.code + 0x80) :: more) = .positive := (replyForm_positive hcode _).2 rfl
    have htake := positiveBlock_taken (s := { s with ports := P }) (data := f.data) hs hx (hroom hr) hw hv hva hrole hrun hb
      hf
    obtain ⟨h1, h2, h3⟩ := advance_cases b r hle
    refine ⟨_, advance b r, hgo.trans (congrArg _ htake), rfl, ?_, ?_, h1, h2, h3, rfl⟩
    · refine (queued_reply (s := { s with ports := P }) rfl).trans ?_
      rw [hqueue, toTool_frame (t := { s with ports := P }) h (channelExchange_some hx).2 rfl]
    · exact put_get_self _ _ _
  · subst hp
    have hgo := controller_unit h hx hst hd hm
    obtain ⟨P, hP, hroom, hqueue⟩ := controller_split s c rest
    rw [hP] at hgo
    have hc := (channelExchange_some hx).2
    have hlink : LinkedReply { s with ports := P } c x w v g a l :=
      ⟨hs, hroom hr, hx, hl, hw, hv, hch, hrange, hres, hq, hdist, hg, hn, hact⟩
    have hnot : replyForm x.code msg ≠ .stillWorking := fun e => hwork ((stillWorking_iff hcode msg).1 e)
    have hform : replyForm x.code msg = .positive ↔ positive := (replyForm_positive hcode msg).trans hpos.symm
    have hpassed : ∀ t d, t.ports = (withReply { s with ports := P } (toTool { s with ports := P } x d false .plain)).ports →
        queued t .W = queued s .W ++ [{ f with data := d }] := fun t d e => by
      rw [queued_reply e, hqueue, toTool_frame (t := { s with ports := P }) h hc rfl]
    refine ⟨fun hrole hvs hvrun hbind => ⟨?_, fun hyes hlen => ?_, fun hno => ?_⟩, fun r hrole hvs hvrun hbind hcls => ?_⟩
    · rintro hi lo more bmax rfl hmax
      obtain ⟨t, u, e, hex, hports, hwin, hu, h0, h1, hst', hgr⟩ := openAccepted_taken (data := f.data) hlink hvs hbind
        hrole ((replyForm_positive hcode ((x.code + 0x80) :: hi :: lo :: more)).2 rfl) (Nat.le_add_left 3 more.length) bmax
        ((bmaxOf_eq _ hi lo more).trans hmax.symm)
      obtain ⟨c1, c2⟩ := closed_dropped hs hx hex
      refine ⟨t, u, (hclosed t).2 ⟨hgo.trans (congrArg _ e), c1, c2⟩, ?_, hwin, hu, h0, h1, (hwrote _ _).2 hst', hgr⟩
      rw [hpassed t _ hports, hd]
      rfl
    · obtain ⟨t, e, hex, hports, hwin, hatt, hst', hgr⟩ := openShort_taken (data := f.data) hlink hvs hvrun hbind
        (hform.2 hyes) (by omega) (.unit msg)
      obtain ⟨c1, c2⟩ := closed_unlinked hs hx w hex
      refine ⟨t, (hclosed t).2 ⟨hgo.trans (congrArg _ e), c1, c2⟩, ?_, hwin, hatt, (hwrote _ _).2 hst', hgr⟩
      rw [queued_reply hports, hqueue]
      rfl
    · obtain ⟨t, e, hex, hports, hwin, hst', hgr⟩ := openDenied_taken (data := f.data) hlink hvs hbind rfl
        (fun e => hno (hform.1 e)) hnot
      obtain ⟨c1, c2⟩ := closed_unlinked hs hx w hex
      exact ⟨t, (hclosed t).2 ⟨hgo.trans (congrArg _ e), c1, c2⟩, hpassed t _ hports, hwin, hst', hgr⟩
    · obtain ⟨t, e, hex, hports, hwin, hatt, hst', hgr⟩ := closeAnswered_taken (data := f.data) hlink hvs hvrun hbind hcls
        rfl hnot
      obtain ⟨c1, c2⟩ := closed_unlinked hs hx w hex
      refine ⟨t, (hclosed t).2 ⟨hgo.trans (congrArg _ e), c1, c2⟩, hpassed t _ hports, hwin, hatt, fun hyes => ?_,
        fun hno => ?_, hgr⟩
      · rw [closeOutcome, if_pos (hform.2 hyes)] at hst'
        exact (hwrote _ _).2 hst'
      · rw [closeOutcome, if_neg fun e => hno (hform.1 e)] at hst'
        exact (hwrote _ _).2 hst'

end Sys2Proof.Machine
end

section
/-! The judgement of a complete block, and what its outcomes leave (R119 to R121). -/

namespace Sys2Proof.Machine

open Sys2Proof Sys2Proof.Safety

variable {s z t : State} {c : Fin 16} {f : Frame} {rest : List Frame} {msg data : List Byte} {x y : ChannelExchange}
  {w i : Fin 2} {v u : Window} {r : WindowRun} {b : HandBlock} {code k : Byte} {bytes : List Byte}

/-! ### Windows and barred ranges -/

theorem windowOn_some (h : windowOn s c = some (w, v)) : s.window w = some v ∧ v.channel = c := by
  unfold windowOn at h
  split at h
  · next a ha =>
    split at h
    · next e =>
      obtain ⟨rfl, rfl⟩ := Prod.mk.inj (Option.some.inj h)
      exact ⟨ha, e⟩
    · split at h
      · next b hb =>
        split at h
        · next e =>
          obtain ⟨rfl, rfl⟩ := Prod.mk.inj (Option.some.inj h)
          exact ⟨hb, e⟩
        · cases h
      · cases h
  · split at h
    · next b hb =>
      split at h
      · next e =>
        obtain ⟨rfl, rfl⟩ := Prod.mk.inj (Option.some.inj h)
        exact ⟨hb, e⟩
      · cases h
    · cases h

/-- Whether a range meets one of a set's ranges (R109). -/
def meets (l : List (Nat × Nat)) (a b : Nat) : Prop := ∃ z ∈ l, a < z.2 ∧ z.1 < b

theorem hitsBars_iff {l : List (Nat × Nat)} {a b : Nat} : hitsBars l a b = true ↔ meets l a b := by
  simp [hitsBars, meets]

theorem meets_not {l : List (Nat × Nat)} {a b : Nat} : ¬meets l a b ↔ ∀ z ∈ l, ¬(a < z.2 ∧ z.1 < b) := by
  simp [meets]

/-! ### Entries of events on a channel (R143, R144, R146) -/

theorem appendEntry_on (d : Detail) (g : Option Nat) (j : Option (Fin 8)) (c : Fin 16) (s : State) :
    noted s d g j (some (c, (s.channel c).label)) (appendEntry d g j (some c) s) := by
  refine ⟨fun ⟨h1, h2⟩ => ?_, fun h => ?_⟩
  · rw [appendEntry_room h1, writeEntry_room h2]
    rfl
  · by_cases h1 : occupied s < 128
    · rw [appendEntry_room h1, writeEntry_full (by omega)]
      rfl
    · rw [appendEntry_full (by omega)]
      rfl

/-- The entry of an event depends on the record, its room, the store queue and the tables alone. -/
theorem appendEntry_on_same (hr : z.record = s.record) (hq : z.store = s.store) (ht : z.tables = s.tables)
    (ho : occupied z = occupied s) (d : Detail) (g : Option Nat) (j : Option (Fin 8)) (c : Fin 16) :
    appendEntry d g j (some c) z = { z with
      store := (appendEntry d g j (some c) s).store, record := (appendEntry d g j (some c) s).record } := by
  obtain ⟨h1, h2⟩ := appendEntry_on d g j c s
  obtain ⟨h3, h4⟩ := appendEntry_on d g j c z
  by_cases hroom : occupied s < 128 ∧ s.store.queue.length < 16
  · rw [h1 hroom, h3 (by rw [ho, hq]; exact hroom)]
    unfold entryNow State.channel
    rw [hr, hq, ht]
  · rw [h2 hroom, h4 (by rw [ho, hq]; exact hroom), hr, ← hq]

/-! ### A block that is ready to be judged -/

/-- A state at the judgement of a complete message `code, k, bytes` of exchange `x` on window `w`, which is `u`: beside the
frame's own state only frames, exchanges and windows have moved. -/
structure AtJudge (s z : State) (c : Fin 16) (x : ChannelExchange) (w : Fin 2) (u : Window) (i : Fin 2) (code k : Byte)
    (bytes : List Byte) : Prop where
  beside   : z = { s with part := z.part, ports := z.ports, exchanges := z.exchanges, inspector := z.inspector }
  overlays : z.inspector.overlays = s.inspector.overlays
  room     : occupied z = occupied s
  target   : queued z (netPort (s.channel c).port) = queued s (netPort (s.channel c).port)
  replies  : queued z .W = queued s .W
  roomT    : hasRoom z (netPort (s.channel c).port)
  roomW    : hasRoom z .W
  law      : exchangeLaw z
  pending  : channelExchange z c = some x
  linked   : linkedExchange z w = some x
  link     : x.window = some w
  role     : x.role = some .block
  serves   : x.code = code
  window   : z.window w = some u
  place    : u.channel = c
  buffer   : u.buffer = some i
  staged   : z.inspector.buffers.get i = code :: k :: bytes

section
variable (h : AtJudge s z c x w u i code k bytes)
include h

theorem AtJudge.tables : z.tables = s.tables := by rw [h.beside]
theorem AtJudge.store : z.store = s.store := by rw [h.beside]
theorem AtJudge.record : z.record = s.record := by rw [h.beside]
theorem AtJudge.agent : z.agent = s.agent := by rw [h.beside]
theorem AtJudge.grants : z.grants = s.grants := by rw [h.beside]

theorem AtJudge.entry (e : Fin 16) : z.channel e = s.channel e := by
  unfold State.channel
  rw [h.tables]

theorem AtJudge.owner : x.channel = c := (channelExchange_some h.pending).2

theorem AtJudge.bars : channelWriteBars z u.channel = channelWriteBars s c := by
  rw [h.place]
  unfold channelWriteBars
  rw [h.tables, h.overlays]

theorem AtJudge.reply (n : Nat) : replyFrame z x.channel x.code n = replyFrame s c code n := by
  rw [h.owner, h.serves, replyFrame, h.entry]

theorem AtJudge.message : stagedBytes z u = code :: k :: bytes := by
  rw [stagedBytes, h.buffer]
  exact h.staged

/-! ### The judgement (R119) -/

theorem judgeBlock_passes (hrun : u.run = some r) (hb : blockPasses r k.toNat bytes.length b) :
    judgeBlock x z = takeBlock w x u b z := by
  have hk : fieldAt (code :: k :: bytes) 1 1 = k.toNat := by rw [fieldAt_cons, fieldAt_byte]
  have hn : (code :: k :: bytes).length - 2 = bytes.length := rfl
  have hlen : ∀ n, 1 ≤ n → bytes.length = n → ¬(code :: k :: bytes).length < 3 := fun n h1 e => by
    simp only [List.length_cons]
    omega
  unfold judgeBlock
  simp only [h.link, h.window, hrun, h.message, hk, hn]
  obtain ⟨he, h1, h2, h3, rfl⟩ | ⟨hne, h1, d, hd, hdk, hdn, rfl⟩ := hb
  · rw [if_neg (hlen _ h1 rfl), if_pos he, if_pos (by omega)]
  · rw [if_neg (hlen _ h1 rfl), if_neg hne]
    simp only [hd]
    exact if_pos ⟨hdk, hdn⟩

theorem judgeBlock_outOfWindow (hrun : u.run = some r)
    (hb : bytes = [] ∨ k.toNat = r.expected ∧ (r.bmax < bytes.length ∨ r.remaining < bytes.length)) :
    judgeBlock x z = closeDownload x .outOfWindow (refuseTransfer u r.next bytes.length .outOfWindow z) := by
  have hk : fieldAt (code :: k :: bytes) 1 1 = k.toNat := by rw [fieldAt_cons, fieldAt_byte]
  have hn : (code :: k :: bytes).length - 2 = bytes.length := rfl
  unfold judgeBlock
  simp only [h.link, h.window, hrun, h.message, hk, hn]
  by_cases he : bytes = []
  · subst he
    exact if_pos (by simp)
  · obtain hb | ⟨h1, h2⟩ := hb
    · exact absurd hb he
    · have := List.length_pos_iff.2 he
      rw [if_neg (by simp only [List.length_cons]; omega), if_pos h1, if_neg (by omega)]
      rfl

theorem judgeBlock_sequence (hrun : u.run = some r) (he : bytes ≠ []) (hk : k.toNat ≠ r.expected)
    (hd : ∀ d, r.last = some d → ¬(k.toNat = d.counter ∧ bytes.length = d.count)) :
    judgeBlock x z = closeDownload x .sequence z := by
  have hk' : fieldAt (code :: k :: bytes) 1 1 = k.toNat := by rw [fieldAt_cons, fieldAt_byte]
  have hn : (code :: k :: bytes).length - 2 = bytes.length := rfl
  have := List.length_pos_iff.2 he
  unfold judgeBlock
  simp only [h.link, h.window, hrun, h.message, hk', hn]
  rw [if_neg (by simp only [List.length_cons]; omega), if_neg hk]
  cases hl : r.last with
  | none => rfl
  | some d => exact if_neg (hd d hl)

end

/-! ### The outcomes: held, sent, refused -/

theorem takeBlock_held (hst : u.state = .suspended) : takeBlock w x u b z =
    setChannelExchange { x with state := .stagedHold } (setWindow w (some { u with inHand := some b, hold := some 2000 }) z) := by
  unfold takeBlock
  simp only [hst]
  rfl

theorem takeBlock_active (hst : u.state = .active) : takeBlock w x u b z =
    checkBlock w x { u with inHand := some b } (setWindow w (some { u with inHand := some b }) z) := by
  have : (u.state == .suspended) = false := by rw [hst]; decide
  unfold takeBlock
  simp only [this]
  rfl

theorem checkBlock_clear (hb : u.inHand = some b)
    (hm : ¬meets (channelWriteBars z u.channel) b.start (b.start + b.count)) : checkBlock w x u z = sendBlock x u z := by
  unfold checkBlock
  rw [hb]
  exact if_neg fun e => hm (hitsBars_iff.1 e)

theorem checkBlock_barred (hb : u.inHand = some b)
    (hm : meets (channelWriteBars z u.channel) b.start (b.start + b.count)) : checkBlock w x u z =
      abortWindow w .regionBarred .regionBarred true (refuseTransfer u b.start b.count .regionBarred z) := by
  unfold checkBlock
  rw [hb]
  exact if_pos (hitsBars_iff.2 hm)

theorem firstFrame_data (msg : List Byte) (stamp : Nat) : (firstFrame msg stamp).1 = firstData msg := by
  unfold firstFrame firstData leadData followCount unitData
  split <;> rfl

/-- What the sending of a block's first frame leaves (R121). -/
theorem sendBlock_room (hs : exchangeLaw z) (hx : channelExchange z c = some x)
    (hr : hasRoom z (netPort (z.channel c).port)) (u : Window) : ∃ t seg, sendBlock x u z = t ∧
      t.exchanges = modifyFirst (isChannel x.id)
        (fun _ => .channel { x with state := .outbound, seg := seg, gapTimer := none }) z.exchanges ∧
      channelExchange t c = some { x with state := .outbound, seg := seg, gapTimer := none } ∧
      queued t (netPort (z.channel c).port) = queued z (netPort (z.channel c).port) ++
        [frameOf (z.channel c).ids.request (firstData (stagedBytes z u))] ∧
      queued t .W = queued z .W ∧
      t = { z with part := t.part, ports := t.ports, meter := t.meter, exchanges := t.exchanges } := by
  obtain rfl : x.channel = c := (channelExchange_some hx).2
  have he : sendBlock x u z = nextStamp (setChannelExchange
      { x with state := .outbound, seg := firstSeg x.seg (stagedBytes z u) z.part.stamp, gapTimer := none }
      (offerState (netPort (z.channel x.channel).port) (toController z x (firstFrame (stagedBytes z u) z.part.stamp).1 false
        (firstFrame (stagedBytes z u) z.part.stamp).2) z)) := by
    unfold sendBlock
    exact offerThen_room hr _ _
  refine ⟨_, firstSeg x.seg (stagedBytes z u) z.part.stamp, he, ?_, ?_, ?_, ?_, ?_⟩
  · show modifyFirst _ _ (offerState _ _ z).exchanges = _
    rw [offerState_touches]
  · have hz := offerState_touches (netPort (z.channel x.channel).port) (toController z x
      (firstFrame (stagedBytes z u) z.part.stamp).1 false (firstFrame (stagedBytes z u) z.part.stamp).2) z
    generalize offerState _ _ z = q at hz ⊢
    have hq : exchangeLaw q := by rw [hz]; exact hs
    have hqx : channelExchange q x.channel = some x := by rw [hz]; exact hx
    exact (setChannelExchange_found (y := { x with
      state := .outbound, seg := firstSeg x.seg (stagedBytes z u) z.part.stamp, gapTimer := none }) hq hqx rfl rfl _).trans
      (if_pos rfl)
  · refine (offerState_queued hr _).trans ?_
    rw [firstFrame_data]
    rfl
  · show ((offerState _ _ z).port .W).out.map _ = _
    rw [offerState_other (netPort_ne_W (z.channel x.channel).port)]
  · have hz := offerState_touches (netPort (z.channel x.channel).port) (toController z x
      (firstFrame (stagedBytes z u) z.part.stamp).1 false (firstFrame (stagedBytes z u) z.part.stamp).2) z
    generalize offerState _ _ z = q at hz ⊢
    rw [hz]
    rfl

end Sys2Proof.Machine
end

section
/-! What the outcomes of a block's judgement leave: held, sent, refused, or the end of its window (R117 to R121). -/

namespace Sys2Proof.Machine

open Sys2Proof Sys2Proof.Safety

variable {s z t : State} {c : Fin 16} {f : Frame} {rest : List Frame} {msg data : List Byte} {x y : ChannelExchange}
  {w i : Fin 2} {v u : Window} {r : WindowRun} {b : HandBlock} {code k : Byte} {bytes : List Byte} {g : Nat}

/-! ### A window that is changed in place -/

theorem occupied_setWindow_same (hv : s.window w = some v) (hr : u.reservations = v.reservations) :
    occupied (setWindow w (some u) s) = occupied s := by
  have := occupied_setWindow w (some u) s
  rw [hv] at this
  simp only [windowReservations, hr] at this
  omega

/-! ### The end of a window that has been ACTIVE, whatever the store and the grant allow -/

theorem appendInto_agent (h : Bool) (d : Detail) (g : Option Nat) (j : Option (Fin 8)) (c : Option (Fin 16)) (s : State) :
    (appendInto h d g j c s).agent = s.agent := by
  obtain ⟨q, m, n, e, _⟩ := appendInto_shape h d g j c s
  rw [e]

theorem grantClose_agent (g : Grant) (cause : CloseCause) (s : State) : (grantClose g cause s).agent = s.agent := by
  obtain ⟨q, m, n, l, e, _⟩ := grantClose_shape g cause s
  rw [e]

theorem reportEndedActive_agent (g : Nat) (w : Fin 2) (s : State) : (reportEndedActive g w s).agent = s.agent := by
  unfold reportEndedActive
  split
  · split
    · dsimp only
      split
      · exact grantClose_agent _ _ _
      · split
        · exact grantClose_agent _ _ _
        · rfl
    · rfl
  · rfl

theorem removeWindow_agent (w : Fin 2) (v : Window) (s : State) : (removeWindow w v s).agent = s.agent := by
  rw [removeWindow_shape]

theorem removeWindow_store (w : Fin 2) (v : Window) (s : State) : (removeWindow w v s).store = s.store := by
  rw [removeWindow_shape]

/-- The end of a window that has been ACTIVE raises its attention condition (R117). -/
theorem endActive_attention (w : Fin 2) (v : Window) (o : Outcome) (e : EndCause) (tell : Bool) (s : State) :
    (endActive w v o e tell s).agent.attention.downloadEnded = true := by
  have h : (removeWindow w v (appendEnded w v o e s)).agent.attention.downloadEnded = true := by
    rw [removeWindow_agent, appendEnded_eq]
    rfl
  unfold endActive
  dsimp only
  split
  · rw [reportEndedActive_agent]
    exact h
  · exact h

/-- Its entry goes into one of its reservations, before any entry of its grant. -/
theorem endActive_enters {a l : Nat} (h1 : 1 ≤ v.reservations) (hq : s.store.queue.length < 16) (hrun : v.run = some r)
    (hr : v.range = some (a, l)) (o : Outcome) (e : EndCause) (tell : Bool) :
    ∃ n q, (endActive w v o e tell s).store.queue = s.store.queue ++ StoreRequest.append n :: q ∧
      n.detail = .downloadEnded a l r.remaining o e := by
  have hrem : endRemaining v = r.remaining := by rw [endRemaining, hrun]
  have h : (removeWindow w v (appendEnded w v o e s)).store.queue = s.store.queue ++ [.append (entryNow s
      (.downloadEnded a l (endRemaining v) o e) (some v.grant) (some v.slot)
      (some (v.channel, (s.channel v.channel).label)))] := by
    rw [removeWindow_store, appendEnded_room h1 hq hr]
  unfold endActive
  dsimp only
  split
  · obtain ⟨q, hk⟩ := (kept_reportEndedActive v.grant w (removeWindow w v (appendEnded w v o e s))).queue
    exact ⟨_, q.map .append, by rw [hk, h, List.append_assoc]; rfl, by rw [← hrem]⟩
  · exact ⟨_, [], h, by rw [← hrem]⟩

/-- A window that has been ACTIVE is aborted, its exchange with it. -/
theorem abortWindow_linked (hs : exchangeLaw s) (hx : channelExchange s c = some x) (hl : linkedExchange s w = some x)
    (hv : s.window w = some v) (hrun : v.run = some r) (hr : hasRoom s .W) (q : Reason) (e : EndCause) :
    ∃ t, abortWindow w q e true s = t ∧ channelExchange t c = none ∧ t.exchanges.length + 1 = s.exchanges.length ∧
      t.window w = none ∧ t.agent.attention.downloadEnded = true ∧
      t.ports = (withReply s (replyFrame s x.channel x.code (reasonCode q))).ports ∧
      ∀ a l, v.range = some (a, l) → 1 ≤ v.reservations → s.store.queue.length < 16 → ∃ n m,
        t.store.queue = s.store.queue ++ StoreRequest.append n :: m ∧
          n.detail = .downloadEnded a l r.remaining .aborted e := by
  have he : abortWindow w q e true s = endActive w v .aborted e true
      (withReply (dropChannelExchange x.id s) (replyFrame s x.channel x.code (reasonCode q))) := by
    rw [abortWindow, hv]
    show endAborted w v e true (closeLinked w q s) = _
    rw [closeLinked_room hl hr, endAborted, hrun]
  have hex : (endActive w v .aborted e true (withReply (dropChannelExchange x.id s)
      (replyFrame s x.channel x.code (reasonCode q)))).exchanges = unlinked w (dropChannelExchange x.id s) := by
    rw [endActive_exchanges]
    exact unlinked_of rfl w
  refine ⟨_, he, ?_, ?_, endActive_gone _ _ _ _ _ _, endActive_attention _ _ _ _ _ _, endActive_ports _ _ _ _ _ _, ?_⟩
  · have := channelExchange_unlink (channelExchange_dropped hs hx) w
    unfold channelExchange at this ⊢
    rw [hex]
    exact this
  · rw [hex]
    exact dropped_length hx s rfl w
  · intro a l hrange h1 hq
    exact endActive_enters h1 (by exact hq) hrun hrange _ _ _

/-! ### A block that is refused while its window goes on (R119) -/

theorem closeDownload_leaves (hw : x.window = some w) (hv : s.window w = some v)
    (hst : v.state = .active ∨ v.state = .suspended) (hr : hasRoom s .W) (q : Reason) : closeDownload x q s =
      withReply (setWindow w (some (unlinkedWindow v)) (dropChannelExchange x.id s))
        (replyFrame s x.channel x.code (reasonCode q)) := by
  have hu : v.unlinked = unlinkedWindow v := by
    unfold Window.unlinked
    rw [if_pos hst]
  have hl : leaveWindow w (dropChannelExchange x.id s) =
      setWindow w (some (unlinkedWindow v)) (dropChannelExchange x.id s) := by
    have hv' : (dropChannelExchange x.id s).window w = some v := hv
    rw [leaveWindow, hv', ← hu]
  unfold closeDownload
  simp only [hw, hl]
  exact gatewayReply_W (s := setWindow w (some (unlinkedWindow v)) (dropChannelExchange x.id s)) hr _ _ _

theorem queued_reply_other {o : OutFrame} (h : t.ports = (withReply s o).ports) (n : Net) :
    queued t (netPort n) = queued s (netPort n) := by
  unfold queued State.port
  rw [h]
  cases n <;> rfl

/-! ### A complete block, judged (R119 to R121) -/

/-- A refused transfer's entry moves the record and the store queue alone. -/
theorem refuseTransfer_beside (v : Window) (a n : Nat) (q : Reason) (s : State) : refuseTransfer v a n q s = { s with
    store := (refuseTransfer v a n q s).store, record := (refuseTransfer v a n q s).record } :=
  appendEntry_on_same rfl rfl rfl rfl _ _ _ _

section
variable (h : AtJudge s z c x w u i code k bytes)
include h

/-- On a SUSPENDED window the block is held (R126). -/
theorem judged_held (hrun : u.run = some r) (hb : blockPasses r k.toNat bytes.length b) (hst : u.state = .suspended) :
    ∃ t y, judgeBlock x z = t ∧ y = { x with state := .stagedHold } ∧ channelExchange t c = some y ∧
      t.window w = some { u with inHand := some b, hold := some 2000 } ∧ t.inspector.buffers = z.inspector.buffers ∧
      t.ports = z.ports ∧ t.store = s.store ∧ t.record = s.record := by
  have hx := h.pending
  rw [← h.owner] at hx ⊢
  refine ⟨_, _, (judgeBlock_passes h hrun hb).trans (takeBlock_held hst), rfl, ?_, setWindow_window_self _ w _, rfl, rfl,
    h.store, h.record⟩
  exact (setChannelExchange_found (y := { x with state := .stagedHold }) h.law hx rfl rfl _).trans (if_pos rfl)

/-- On an ACTIVE window a block that meets no barred range leaves (R120, R121). -/
theorem judged_sent (hrun : u.run = some r) (hb : blockPasses r k.toNat bytes.length b) (hst : u.state = .active)
    (hm : ¬meets (channelWriteBars s c) b.start (b.start + b.count)) :
    ∃ t seg, judgeBlock x z = t ∧ t.exchanges = modifyFirst (isChannel x.id)
        (fun _ => .channel { x with state := .outbound, seg := seg, gapTimer := none }) z.exchanges ∧
      channelExchange t c = some { x with state := .outbound, seg := seg, gapTimer := none } ∧
      t.window w = some { u with inHand := some b } ∧ t.inspector.buffers = z.inspector.buffers ∧
      queued t (netPort (s.channel c).port) = queued s (netPort (s.channel c).port) ++
        [frameOf (s.channel c).ids.request (firstData (code :: k :: bytes))] ∧
      queued t .W = queued s .W ∧ t.grants = s.grants ∧ t.store = s.store ∧ t.record = s.record := by
  have hbars : ¬meets (channelWriteBars (setWindow w (some { u with inHand := some b }) z) u.channel) b.start
      (b.start + b.count) := by
    show ¬meets (channelWriteBars z u.channel) _ _
    rw [h.bars]
    exact hm
  have he : judgeBlock x z = sendBlock x { u with inHand := some b } (setWindow w (some { u with inHand := some b }) z) :=
    ((judgeBlock_passes h hrun hb).trans (takeBlock_active hst)).trans (checkBlock_clear rfl hbars)
  have hroom : hasRoom (setWindow w (some { u with inHand := some b }) z) (netPort (z.channel c).port) := by
    rw [h.entry]
    exact h.roomT
  obtain ⟨t, seg, e, h1, h2, h3, h4, h5⟩ := sendBlock_room (z := setWindow w (some { u with inHand := some b }) z) h.law
    h.pending hroom { u with inHand := some b }
  refine ⟨t, seg, he.trans e, h1, h2, ?_, ?_, ?_, h4.trans h.replies, ?_, ?_, ?_⟩
  · rw [h5]
    exact setWindow_window_self z w _
  · rw [h5]
    rfl
  · have hmsg : stagedBytes (setWindow w (some { u with inHand := some b }) z) { u with inHand := some b } =
        code :: k :: bytes := h.message
    have htarget := h.target
    rw [hmsg] at h3
    rw [← h.entry] at htarget ⊢
    exact h3.trans (congrArg (· ++ _) htarget)
  · rw [h5]
    exact h.grants
  · rw [h5]
    exact h.store
  · rw [h5]
    exact h.record

/-- A block that meets a barred range ends its window, and is refused (R120). -/
theorem judged_barred (hrun : u.run = some r) (hb : blockPasses r k.toNat bytes.length b) (hst : u.state = .active)
    (hm : meets (channelWriteBars s c) b.start (b.start + b.count)) :
    ∃ t, judgeBlock x z = t ∧ channelExchange t c = none ∧ t.exchanges.length + 1 = z.exchanges.length ∧
      t.window w = none ∧ t.agent.attention.downloadEnded = true ∧
      queued t (netPort (s.channel c).port) = queued s (netPort (s.channel c).port) ∧
      queued t .W = queued s .W ++ [(replyFrame s c code 0xE7).frame] ∧
      ∀ a l, u.range = some (a, l) → 1 ≤ u.reservations → occupied s < 128 → s.store.queue.length + 2 ≤ 16 → ∃ d n m,
        t.store.queue = s.store.queue ++ StoreRequest.append d :: .append n :: m ∧
          d.detail = .transferRefused b.start b.count .regionBarred ∧
          n.detail = .downloadEnded a l r.remaining .aborted .regionBarred := by
  obtain ⟨q, hq⟩ : ∃ q, q = setWindow w (some { u with inHand := some b }) z := ⟨_, rfl⟩
  have hbars : meets (channelWriteBars q u.channel) b.start (b.start + b.count) := by
    rw [hq]
    show meets (channelWriteBars z u.channel) _ _
    rw [h.bars]
    exact hm
  obtain ⟨p, hp⟩ : ∃ p, p = refuseTransfer { u with inHand := some b } b.start b.count .regionBarred q := ⟨_, rfl⟩
  have he : judgeBlock x z = abortWindow w .regionBarred .regionBarred true p := by
    rw [hp, hq]
    refine ((judgeBlock_passes h hrun hb).trans (takeBlock_active hst)).trans (checkBlock_barred rfl ?_)
    rw [hq] at hbars
    exact hbars
  have hnote : noted q (.transferRefused b.start b.count .regionBarred) (some u.grant) (some u.slot)
      (some (u.channel, (q.channel u.channel).label)) p := by
    rw [hp]
    exact appendEntry_on _ _ _ _ q
  have hbeside : p = { q with store := p.store, record := p.record } := by
    rw [hp]
    exact refuseTransfer_beside _ _ _ _ q
  have hqs : q.store = s.store := by
    rw [hq]
    exact h.store
  have hocc : occupied q = occupied s := by
    rw [hq, occupied_setWindow_same h.window (by rfl), h.room]
  obtain ⟨t, e, h1, h2, h3, h4, h5, h6⟩ := abortWindow_linked (s := p) (c := c) (x := x) (w := w)
    (v := { u with inHand := some b }) (r := r) (by rw [hbeside, hq]; exact h.law) (by rw [hbeside, hq]; exact h.pending)
    (by rw [hbeside, hq]; exact h.linked) (by rw [hbeside, hq]; exact setWindow_window_self z w _) hrun
    (by rw [hbeside, hq]; exact h.roomW) .regionBarred .regionBarred
  have hrep : replyFrame p x.channel x.code (reasonCode .regionBarred) = replyFrame s c code 0xE7 := by
    rw [hbeside, hq]
    exact h.reply 0xE7
  have hports : p.ports = z.ports := by rw [hbeside, hq]; rfl
  refine ⟨t, he.trans e, h1, ?_, h3, h4, ?_, ?_, fun a l hrange hres ho hlen => ?_⟩
  · rw [h2, hbeside, hq]
    rfl
  · rw [queued_reply_other h5, queued_of_ports hports, h.target]
  · rw [queued_reply h5, hrep, queued_of_ports hports, h.replies]
  · have hroom : occupied q < 128 ∧ q.store.queue.length < 16 := by
      rw [hocc, hqs]
      omega
    have hpq := hnote.1 hroom
    obtain ⟨n, m, h7, h8⟩ := h6 a l hrange hres (by
      rw [hpq]
      show (q.store.queue ++ [_]).length < 16
      rw [hqs, List.length_append, List.length_singleton]
      omega)
    refine ⟨entryNow q (.transferRefused b.start b.count .regionBarred) (some u.grant) (some u.slot)
      (some (u.channel, (q.channel u.channel).label)), n, m, ?_, rfl, h8⟩
    rw [h7, hpq]
    show q.store.queue ++ [_] ++ _ = _
    rw [hqs, List.append_assoc]
    rfl

/-- A block that is out of its window's range is refused, with its entry, and its window goes on (R119). -/
theorem judged_outOfWindow (hrun : u.run = some r) (hst : u.state = .active ∨ u.state = .suspended)
    (hb : bytes = [] ∨ k.toNat = r.expected ∧ (r.bmax < bytes.length ∨ r.remaining < bytes.length)) :
    ∃ t q, judgeBlock x z = t ∧ noted s (.transferRefused r.next bytes.length .outOfWindow) (some u.grant) (some u.slot)
        (some (c, (s.channel c).label)) q ∧ t.store = q.store ∧ t.record = q.record ∧ channelExchange t c = none ∧
      t.window w = some (unlinkedWindow u) ∧
      queued t (netPort (s.channel c).port) = queued s (netPort (s.channel c).port) ∧
      queued t .W = queued s .W ++ [(replyFrame s c code 0xE8).frame] := by
  obtain ⟨q, hq⟩ : ∃ q, q = appendEntry (.transferRefused r.next bytes.length .outOfWindow) (some u.grant) (some u.slot)
    (some c) s := ⟨_, rfl⟩
  have hp : refuseTransfer u r.next bytes.length .outOfWindow z = { z with store := q.store, record := q.record } := by
    rw [refuseTransfer, h.place, hq]
    exact appendEntry_on_same h.record h.store h.tables h.room _ _ _ _
  have he := judgeBlock_outOfWindow h hrun hb
  rw [hp] at he
  have hclose := closeDownload_leaves (s := { z with store := q.store, record := q.record }) h.link h.window hst
    (by exact h.roomW) .outOfWindow
  refine ⟨_, q, he.trans hclose, hq ▸ appendEntry_on _ _ _ _ s, rfl, rfl, ?_, setWindow_window_self _ w _, ?_, ?_⟩
  · exact channelExchange_dropped (s := z) h.law h.pending
  · exact (queued_reply_other (s := z) (o := replyFrame z x.channel x.code 0xE8) rfl _).trans h.target
  · refine (queued_reply (s := z) (o := replyFrame z x.channel x.code 0xE8) rfl).trans ?_
    rw [h.replies, h.reply]

/-- A block out of sequence is refused, and its window goes on (R119). -/
theorem judged_sequence (hrun : u.run = some r) (hst : u.state = .active ∨ u.state = .suspended) (he : bytes ≠ [])
    (hk : k.toNat ≠ r.expected) (hd : ∀ d, r.last = some d → ¬(k.toNat = d.counter ∧ bytes.length = d.count)) :
    ∃ t, judgeBlock x z = t ∧ t.store = s.store ∧ t.record = s.record ∧ channelExchange t c = none ∧
      t.window w = some (unlinkedWindow u) ∧
      queued t (netPort (s.channel c).port) = queued s (netPort (s.channel c).port) ∧
      queued t .W = queued s .W ++ [(replyFrame s c code 0xE9).frame] := by
  have hclose := closeDownload_leaves h.link h.window hst h.roomW .sequence
  refine ⟨_, (judgeBlock_sequence h hrun he hk hd).trans hclose, h.store, h.record, ?_, setWindow_window_self _ w _, ?_, ?_⟩
  · exact channelExchange_dropped (s := z) h.law h.pending
  · exact (queued_reply_other (s := z) (o := replyFrame z x.channel x.code 0xE9) rfl _).trans h.target
  · refine (queued_reply (s := z) (o := replyFrame z x.channel x.code 0xE9) rfl).trans ?_
    rw [h.replies, h.reply]

end

end Sys2Proof.Machine
end

section
/-! How a block comes to its judgement: as a unit, or gathered from a lead and its follows (R118, R119). -/

namespace Sys2Proof.Machine

open Sys2Proof Sys2Proof.Safety

variable {s z t : State} {c : Fin 16} {f : Frame} {rest : List Frame} {msg data : List Byte} {x y : ChannelExchange}
  {w i : Fin 2} {v u : Window} {r : WindowRun} {b : HandBlock} {code k : Byte} {bytes : List Byte} {role : Role}
  {first : Ssx}

/-! ### Frames of the tool -/

/-- The state once a tool's frame has been taken: its ports alone have changed, and no queue has. -/
theorem tool_split (s : State) (c : Fin 16) (rest : List Frame) : ∃ P, taken s .W rest = { s with ports := P } ∧
    (hasRoom s .W → hasRoom { s with ports := P } .W) ∧
    (hasRoom s (netPort (s.channel c).port) → hasRoom { s with ports := P } (netPort (s.channel c).port)) ∧
    queued { s with ports := P } .W = queued s .W ∧
    queued { s with ports := P } (netPort (s.channel c).port) = queued s (netPort (s.channel c).port) := by
  obtain ⟨P, hP⟩ : ∃ P, taken s .W rest = { s with ports := P } := ⟨_, taken_touches _ _ _⟩
  refine ⟨P, hP, fun h => ?_, fun h => ?_, ?_, ?_⟩ <;> rw [← hP]
  · exact h
  · exact hasRoom_taken h rest
  · rfl
  · exact queued_taken s rest c

/-! ### A step of an open download (R58) -/

/-- The record that a step of a download opens. -/
abbrev stepExchange (s : State) (c : Fin 16) (code : Byte) (role : Role) (w : Fin 2) (st : ExchState) : ChannelExchange :=
  freshExchange s.part.stamp c code .reprogram (some role) (some w) st

/-- The state in which a step of a download has opened: its exchange has joined the list, and the idle timer stands. -/
def stepOpened (x : ChannelExchange) (w : Fin 2) (v : Window) (s : State) : State :=
  setWindow w (some { v with idle := none }) (joinList x s)

theorem stepOpened_window (x : ChannelExchange) (w : Fin 2) (v : Window) (s : State) :
    (stepOpened x w v s).window w = some { v with idle := none } := setWindow_window_self (joinList x s) w _

theorem stopIdle_joined (hv : s.window w = some v) (x : ChannelExchange) :
    stopIdle w (joinList x s) = stepOpened x w v s := by
  have h : (joinList x s).window w = some v := hv
  rw [stopIdle, h, stepOpened]

theorem openStep_block (hv : s.window w = some v) (first : Ssx) (data : List Byte) :
    openStep c code .block w first data s = stageFirst (stepExchange s c code .block w .staging) w { v with idle := none }
      first (stepOpened (stepExchange s c code .block w .staging) w v s) := by
  have h := stopIdle_joined hv (stepExchange s c code .block w .staging)
  unfold openStep
  simp only [if_true]
  rw [h, stepOpened_window]

theorem openStep_other (hv : s.window w = some v) (hr : role ≠ .block) (first : Ssx) (data : List Byte) :
    openStep c code role w first data s = passFirst (stepExchange s c code role w .inbound) first data
      (stepOpened (stepExchange s c code role w .inbound) w v s) := by
  unfold openStep
  simp only [if_neg hr]
  rw [stopIdle_joined hv]

/-- The first frame of a step of an open download. -/
theorem step_begins (hT : (s.port (netPort (s.channel c).port)).status = .active) (hr : isStep role)
    (hc : classOf s code = some { cls := .reprogram, role := some role }) (hwin : windowOn s c = some (w, v))
    (he : role = .erase → oneFollow first = true) (more : List Byte) (data : List Byte) (rest : List Frame) :
    newRequest c first (code :: more) data (taken s .W rest) = openStep c code role w first data (taken s .W rest) := by
  refine newRequest_linked (msg := code :: more) ?_
  rw [judgeFirst_taken, if_neg (by rw [hT]; decide)]
  show admission s c code first = _
  rw [admission_step hr hc, judgeStep_open hwin, if_neg]
  rintro ⟨h1, h2⟩
  rw [he h1] at h2
  cases h2

/-- A step's exchange and the rest of the machine, once it has opened. -/
theorem stepOpened_law (hs : exchangeLaw s) (hx : channelExchange s c = none) (st : ExchState) :
    exchangeLaw (stepOpened (stepExchange s c code role w st) w v s) ∧
      channelExchange (stepOpened (stepExchange s c code role w st) w v s) c = some (stepExchange s c code role w st) := by
  refine ⟨exchangeLaw_joinList (x := stepExchange s c code role w st) rfl hx hs, ?_⟩
  refine (joinList_channel (stepExchange s c code role w st) s c).trans ?_
  rw [hx]
  exact if_pos rfl

theorem stepOpened_linked (hl : linkedExchange s w = none) (st : ExchState) :
    linkedExchange (stepOpened (stepExchange s c code role w st) w v s) w = some (stepExchange s c code role w st) := by
  refine (joinList_linked (stepExchange s c code role w st) s w).trans ?_
  rw [hl]
  exact if_pos rfl

/-! ### The staging buffers (R118) -/

theorem freeBuffer_one (s : State) : freeBuffer s = 1 ↔ ∃ u y, s.window u = some y ∧ y.buffer = some 0 := by
  have hw : (∃ u y, s.window u = some y ∧ y.buffer = some 0) ↔
      (∃ y, s.window 0 = some y ∧ y.buffer = some 0) ∨ ∃ y, s.window 1 = some y ∧ y.buffer = some 0 := by
    constructor
    · rintro ⟨u, y, h⟩
      obtain rfl | rfl : u = 0 ∨ u = 1 := by omega
      · exact .inl ⟨y, h⟩
      · exact .inr ⟨y, h⟩
    · rintro (⟨y, h⟩ | ⟨y, h⟩)
      · exact ⟨0, y, h⟩
      · exact ⟨1, y, h⟩
  rw [hw]
  unfold freeBuffer
  cases h0 : s.window 0 <;> cases h1 : s.window 1 <;> simp [h0, h1, or_iff_not_imp_left]

/-- Stopping an idle timer frees no buffer. -/
theorem freeBuffer_stepOpened (hv : s.window w = some v) (x : ChannelExchange) :
    freeBuffer (stepOpened x w v s) = 1 ↔ ∃ u y, s.window u = some y ∧ y.buffer = some 0 := by
  rw [freeBuffer_one]
  have hwin : ∀ u, (stepOpened x w v s).window u = if u = w then some { v with idle := none } else s.window u :=
    fun u => setWindow_window (s := joinList x s) w u _
  constructor
  · rintro ⟨u, y, hy, hb⟩
    rw [hwin] at hy
    split at hy
    · next e =>
      obtain rfl := Option.some.inj hy
      exact ⟨w, v, hv, hb⟩
    · exact ⟨u, y, hy, hb⟩
  · rintro ⟨u, y, hy, hb⟩
    by_cases e : u = w
    · subst e
      obtain rfl := Option.some.inj (hv.symm.trans hy)
      exact ⟨u, _, (hwin u).trans (if_pos rfl), hb⟩
    · exact ⟨u, y, by rw [hwin, if_neg e]; exact hy, hb⟩

/-! ### A block that comes as a unit -/

theorem unit_ready (hs : exchangeLaw s) (h : ToolSide s c f rest) (hW : hasRoom s .W)
    (hT : hasRoom s (netPort (s.channel c).port)) (hd : f.data = byte 0 :: code :: k :: bytes)
    (hx : channelExchange s c = none) (hcls : classOf s code = some { cls := .reprogram, role := some .block })
    (hwin : windowOn s c = some (w, v)) (hl : linkedExchange s w = none) :
    ∃ z i, exec (.routerTakesFrame .W) s = .next (judgeBlock (stepExchange s c code .block w .staging) z) ∧
      AtJudge s z c (stepExchange s c code .block w .staging) w { v with idle := none, buffer := some i } i code k bytes ∧
      z.exchanges = s.exchanges ++ [.channel (stepExchange s c code .block w .staging)] := by
  obtain ⟨hv, hch⟩ := windowOn_some hwin
  have hgo := toolFrame_unit h hx hd (by simp)
  rw [step_begins hT.1 (.inl rfl) hcls hwin nofun] at hgo
  obtain ⟨P, hP, hPW, hPT, hqW, hqT⟩ := tool_split s c rest
  rw [hP, openStep_block (s := { s with ports := P }) hv] at hgo
  obtain ⟨q, hq⟩ : ∃ q, q = stepOpened (stepExchange s c code .block w .staging) w v { s with ports := P } := ⟨_, rfl⟩
  obtain ⟨h1, h2⟩ := stepOpened_law (s := { s with ports := P }) (code := code) (role := .block) (w := w) (v := v) hs hx
    .staging
  have h3 := stepOpened_linked (s := { s with ports := P }) (c := c) (code := code) (role := .block) (v := v) hl .staging
  obtain ⟨i, hi⟩ : ∃ i, i = freeBuffer q := ⟨_, rfl⟩
  refine ⟨setBuffer i (code :: k :: bytes) (setWindow w (some { v with idle := none, buffer := some i }) q), i,
    hgo.trans ?_, ⟨?_, ?_, ?_, ?_, ?_, ?_, ?_, ?_, ?_, ?_, rfl, rfl, rfl, setWindow_window_self q w _, hch, rfl,
      put_get_self _ _ _⟩, ?_⟩
  · rw [hi, hq]
    rfl
  · rw [hq]
    rfl
  · rw [hq]
    rfl
  · have hvq : q.window w = some { v with idle := none } := by
      rw [hq]
      exact setWindow_window_self _ w _
    refine (occupied_setWindow_same (u := { v with idle := none, buffer := some i }) hvq rfl).trans ?_
    rw [hq]
    exact occupied_setWindow_same (s := joinList (stepExchange s c code .block w .staging) { s with ports := P })
      (u := { v with idle := none }) hv rfl
  · rw [hq]
    exact hqT
  · rw [hq]
    exact hqW
  · rw [hq]
    exact hPT hT
  · rw [hq]
    exact hPW hW
  · rw [hq]
    exact h1
  · rw [hq]
    exact h2
  · rw [hq]
    exact h3
  · rw [hq]
    rfl

/-! ### A block that is gathered -/

/-- A follow that is due is put behind the bytes in the window's buffer (R118). -/
def gathered (v : Window) (i : Fin 2) (bytes : List Byte) (s : State) : State :=
  setBuffer i (stagedBytes s v ++ bytes) s

theorem stagingFrame_follow {n : Nat} (hw : x.window = some w) (hv : s.window w = some v) (hb : v.buffer = some i)
    (hp : x.seg.phase = .followsDue) (hn : x.seg.next = n) :
    (n = x.seg.count → stagingFrame x (.follow n bytes) s = judgeBlock { x with seg := x.seg.reset }
      (setChannelExchange { x with seg := x.seg.reset } (gathered v i bytes s))) ∧
    (n ≠ x.seg.count → stagingFrame x (.follow n bytes) s =
      setChannelExchange { x with seg := x.seg.follow bytes.length 0 } (gathered v i bytes s)) := by
  have hbind : x.window.bind s.window = some v := by rw [hw]; exact hv
  unfold stagingFrame
  simp only [hp, hn, hbind, hb, and_self, if_true]
  exact ⟨fun e => if_pos e, fun e => if_neg e⟩

theorem toolPending_staging {n : Nat} (hst : x.state = .staging) (hr : readSsx x.seg.count data = .follow n bytes) :
    toolPending x data s = stagingFrame x (.follow n bytes) s := by
  unfold toolPending
  simp only [hr, hst]

theorem last_ready (hs : exchangeLaw s) (h : ToolSide s c f rest) (hW : hasRoom s .W)
    (hT : hasRoom s (netPort (s.channel c).port)) (hx : channelExchange s c = some x) (hl : linkedExchange s w = some x)
    (hw : x.window = some w) (hst : x.state = .staging) (hrole : x.role = some .block) (hcode : x.code = code)
    (hp : x.seg.phase = .followsDue) (hn : x.seg.next = x.seg.count) (h63 : x.seg.count ≤ 63) (hv : s.window w = some v)
    (hch : v.channel = c) (hb : v.buffer = some i) {tail : List Byte} (hd : f.data = byte (128 + x.seg.count) :: tail)
    (h1 : 1 ≤ tail.length) (hm : s.inspector.buffers.get i ++ tail = code :: k :: bytes) :
    ∃ z, exec (.routerTakesFrame .W) s = .next (judgeBlock { x with seg := x.seg.reset } z) ∧
      AtJudge s z c { x with seg := x.seg.reset } w v i code k bytes := by
  obtain rfl : x.channel = c := (channelExchange_some hx).2
  have hread : readSsx x.seg.count f.data = .follow x.seg.count tail := by
    rw [hd]
    exact readSsx_follow h63 h1 fun e => absurd e (lt_irrefl _)
  obtain ⟨P, hP, hPW, hPT, hqW, hqT⟩ := tool_split s x.channel rest
  have hgo := tool_pending h hx
  rw [hP, toolPending_staging hst hread,
    (stagingFrame_follow (s := { s with ports := P }) hw hv hb hp hn).1 rfl] at hgo
  obtain ⟨q, hq⟩ : ∃ q, q = gathered v i tail { s with ports := P } := ⟨_, rfl⟩
  rw [← hq] at hgo
  have hql : exchangeLaw q := by rw [hq]; exact hs
  have hqx : channelExchange q x.channel = some x := by rw [hq]; exact hx
  have hqk : linkedExchange q w = some x := by rw [hq]; exact hl
  refine ⟨_, hgo, ?_, ?_, ?_, ?_, ?_, ?_, ?_, ?_, ?_, ?_, hw, hrole, hcode, ?_, hch, hb, ?_⟩
  · rw [hq]
    rfl
  · rw [hq]
    rfl
  · rw [hq]
    rfl
  · rw [hq]
    exact hqT
  · rw [hq]
    exact hqW
  · rw [hq]
    exact hPT hT
  · rw [hq]
    exact hPW hW
  · exact exchangeLaw_setChannel (x := { x with seg := x.seg.reset }) ⟨x, (channelExchange_some hqx).1, rfl, rfl⟩ hql
  · exact (setChannelExchange_found (y := { x with seg := x.seg.reset }) hql hqx rfl rfl _).trans (if_pos rfl)
  · exact linkedExchange_set (y := { x with seg := x.seg.reset }) hql hqk rfl hw
  · rw [hq]
    exact hv
  · rw [hq]
    refine (put_get_self _ _ _).trans ?_
    rw [stagedBytes, hb]
    exact hm

/-- Both ways lead to the judgement. -/
theorem block_ready (h : BlockCompletes s c f rest w v r code k bytes) : ∃ z x idle i,
    exec (.routerTakesFrame .W) s = .next (judgeBlock x z) ∧
      AtJudge s z c x w { v with idle := idle, buffer := some i } i code k bytes := by
  obtain ⟨htool, hs, hW, hT, hwin, hst, hrun, ⟨hd, hx, hl, hc⟩ | ⟨x, i, tail, hx, hl, hw, hxs, hrole, hcode, hp, hn, h63,
    hb, hd, h1, -, hm⟩⟩ := h
  · obtain ⟨z, i, hgo, hj, -⟩ := unit_ready hs htool hW hT hd hx hc hwin hl
    exact ⟨z, _, none, i, hgo, hj⟩
  · obtain ⟨hv, hch⟩ := windowOn_some hwin
    obtain ⟨z, hgo, hj⟩ := last_ready hs htool hW hT hx hl hw hxs hrole hcode hp hn h63 hv hch hb hd h1 hm
    refine ⟨z, _, v.idle, i, hgo, ?_⟩
    rw [← hb]
    exact hj

/-- The frame of a short block, as it is sent on. -/
theorem unit_frame (h : ToolSide s c f rest) (hd : f.data = byte 0 :: msg) (h7 : msg.length ≤ 7) :
    frameOf (s.channel c).ids.request (firstData msg) = f := by
  rw [firstData, if_pos h7, ← hd, h.request]

end Sys2Proof.Machine
end

section
/-! The lead of a block, the frames that break a held one, and the end of a suspension (R118, R125, R126). -/

namespace Sys2Proof.Machine

open Sys2Proof Sys2Proof.Safety

variable {s z t : State} {c : Fin 16} {f : Frame} {rest : List Frame} {msg data : List Byte} {x y : ChannelExchange}
  {w i : Fin 2} {v u : Window} {r : WindowRun} {b : HandBlock} {code k : Byte} {bytes : List Byte}

/-! ### The lead of a block (R118) -/

theorem sendProceed_room (hr : hasRoom s .W) (x : ChannelExchange) : sendProceed x s =
    nextStamp (setChannelExchange { x with seg := x.seg.proceed 0 0 s.part.stamp }
      (withReply s (toTool s x (paceData 0 0 0) true (.turn s.part.stamp)))) := by
  unfold sendProceed
  exact offerThen_W hr _ _

theorem sendWait_room (hr : hasRoom s .W) (x : ChannelExchange) : sendWait x s =
    withReply s (toTool s x (paceData 0 1 0) true .plain) := by
  unfold sendWait
  exact offerThen_W hr _ _

/-- A lead's exchange joins the list, and the lead is in the lowest free buffer; the answer is still to come. -/
def leadTaken (x : ChannelExchange) (count : Nat) (w : Fin 2) (v : Window) (msg : List Byte) (s : State) : State :=
  setWindow w (some v) (setChannelExchange { x with seg := x.seg.lead count 0 } (setBuffer (freeBuffer s) msg s))

theorem stageFirst_lead (x : ChannelExchange) (w : Fin 2) (v : Window) (count : Nat) (msg : List Byte) (s : State) :
    (v.state = .suspended → stageFirst x w v (.lead count msg) s = sendWait { x with seg := x.seg.lead count 0 }
      (leadTaken x count w { v with buffer := some (freeBuffer s), hold := some 2000 } msg s)) ∧
    (v.state ≠ .suspended → stageFirst x w v (.lead count msg) s = sendProceed { x with seg := x.seg.lead count 0 }
      (leadTaken x count w { v with buffer := some (freeBuffer s) } msg s)) := by
  unfold stageFirst
  exact ⟨fun h => if_pos h, fun h => if_neg h⟩

/-- A lead that has been taken, before it is answered. -/
theorem lead_ready (h : ToolSide s c f rest) (hT : (s.port (netPort (s.channel c).port)).status = .active) {count : Nat}
    {more : List Byte} (hd : f.data = byte (64 + count) :: code :: more) (h1 : 1 ≤ count) (h63 : count ≤ 63)
    (hm : more.length = 6) (hx : channelExchange s c = none)
    (hcls : classOf s code = some { cls := .reprogram, role := some .block }) (hwin : windowOn s c = some (w, v)) :
    ∃ P, hasRoom s .W → (hasRoom { s with ports := P } .W ∧ queued { s with ports := P } .W = queued s .W ∧
      exec (.routerTakesFrame .W) s = .next (stageFirst (stepExchange s c code .block w .staging) w
        { v with idle := none } (.lead count (code :: more))
        (stepOpened (stepExchange s c code .block w .staging) w v { s with ports := P }))) := by
  have hgo := toolFrame_lead h hx hd h1 h63 (by simp [hm])
  rw [step_begins hT (.inl rfl) hcls hwin nofun] at hgo
  obtain ⟨P, hP, hPW, -, hqW, -⟩ := tool_split s c rest
  rw [hP, openStep_block (s := { s with ports := P }) (windowOn_some hwin).1] at hgo
  exact ⟨P, fun hW => ⟨hPW hW, hqW, hgo⟩⟩

/-! ### Frames that break a held block, and the controller's frames meanwhile -/

/-- A frame of the tool's that is neither a unit nor a lead breaks a held block. -/
theorem toolPending_held (hst : x.state = .stagedHold) {ctl : Byte} {more : List Byte} (hd : data = ctl :: more)
    (hctl : 128 ≤ ctl.toNat) : toolPending x data s = closeExchange x .broken s := by
  obtain ⟨h1, h2⟩ := readSsx_high (more := more) hctl x.seg.count
  unfold toolPending
  rw [hd]
  split
  · next e => exact absurd e (h1 _)
  · next e => exact absurd e (h2 _ _)
  · simp only [hst]

theorem controllerPending_staged (hst : x.state = .staging ∨ x.state = .stagedHold) (data : List Byte) (s : State) :
    controllerPending x data s = dropLate x.channel s := by
  unfold controllerPending
  obtain h | h := hst <;> simp only [h]

/-! ### The end of a suspension (R125) -/

theorem conditionSet_ignon : ∀ a b c d : Bool,
    BitVec.ofNat 5 (a.toNat + 2 * b.toNat + 4 * c.toNat + 8 * d.toNat + 16 * true.toNat) =
      BitVec.ofNat 5 (a.toNat + 2 * b.toNat + 4 * c.toNat + 8 * d.toNat + 16 * false.toNat) ||| 16#5 ∧
    BitVec.ofNat 5 (a.toNat + 2 * b.toNat + 4 * c.toNat + 8 * d.toNat + 16 * true.toNat) ≠
      BitVec.ofNat 5 (a.toNat + 2 * b.toNat + 4 * c.toNat + 8 * d.toNat + 16 * false.toNat) := by decide

/-- The ignition is on: its sample is taken and its change flag set. -/
def ignited (s : State) : State := { s with lines := { s.lines with ignon := true, ignonChanged := true } }

theorem conditions_ignited (h : s.lines.ignon = false) :
    conditions (ignited s) = conditions s ||| 16#5 ∧ conditions (ignited s) ≠ conditions s := by
  have := conditionSet_ignon (condition s 0) (condition s 1) (condition s 2) (condition s 3)
  unfold conditions
  rw [h]
  exact this

theorem testWindow_closed (h : s.window w = none) : testWindow w s = s := by
  rw [testWindow, h]

/-- With one window open alone, the test of the windows is its test, unless that opens the other. -/
theorem testWindows_alone (h : ∀ u, u ≠ w → s.window u = none)
    (ht : ∀ u, u ≠ w → (testWindow w s).window u = none) : testWindows s = testWindow w s := by
  unfold testWindows
  obtain rfl | rfl : w = 0 ∨ w = 1 := by omega
  · exact testWindow_closed (ht 1 (by decide))
  · rw [testWindow_closed (h 0 (by decide))]

theorem course_testWindow_windows (w : Fin 2) (s : State) : WindowsFrom s (testWindow w s) :=
  (course_testWindow (D := False) (a := false) w s).windowsFrom

/-- IGNON becomes asserted with one suspended window whose watched conditions are then all true. -/
theorem ignon_resumes (ha : s.part.awake = true) (h : s.lines.ignon = false) (hv : s.window w = some v)
    (hother : ∀ u, u ≠ w → s.window u = none) (hst : v.state = .suspended)
    (hreq : (s.tables.policies.get 4).required &&& ~~~(conditions s ||| 16) = 0) :
    exec (.ignonChange true) s = .next (resumeWindow w v (ignited s)) := by
  obtain ⟨hc, hne⟩ := conditions_ignited h
  have htest : testWindow w (ignited s) = resumeWindow w v (ignited s) := by
    have hv' : (ignited s).window w = some v := hv
    have hall : allTrue (ignited s) (watched (ignited s)) = true := by
      rw [allTrue_iff, hc]
      exact hreq
    rw [testWindow, hv']
    simp only [hst, hall, if_true]
  have hall := testWindows_alone (s := ignited s) hother
    fun u hu => (course_testWindow_windows w (ignited s)).closed (hother u hu)
  rw [awake_next ha rfl, ignonChanges, h]
  refine congrArg Host.Outcome.next ((if_neg (by decide)).trans ((if_neg hne).trans (hall.trans htest)))

theorem resumeWindow_held (hl : linkedExchange s w = some x) (hst : x.state = .stagedHold) : resumeWindow w v s =
    checkBlock w x { v with state := .active, grace := none }
      (setWindow w (some { v with state := .active, grace := none, hold := none }) s) := by
  have hl' : linkedExchange (setWindow w (some { v with state := .active, grace := none }) s) w = some x := hl
  unfold resumeWindow
  simp only [hl', hst, if_true]
  unfold setWindow
  simp only [put_put]

theorem resumeWindow_waiting (hl : linkedExchange s w = some x) (hst : x.state = .staging) (hp : x.seg.phase = .paceDue) :
    resumeWindow w v s =
      sendProceed x (setWindow w (some { v with state := .active, grace := none, hold := none }) s) := by
  have hl' : linkedExchange (setWindow w (some { v with state := .active, grace := none }) s) w = some x := hl
  unfold resumeWindow
  simp only [hl', hst, hp, reduceCtorEq, if_false, and_self, if_true]
  unfold setWindow
  simp only [put_put]

end Sys2Proof.Machine
end

section
/-! The Close, the Open and the Erase, judged when they are complete (R113, R114, R123, R124). -/

namespace Sys2Proof.Machine

open Sys2Proof Sys2Proof.Safety

variable {s z t : State} {c : Fin 16} {f : Frame} {rest : List Frame} {msg data : List Byte} {x y : ChannelExchange}
  {w i : Fin 2} {v u : Window} {r : WindowRun} {code area : Byte} {g : Grant} {a l n : Nat}

/-! ### The last frame of a request, passed on (R61) -/

theorem passLast_taken (h : ToolSide s c f rest) (hz : exchangeLaw z) (hx : channelExchange z c = some x)
    (ht : z.tables = s.tables) (hr : hasRoom z (netPort (s.channel c).port)) : ∃ t, passLast x f.data z = t ∧
      t.exchanges = modifyFirst (isChannel x.id) (fun _ => .channel (requestDone x)) z.exchanges ∧
      channelExchange t c = some (requestDone x) ∧
      queued t (netPort (s.channel c).port) = queued z (netPort (s.channel c).port) ++ [f] ∧
      queued t .W = queued z .W ∧ t = { z with ports := t.ports, meter := t.meter, exchanges := t.exchanges } := by
  obtain rfl : x.channel = c := (channelExchange_some hx).2
  have hch : z.channel x.channel = s.channel x.channel := by
    unfold State.channel
    rw [ht]
  have he : passLast x f.data z = setChannelExchange (requestDone x) (offerState (netPort (s.channel x.channel).port)
      (toController z x f.data false .lastRequest) z) := by
    unfold passLast targetPort
    rw [hch]
    exact offerThen_room hr _ _
  have hframe : (toController z x f.data false .lastRequest).frame = f := by
    unfold toController
    rw [hch, h.request]
    rfl
  have hto := offerState_touches (netPort (s.channel x.channel).port) (toController z x f.data false .lastRequest) z
  have hqT := offerState_queued hr (toController z x f.data false .lastRequest)
  have hqW := offerState_other (netPort_ne_W (s.channel x.channel).port) (toController z x f.data false .lastRequest) z
  rw [hframe] at hqT
  rw [he]
  generalize offerState _ _ z = q at hto hqT hqW
  have hq : exchangeLaw q := by rw [hto]; exact hz
  have hqx : channelExchange q x.channel = some x := by rw [hto]; exact hx
  refine ⟨_, rfl, ?_, ?_, hqT, ?_, ?_⟩
  · rw [hto]
    rfl
  · exact (setChannelExchange_found (y := requestDone x) hq hqx rfl rfl _).trans (if_pos rfl)
  · exact congrArg (fun p : PortState => p.out.map (·.frame)) hqW
  · rw [hto]
    rfl

/-! ### A Close (R123) -/

theorem judgeClose_open (hw : x.window = some w) (hv : s.window w = some v) : judgeClose x data s =
    if endRemaining v ≠ 0 then closeDownload x .incomplete s
    else passLast x data (setWindow w (some { v with state := .closing, grace := none, hold := none }) s) := by
  unfold judgeClose
  simp only [hw, hv]

/-- A new exchange that leaves the list again leaves it as it was. -/
theorem joined_eraseP (hs : exchangeLaw s) (hx : x.id = s.part.stamp) :
    (s.exchanges ++ [Exchange.channel x]).eraseP (isChannel x.id) = s.exchanges := by
  rw [List.eraseP_append_right _ fun e he => by rw [hx]; exact ne_true_of_eq_false (fresh_number hs e he),
    List.eraseP_cons_of_pos (isChannel_self x), List.append_nil]

/-- A Close as a unit comes to its judgement. -/
theorem close_ready (h : ToolSide s c f rest) (hT : (s.port (netPort (s.channel c).port)).status = .active)
    {more : List Byte} (hd : f.data = byte 0 :: code :: more) (hx : channelExchange s c = none)
    (hcls : classOf s code = some { cls := .reprogram, role := some .closing }) (hwin : windowOn s c = some (w, v))
    {P : Ports} (hP : taken s .W rest = { s with ports := P }) : exec (.routerTakesFrame .W) s =
      .next (judgeClose (stepExchange s c code .closing w .inbound) f.data
        (stepOpened (stepExchange s c code .closing w .inbound) w v { s with ports := P })) := by
  have hgo := toolFrame_unit h hx hd (by simp)
  rw [step_begins hT (.inr (.inl rfl)) hcls hwin nofun, hP,
    openStep_other (s := { s with ports := P }) (windowOn_some hwin).1 (by decide)] at hgo
  exact hgo

/-! ### The last follow of an Open or an Erase -/

theorem requestFollow_judged (hr : x.role = some .opening ∨ x.role = some .erase) (hn : n = x.seg.count) :
    requestFollow x n msg data s = lastRequestFrame x (x.gathered ++ msg) data s := by
  have hreads : readsRequest x = true := by
    obtain h | h := hr <;> rw [readsRequest, h] <;> decide
  unfold requestFollow
  simp only [hreads, if_true]
  exact if_pos hn

theorem request_ready (h : ToolSide s c f rest) (hx : channelExchange s c = some x) (hst : x.state = .inbound)
    (hp : x.seg.phase = .followsDue) (hn : x.seg.next = 1) (hc : x.seg.count = 1) {tail : List Byte}
    (hd : f.data = byte 129 :: tail) (h1 : 1 ≤ tail.length) (hr : x.role = some .opening ∨ x.role = some .erase)
    {P : Ports} (hP : taken s .W rest = { s with ports := P }) : exec (.routerTakesFrame .W) s =
      .next (lastRequestFrame x (x.gathered ++ tail) f.data { s with ports := P }) := by
  have hread : readSsx x.seg.count f.data = .follow 1 tail := by
    rw [hd, hc]
    exact readSsx_follow (i := 1) (by decide) h1 fun e => absurd e (lt_irrefl _)
  rw [tool_pending h hx, hP, toolPending_follow hst hp hn hread, requestFollow_judged hr hc.symm]

/-! ### An Open (R114) -/

theorem judgeOpen_refused {q : Reason} {range : Bool} (hw : x.window = some w) (hv : s.window w = some v)
    (h : openRefusal s x.channel msg = some (q, range)) : judgeOpen x msg data s = refuseOpen w v msg q range s := by
  unfold judgeOpen
  simp only [hw, hv, h]

theorem judgeOpen_passed (hw : x.window = some w) (hv : s.window w = some v) (h : openRefusal s x.channel msg = none) :
    judgeOpen x msg data s =
      passLast x data (setWindow w (some { v with range := some (fieldAt msg 2 4, fieldAt msg 6 4) }) s) := by
  unfold judgeOpen
  simp only [hw, hv, h]

/-- The two numbers of an Open's 10 bytes, and of an Erase's 9. -/
theorem open_fields (code area : Byte) (ha : a < 2 ^ 32) (hl : l < 2 ^ 32) :
    fieldAt (code :: area :: (beBytes 4 a ++ beBytes 4 l)) 2 4 = a ∧
      fieldAt (code :: area :: (beBytes 4 a ++ beBytes 4 l)) 6 4 = l := by
  have h4 : fieldAt (beBytes 4 l) 0 4 = l := fieldAt_four hl []
  refine ⟨fieldAt_four ha _, ?_⟩
  rw [fieldAt_cons, fieldAt_cons, beBytes_four a]
  exact h4

/-- The checks of an Open's range (R114). -/
def openInside (m : RegionMap) (a l : Nat) : Prop :=
  m.present = true ∧ 1 ≤ l ∧ a + l ≤ 2 ^ 32 ∧ m.base ≤ a ∧ a + l ≤ m.base + 2 ^ m.exponent

theorem openRefusal_length (h : msg.length ≠ 10) : openRefusal s c msg = some (.outOfWindow, false) := if_pos h

theorem openRefusal_outside (hlen : msg.length = 10) (h : ¬openInside (s.tables.maps.get c) (fieldAt msg 2 4) (fieldAt msg 6 4)) :
    openRefusal s c msg = some (.outOfWindow, true) := by
  unfold openRefusal
  dsimp only
  rw [if_neg (not_not.2 hlen)]
  split
  · rfl
  · next h1 =>
    split
    · rfl
    · next h2 =>
      split
      · rfl
      · next h3 =>
        rw [not_not] at h2 h3
        exact absurd ⟨by simpa using h1, h2.1, h2.2, h3.1, h3.2⟩ h

theorem openRefusal_inside (hlen : msg.length = 10) (h : openInside (s.tables.maps.get c) (fieldAt msg 2 4) (fieldAt msg 6 4)) :
    openRefusal s c msg = if hitsBars (channelWriteBars s c) (fieldAt msg 2 4) (fieldAt msg 2 4 + fieldAt msg 6 4) then
      some (.regionBarred, true) else none := by
  obtain ⟨h1, h2, h3, h4, h5⟩ := h
  unfold openRefusal
  dsimp only
  rw [if_neg (not_not.2 hlen), if_neg (by simp [h1]), if_neg (not_not.2 ⟨h2, h3⟩), if_neg (not_not.2 ⟨h4, h5⟩)]

/-- What an Open refused at its check leaves: its exchange and its window are gone, and its grant is free for another. -/
theorem refuseOpen_leaves (hl : linkedExchange s w = some x) (hr : hasRoom s .W) (hd : grantNumbersDistinct s)
    (hg : g ∈ s.grants.grants) (hn : g.number = v.grant) (hb : g.binding = .pending w) (ha : g.state = .active)
    (q : Reason) : ∃ t, refuseOpen w v msg q false s = t ∧ t.exchanges = unlinked w (dropChannelExchange x.id s) ∧
      t.ports = (withReply s (replyFrame s x.channel x.code (reasonCode q))).ports ∧ t.window w = none ∧
      t.grants.grants = grantsWith s g.number (fun y => { y with binding := .none }) ∧ t.store = s.store ∧
      t.record = s.record := by
  obtain ⟨lamp, e⟩ := endPendingSilent_pending (w := w) (s := withReply (dropChannelExchange x.id s)
    (replyFrame s x.channel x.code (reasonCode q))) hd hg hn hb ha
  have he : refuseOpen w v msg q false s = endPendingSilent w v true (withReply (dropChannelExchange x.id s)
      (replyFrame s x.channel x.code (reasonCode q))) := by
    rw [← closeLinked_room hl hr q]
    rfl
  refine ⟨_, he.trans e, rfl, rfl, put_get_self _ _ _, ?_, rfl, rfl⟩
  rw [hn]
  rfl

/-- An Open whose range is refused leaves an entry in one of its reservations too. -/
theorem refuseOpen_enters (hl : linkedExchange s w = some x) (hr : hasRoom s .W) (hd : grantNumbersDistinct s)
    (hg : g ∈ s.grants.grants) (hn : g.number = v.grant) (hb : g.binding = .pending w) (ha : g.state = .active)
    (h1 : 1 ≤ v.reservations) (hq : s.store.queue.length < 16) (q : Reason) : ∃ t, refuseOpen w v msg q true s = t ∧
      t.exchanges = unlinked w (dropChannelExchange x.id s) ∧
      t.ports = (withReply s (replyFrame s x.channel x.code (reasonCode q))).ports ∧ t.window w = none ∧
      t.grants.grants = grantsWith s g.number (fun y => { y with binding := .none }) ∧
      t.store.queue = s.store.queue ++ [StoreRequest.append (entryNow s
        (.transferRefused (fieldAt msg 2 4) (fieldAt msg 6 4) q) (some v.grant) (some v.slot)
        (some (v.channel, (s.channel v.channel).label)))] := by
  obtain ⟨p, hp⟩ : ∃ p, p = setWindow w (some { v with reservations := v.reservations - 1 })
    (withReply (dropChannelExchange x.id s) (replyFrame s x.channel x.code (reasonCode q))) := ⟨_, rfl⟩
  have hpq : p.store.queue.length < 16 := by
    rw [hp]
    exact hq
  have hentry := writeEntry_room hpq (.transferRefused (fieldAt msg 2 4) (fieldAt msg 6 4) q) (some v.grant) (some v.slot)
    (some v.channel)
  have he : refuseOpen w v msg q true s = endPendingSilent w { v with reservations := v.reservations - 1 } true
      (writeEntry (.transferRefused (fieldAt msg 2 4) (fieldAt msg 6 4) q) (some v.grant) (some v.slot) (some v.channel)
        p) := by
    have hdec : decide (0 < v.reservations) = true := decide_eq_true h1
    unfold refuseOpen
    simp only [if_true, hdec, appendInto_held, closeLinked_room hl hr, hp]
  rw [hentry] at he
  obtain ⟨lamp, e⟩ := endPendingSilent_pending (w := w) (v := { v with reservations := v.reservations - 1 }) (s := { p with
      store := { p.store with queue := p.store.queue ++ [.append (makeEntry p
        (.transferRefused (fieldAt msg 2 4) (fieldAt msg 6 4) q) (some v.grant) (some v.slot) (some v.channel))] }
      record := { p.record with mark := (p.record.mark + 1) % 4294967296, unrecorded := 0 } })
    (by rw [hp]; exact hd) (by rw [hp]; exact hg) hn hb ha
  refine ⟨_, he.trans e, ?_, ?_, put_get_self _ _ _, ?_, ?_⟩
  · rw [hp]
    rfl
  · rw [hp]
    rfl
  · rw [hp, hn]
    rfl
  · rw [hp]
    rfl

/-! ### An Erase (R124) -/

/-- The checks of a complete Erase in their order, with the two numbers it carries. -/
theorem judgeErase_open (hw : x.window = some w) (hv : s.window w = some v) (hrun : v.run = some r)
    (hrange : v.range = some (a, l)) : judgeErase x msg data s =
      if msg.length ≠ 9 then closeDownload x .outOfWindow s
      else if v.state ≠ .active then closeDownload x .condition s
      else if r.erase = false then closeDownload x .sequence s
      else if ¬(1 ≤ fieldAt msg 5 4 ∧ a ≤ fieldAt msg 1 4 ∧ fieldAt msg 1 4 + fieldAt msg 5 4 ≤ a + l) then
        closeDownload x .outOfWindow (refuseTransfer v (fieldAt msg 1 4) (fieldAt msg 5 4) .outOfWindow s)
      else if hitsBars (channelEraseBars s v.channel) (fieldAt msg 1 4) (fieldAt msg 1 4 + fieldAt msg 5 4) then
        abortWindow w .regionBarred .regionBarred true
          (refuseTransfer v (fieldAt msg 1 4) (fieldAt msg 5 4) .regionBarred s)
      else passLast x data s := by
  unfold judgeErase
  simp only [hw, hv, hrun, hrange]
  rfl

theorem erase_fields (code : Byte) (ha : a < 2 ^ 32) (hl : l < 2 ^ 32) :
    fieldAt (code :: (beBytes 4 a ++ beBytes 4 l)) 1 4 = a ∧ fieldAt (code :: (beBytes 4 a ++ beBytes 4 l)) 5 4 = l := by
  obtain ⟨h1, h2⟩ := open_fields code code ha hl
  exact ⟨h1, h2⟩

end Sys2Proof.Machine
end

section
/-! The statement on Download Blocks and on the other steps of a download (R113, R114, R118 to R126). -/

namespace Sys2Proof.Machine

open Sys2Proof Sys2Proof.Safety

variable {s t : State} {f : Frame} {rest : List Frame} {tail : List Byte} {x : ChannelExchange} {w : Fin 2} {v : Window}
  {r : WindowRun} {b : HandBlock} {i : Fin 2} {a n lo len : Nat} {g : Grant} {code : Byte} {P : Ports}

/-! ### The end of a suspension (R125) -/

/-- The condition IGN, the only one missing, ends the suspension of the only open window, whose exchange is pending. -/
structure Resumes (s : State) (w : Fin 2) (v : Window) (x : ChannelExchange) : Prop where
  awake     : s.part.awake = true
  law       : exchangeLaw s
  ignon     : s.lines.ignon = false
  window    : s.window w = some v
  others    : ∀ u, u ≠ w → s.window u = none
  suspended : v.state = .suspended
  linked    : linkedExchange s w = some x
  channel   : x.channel = v.channel
  required  : (s.tables.policies.get 4).required &&& ~~~(conditions s ||| 16) = 0
  replies   : hasRoom s .W
  target    : hasRoom s (netPort (s.channel v.channel).port)

theorem Resumes.pending (h : Resumes s w v x) : channelExchange s v.channel = some x :=
  h.channel ▸ (channelExchange_of_mem h.law (linkedExchange_some h.linked).1).1

theorem Resumes.taken (h : Resumes s w v x) : exec (.ignonChange true) s = .next (resumeWindow w v (ignited s)) :=
  ignon_resumes h.awake h.ignon h.window h.others h.suspended h.required

theorem resumes_sent (h : Resumes s w v x) (hxs : x.state = .stagedHold) (hb : v.inHand = some b) (hi : v.buffer = some i)
    (hclear : ∀ z ∈ channelWriteBars s v.channel, ¬(b.start < z.2 ∧ z.1 < b.start + b.count)) :
    ∃ t y, exec (.ignonChange true) s = .next t ∧
      t.window w = some { v with state := .active, grace := none, hold := none } ∧
      channelExchange t v.channel = some y ∧ y.id = x.id ∧ y.state = .outbound ∧ y.window = some w ∧
      queued t (netPort (s.channel v.channel).port) = queued s (netPort (s.channel v.channel).port) ++
        [frameOf (s.channel v.channel).ids.request (firstData (s.inspector.buffers.get i))] ∧
      t.store = s.store ∧ t.record = s.record := by
  have hgo := h.taken
  rw [resumeWindow_held (by exact h.linked) hxs, checkBlock_clear (by exact hb) (by exact meets_not.2 hclear)] at hgo
  obtain ⟨t, seg, e, -, e2, e3, -, e5⟩ := sendBlock_room (z := setWindow w
    (some { v with state := .active, grace := none, hold := none }) (ignited s)) h.law h.pending h.target
    { v with state := .active, grace := none }
  have hmsg : stagedBytes (setWindow w (some { v with state := .active, grace := none, hold := none }) (ignited s))
      { v with state := .active, grace := none } = s.inspector.buffers.get i := by
    rw [stagedBytes, hi]
    rfl
  refine ⟨t, _, hgo.trans (congrArg _ e), ?_, e2, rfl, rfl, (linkedExchange_some h.linked).2, hmsg ▸ e3, ?_, ?_⟩
  · rw [e5]
    exact setWindow_window_self _ w _
  all_goals rw [e5]; rfl

theorem resumes_barred (h : Resumes s w v x) (hxs : x.state = .stagedHold) (hb : v.inHand = some b) (hrun : v.run = some r)
    (hbar : ∃ z ∈ channelWriteBars s v.channel, b.start < z.2 ∧ z.1 < b.start + b.count) :
    ∃ t, exec (.ignonChange true) s = .next t ∧ t.window w = none ∧ channelExchange t v.channel = none ∧
      t.agent.attention.downloadEnded = true ∧
      queued t (netPort (s.channel v.channel).port) = queued s (netPort (s.channel v.channel).port) ∧
      queued t .W = queued s .W ++ [(replyFrame s v.channel x.code 0xE7).frame] := by
  have hgo := h.taken
  rw [resumeWindow_held (by exact h.linked) hxs, checkBlock_barred (by exact hb) (by exact hbar), refuseTransfer_beside] at hgo
  generalize refuseTransfer _ _ _ _ _ = q at hgo
  obtain ⟨t, e, e1, -, e3, e4, e5, -⟩ := abortWindow_linked (x := x) (r := r) (c := v.channel) (w := w) (s := {
    setWindow w (some { v with state := .active, grace := none, hold := none }) (ignited s) with
      store := q.store, record := q.record }) h.law h.pending h.linked (setWindow_window_self _ w _) hrun h.replies
    .regionBarred .regionBarred
  refine ⟨t, hgo.trans (congrArg _ e), e3, e1, e4, queued_reply_other e5 _, (queued_reply e5).trans ?_⟩
  rw [h.channel]
  rfl

theorem resumes_waits (h : Resumes s w v x) (hxs : x.state = .staging) (hp : x.seg.phase = .paceDue) :
    ∃ t y, exec (.ignonChange true) s = .next t ∧
      t.window w = some { v with state := .active, grace := none, hold := none } ∧
      channelExchange t v.channel = some y ∧ y.id = x.id ∧ y.state = .staging ∧ y.seg.phase = .followsDue ∧
      y.seg.allow = .rest ∧ y.seg.gap = 0 ∧ queued t .W = queued s .W ++
        [frameOf (s.channel v.channel).ids.response [byte 192, byte 0, byte 0]] := by
  have hgo := h.taken
  have hx := h.pending
  rw [resumeWindow_waiting (by exact h.linked) hxs hp, sendProceed_room (by exact h.replies)] at hgo
  refine ⟨_, { x with seg := x.seg.proceed 0 0 s.part.stamp }, hgo, setWindow_window_self _ w _, ?_, rfl, hxs, rfl, rfl,
    rfl, ?_⟩ <;> rw [← h.channel] at hx ⊢
  · exact (setChannelExchange_found (y := { x with seg := x.seg.proceed 0 0 s.part.stamp }) h.law hx rfl rfl _).trans
      (if_pos rfl)
  · exact queued_reply (s := s) (o := toTool s x (paceData 0 0 0) true (.turn s.part.stamp)) rfl

/-! ### The last follow of an Open or of an Erase (R114, R124) -/

/-- The one follow of a request of a download, linked to its window, is at the head of the tool's FIFO. -/
structure LastFollow (s : State) (f : Frame) (rest : List Frame) (tail : List Byte) (x : ChannelExchange) (w : Fin 2)
    (v : Window) : Prop where
  law     : exchangeLaw s
  side    : ToolSide s x.channel f rest
  replies : hasRoom s .W
  target  : hasRoom s (netPort (s.channel x.channel).port)
  pending : channelExchange s x.channel = some x
  linked  : linkedExchange s w = some x
  inbound : x.state = .inbound
  link    : x.window = some w
  window  : s.window w = some v
  channel : v.channel = x.channel
  phase   : x.seg.phase = .followsDue
  next    : x.seg.next = 1
  count   : x.seg.count = 1
  data    : f.data = byte 129 :: tail
  bytes   : 1 ≤ tail.length

/-- The request is answered with a code, and its exchange is gone. -/
def AnsweredBy (s : State) (x : ChannelExchange) (t : State) (n : Nat) : Prop :=
  exec (.routerTakesFrame .W) s = .next t ∧ t.exchanges.length + 1 = s.exchanges.length ∧
    channelExchange t x.channel = none ∧
    queued t (netPort (s.channel x.channel).port) = queued s (netPort (s.channel x.channel).port) ∧
    queued t .W = queued s .W ++ [(replyFrame s x.channel x.code n).frame]

/-- The request has been passed on whole, and its exchange awaits the reply. -/
def PassedOn (s : State) (f : Frame) (x : ChannelExchange) (t : State) : Prop :=
  exec (.routerTakesFrame .W) s = .next t ∧
    queued t (netPort (s.channel x.channel).port) = queued s (netPort (s.channel x.channel).port) ++ [f] ∧
    queued t .W = queued s .W ∧ t.store = s.store ∧ t.record = s.record ∧
    channelExchange t x.channel = some { x with
      state := .awaiting, seg := x.seg.reset, timer := .pendingSend, extended := false, gathered := [] }

/-- The window is gone and its grant unbound. -/
def Undone (s : State) (w : Fin 2) (g : Grant) (t : State) : Prop :=
  t.window w = none ∧ t.grants.grants = grantsWith s g.number (fun y => { y with binding := .none })

/-- The ports after the follow has been taken, from which an answer and a passed frame are offered. -/
structure FollowTaken (s : State) (x : ChannelExchange) (P : Ports) : Prop where
  replies : hasRoom { s with ports := P } .W
  target  : hasRoom { s with ports := P } (netPort (s.channel x.channel).port)
  queuedW : queued { s with ports := P } .W = queued s .W
  queuedT : queued { s with ports := P } (netPort (s.channel x.channel).port) = queued s (netPort (s.channel x.channel).port)

theorem LastFollow.judged (h : LastFollow s f rest tail x w v) (hr : x.role = some .opening ∨ x.role = some .erase) :
    ∃ P, FollowTaken s x P ∧ exec (.routerTakesFrame .W) s =
      .next (lastRequestFrame x (x.gathered ++ tail) f.data { s with ports := P }) := by
  obtain ⟨P, hP, hPW, hPT, hqW, hqT⟩ := tool_split s x.channel rest
  exact ⟨P, ⟨hPW h.replies, hPT h.target, hqW, hqT⟩,
    request_ready h.side h.pending h.inbound h.phase h.next h.count h.data h.bytes hr hP⟩

theorem FollowTaken.answers (hp : FollowTaken s x P) {n : Nat} (e : exec (.routerTakesFrame .W) s = .next t)
    (h1 : t.exchanges.length + 1 = s.exchanges.length) (h2 : channelExchange t x.channel = none)
    (h3 : t.ports = (withReply { s with ports := P } (replyFrame s x.channel x.code n)).ports) : AnsweredBy s x t n :=
  ⟨e, h1, h2, (queued_reply_other h3 _).trans hp.queuedT, (queued_reply h3).trans (congrArg (· ++ _) hp.queuedW)⟩

theorem LastFollow.passes (h : LastFollow s f rest tail x w v) (hp : FollowTaken s x P) {z : State}
    (hz : z = { s with ports := P, inspector := z.inspector })
    (e : exec (.routerTakesFrame .W) s = .next (passLast x f.data z)) :
    ∃ t, PassedOn s f x t ∧ t.inspector = z.inspector ∧ t.grants = s.grants := by
  obtain ⟨t, e0, -, e2, e3, e4, e5⟩ := passLast_taken h.side (z := z) (by rw [hz]; exact h.law) (by rw [hz]; exact h.pending)
    (by rw [hz]) (by rw [hz]; exact hp.target)
  refine ⟨t, ⟨e.trans (congrArg _ e0), ?_, ?_, ?_, ?_, e2⟩, ?_, ?_⟩
  · rw [e3, hz]
    exact congrArg (· ++ _) hp.queuedT
  · rw [e4, hz]
    exact hp.queuedW
  all_goals rw [e5, hz]

theorem LastFollow.gone (h : LastFollow s f rest tail x w v)
    (ht : t.exchanges = unlinked w (dropChannelExchange x.id { s with ports := P })) :
    t.exchanges.length + 1 = s.exchanges.length ∧ channelExchange t x.channel = none := by
  refine ⟨by rw [ht]; exact dropped_length h.pending _ rfl w, ?_⟩
  have := channelExchange_unlink (channelExchange_dropped h.law h.pending) w
  unfold channelExchange at this ⊢
  rw [ht]
  exact this

/-! ### An Open (R114) -/

/-- The follow completes an Open, of a window and a grant that wait for it. -/
structure LastOfOpen (s : State) (f : Frame) (rest : List Frame) (tail : List Byte) (x : ChannelExchange) (w : Fin 2)
    (v : Window) (g : Grant) : Prop extends LastFollow s f rest tail x w v where
  role     : x.role = some .opening
  grant    : g ∈ s.grants.grants
  distinct : grantNumbersDistinct s
  number   : g.number = v.grant
  binding  : g.binding = .pending w
  active   : g.state = .active
  reserved : 1 ≤ v.reservations
  store    : s.store.queue.length < 16

theorem LastOfOpen.judged (h : LastOfOpen s f rest tail x w v g) : ∃ P, FollowTaken s x P ∧
    exec (.routerTakesFrame .W) s = .next (judgeOpen x (x.gathered ++ tail) f.data { s with ports := P }) := by
  obtain ⟨P, hp, hgo⟩ := h.toLastFollow.judged (.inl h.role)
  refine ⟨P, hp, ?_⟩
  rw [hgo, lastRequestFrame, h.role]

/-- A refusal over the range that was asked for, with its entry in a reservation of the window. -/
theorem open_enters (h : LastOfOpen s f rest tail x w v g) {q : Reason}
    (hq : openRefusal s x.channel (x.gathered ++ tail) = some (q, true)) :
    ∃ t, AnsweredBy s x t (reasonCode q) ∧ Undone s w g t ∧
      t.store.queue = s.store.queue ++ [StoreRequest.append (entryNow s (.transferRefused
        (fieldAt (x.gathered ++ tail) 2 4) (fieldAt (x.gathered ++ tail) 6 4) q) (some v.grant) (some v.slot)
        (some (x.channel, (s.channel x.channel).label)))] := by
  obtain ⟨P, hp, hgo⟩ := h.judged
  rw [judgeOpen_refused (s := { s with ports := P }) h.link h.window hq] at hgo
  obtain ⟨t, e, e1, e2, e3, e4, e5⟩ := refuseOpen_enters (s := { s with ports := P }) (msg := x.gathered ++ tail) h.linked
    hp.replies h.distinct h.grant h.number h.binding h.active h.reserved h.store q
  obtain ⟨k1, k2⟩ := h.gone e1
  refine ⟨t, hp.answers (hgo.trans (congrArg _ e)) k1 k2 e2, ⟨e3, e4⟩, ?_⟩
  rw [e5, h.channel]
  rfl

theorem open_wrongLength (h : LastOfOpen s f rest tail x w v g) (hlen : (x.gathered ++ tail).length ≠ 10) :
    ∃ t, AnsweredBy s x t 0xE8 ∧ Undone s w g t ∧ t.store = s.store ∧ t.record = s.record := by
  obtain ⟨P, hp, hgo⟩ := h.judged
  rw [judgeOpen_refused (s := { s with ports := P }) h.link h.window (openRefusal_length hlen)] at hgo
  obtain ⟨t, e, e1, e2, e3, e4, e5, e6⟩ := refuseOpen_leaves (s := { s with ports := P }) (msg := x.gathered ++ tail)
    h.linked hp.replies h.distinct h.grant h.number h.binding h.active .outOfWindow
  obtain ⟨k1, k2⟩ := h.gone e1
  exact ⟨t, hp.answers (hgo.trans (congrArg _ e)) k1 k2 e2, ⟨e3, e4⟩, e5, e6⟩

theorem open_passed (h : LastOfOpen s f rest tail x w v g)
    (hq : openRefusal s x.channel (x.gathered ++ tail) = none) : ∃ t, PassedOn s f x t ∧
      t.window w = some { v with range := some (fieldAt (x.gathered ++ tail) 2 4, fieldAt (x.gathered ++ tail) 6 4) } ∧
      t.grants = s.grants := by
  obtain ⟨P, hp, hgo⟩ := h.judged
  rw [judgeOpen_passed (s := { s with ports := P }) h.link h.window hq] at hgo
  obtain ⟨t, e1, e2, e3⟩ := h.passes hp rfl hgo
  refine ⟨t, e1, ?_, e3⟩
  unfold State.window
  rw [e2]
  exact put_get_self _ _ _

/-! ### An Erase (R124) -/

/-- The follow completes an Erase, on a window that is open for it. -/
structure LastOfErase (s : State) (f : Frame) (rest : List Frame) (tail : List Byte) (x : ChannelExchange) (w : Fin 2)
    (v : Window) (r : WindowRun) (lo len : Nat) : Prop extends LastFollow s f rest tail x w v where
  role  : x.role = some .erase
  run   : v.run = some r
  range : v.range = some (lo, len)
  state : v.state = .active ∨ v.state = .suspended

theorem LastOfErase.judged (h : LastOfErase s f rest tail x w v r lo len) : ∃ P, FollowTaken s x P ∧
    exec (.routerTakesFrame .W) s = .next (judgeErase x (x.gathered ++ tail) f.data { s with ports := P }) := by
  obtain ⟨P, hp, hgo⟩ := h.toLastFollow.judged (.inr h.role)
  refine ⟨P, hp, ?_⟩
  rw [hgo, lastRequestFrame, h.role]

/-- A refusal after which the window goes on. -/
theorem LastOfErase.leaves (h : LastOfErase s f rest tail x w v r lo len) (hp : FollowTaken s x P) (q : Reason) {z : State}
    (hz : z = { s with ports := P, store := z.store, record := z.record })
    (e : exec (.routerTakesFrame .W) s = .next (closeDownload x q z)) :
    ∃ t, AnsweredBy s x t (reasonCode q) ∧ t.window w = some (unlinkedWindow v) ∧ t.store = z.store ∧
      t.record = z.record := by
  have hc := closeDownload_leaves (s := z) h.link (by rw [hz]; exact h.window) h.state (by rw [hz]; exact hp.replies) q
  have hd := closed_dropped (t := dropChannelExchange x.id s) h.law h.pending rfl
  refine ⟨_, hp.answers (e.trans (congrArg _ hc)) ?_ ?_ ?_, setWindow_window_self _ w _, rfl, rfl⟩ <;> rw [hz]
  · exact hd.2
  · exact hd.1
  · rfl

theorem erase_wrongLength (h : LastOfErase s f rest tail x w v r lo len) (hlen : (x.gathered ++ tail).length ≠ 9) :
    ∃ t, AnsweredBy s x t 0xE8 ∧ t.window w = some (unlinkedWindow v) ∧ t.store = s.store := by
  obtain ⟨P, hp, hgo⟩ := h.judged
  rw [judgeErase_open (s := { s with ports := P }) h.link h.window h.run h.range, if_pos hlen] at hgo
  obtain ⟨t, e1, e2, e3, -⟩ := h.leaves hp .outOfWindow rfl hgo
  exact ⟨t, e1, e2, e3⟩

/-- The Erase names a range. -/
structure EraseOf (s : State) (f : Frame) (rest : List Frame) (tail : List Byte) (x : ChannelExchange) (w : Fin 2)
    (v : Window) (r : WindowRun) (lo len : Nat) (code : Byte) (a n : Nat) : Prop
    extends LastOfErase s f rest tail x w v r lo len where
  message : x.gathered ++ tail = code :: (beBytes 4 a ++ beBytes 4 n)
  start   : a < 2 ^ 32
  extent  : n < 2 ^ 32

theorem EraseOf.judged (h : EraseOf s f rest tail x w v r lo len code a n) : ∃ P, FollowTaken s x P ∧
    exec (.routerTakesFrame .W) s = .next (
      if v.state ≠ .active then closeDownload x .condition { s with ports := P }
      else if r.erase = false then closeDownload x .sequence { s with ports := P }
      else if ¬(1 ≤ n ∧ lo ≤ a ∧ a + n ≤ lo + len) then
        closeDownload x .outOfWindow (refuseTransfer v a n .outOfWindow { s with ports := P })
      else if hitsBars (channelEraseBars s x.channel) a (a + n) then
        abortWindow w .regionBarred .regionBarred true (refuseTransfer v a n .regionBarred { s with ports := P })
      else passLast x f.data { s with ports := P }) := by
  obtain ⟨P, hp, hgo⟩ := h.toLastOfErase.judged
  obtain ⟨hfa, hfn⟩ := erase_fields code h.start h.extent
  have hlen : (x.gathered ++ tail).length = 9 := by rw [h.message]; simp [beBytes_four]
  rw [judgeErase_open (s := { s with ports := P }) h.link h.window h.run h.range, if_neg (not_not.2 hlen), h.message, hfa,
    hfn, h.channel] at hgo
  exact ⟨P, hp, hgo⟩

theorem erase_suspended (h : EraseOf s f rest tail x w v r lo len code a n) (hst : v.state = .suspended) :
    ∃ t, AnsweredBy s x t 0xE2 ∧ t.window w = some (unlinkedWindow v) ∧ t.store = s.store := by
  obtain ⟨P, hp, hgo⟩ := h.judged
  rw [if_pos (by rw [hst]; decide)] at hgo
  obtain ⟨t, e1, e2, e3, -⟩ := h.leaves hp .condition rfl hgo
  exact ⟨t, e1, e2, e3⟩

theorem erase_notPermitted (h : EraseOf s f rest tail x w v r lo len code a n) (hst : v.state = .active)
    (her : r.erase = false) :
    ∃ t, AnsweredBy s x t 0xE9 ∧ t.window w = some (unlinkedWindow v) ∧ t.store = s.store := by
  obtain ⟨P, hp, hgo⟩ := h.judged
  rw [if_neg (not_not.2 hst), if_pos her] at hgo
  obtain ⟨t, e1, e2, e3, -⟩ := h.leaves hp .sequence rfl hgo
  exact ⟨t, e1, e2, e3⟩

theorem erase_outside (h : EraseOf s f rest tail x w v r lo len code a n) (hst : v.state = .active)
    (her : r.erase = true) (hout : ¬(1 ≤ n ∧ lo ≤ a ∧ a + n ≤ lo + len)) :
    ∃ t q, AnsweredBy s x t 0xE8 ∧ t.window w = some (unlinkedWindow v) ∧
      noted s (.transferRefused a n .outOfWindow) (some v.grant) (some v.slot)
        (some (x.channel, (s.channel x.channel).label)) q ∧ t.store = q.store ∧ t.record = q.record := by
  obtain ⟨P, hp, hgo⟩ := h.judged
  rw [if_neg (not_not.2 hst), if_neg (by rw [her]; decide), if_pos hout, refuseTransfer_beside] at hgo
  obtain ⟨t, e1, e2, e3, e4⟩ := h.leaves hp .outOfWindow rfl hgo
  have hsame := appendEntry_on_same (z := { s with ports := P }) (s := s) rfl rfl rfl rfl
    (.transferRefused a n .outOfWindow) (some v.grant) (some v.slot) x.channel
  refine ⟨t, appendEntry (.transferRefused a n .outOfWindow) (some v.grant) (some v.slot) (some x.channel) s, e1, e2,
    appendEntry_on _ _ _ _ s, ?_, ?_⟩
  · rw [e3, refuseTransfer, h.channel, hsame]
  · rw [e4, refuseTransfer, h.channel, hsame]

theorem erase_barred (h : EraseOf s f rest tail x w v r lo len code a n) (hst : v.state = .active) (her : r.erase = true)
    (hin : 1 ≤ n ∧ lo ≤ a ∧ a + n ≤ lo + len) (hbar : ∃ z ∈ channelEraseBars s x.channel, a < z.2 ∧ z.1 < a + n) :
    ∃ t, AnsweredBy s x t 0xE7 ∧ t.window w = none ∧ t.agent.attention.downloadEnded = true := by
  obtain ⟨P, hp, hgo⟩ := h.judged
  rw [if_neg (not_not.2 hst), if_neg (by rw [her]; decide), if_neg (not_not.2 hin), if_pos (hitsBars_iff.2 hbar),
    refuseTransfer_beside] at hgo
  generalize refuseTransfer _ _ _ _ _ = q at hgo
  obtain ⟨t, e, e1, e2, e3, e4, e5, -⟩ := abortWindow_linked (s := { s with
    ports := P, store := q.store, record := q.record }) h.law h.pending h.linked h.window h.run hp.replies
    .regionBarred .regionBarred
  exact ⟨t, hp.answers (hgo.trans (congrArg _ e)) e2 e1 e5, e3, e4⟩

theorem erase_passed (h : EraseOf s f rest tail x w v r lo len code a n) (hst : v.state = .active) (her : r.erase = true)
    (hin : 1 ≤ n ∧ lo ≤ a ∧ a + n ≤ lo + len) (hclear : ∀ z ∈ channelEraseBars s x.channel, ¬(a < z.2 ∧ z.1 < a + n)) :
    ∃ t, PassedOn s f x t ∧ t.window w = some v := by
  obtain ⟨P, hp, hgo⟩ := h.judged
  rw [if_neg (not_not.2 hst), if_neg (by rw [her]; decide), if_neg (not_not.2 hin),
    if_neg fun e => meets_not.2 hclear (hitsBars_iff.1 e)] at hgo
  obtain ⟨t, e1, e2, -⟩ := h.passes hp rfl hgo
  refine ⟨t, e1, ?_⟩
  unfold State.window
  rw [e2]
  exact h.window

/-! ### The statement -/

/-- Settles O41, part by part. -/
theorem blockLeavesOnlyThroughItsCheck : Obligations.BlockLeavesOnlyThroughItsCheck := by
  unfold Obligations.BlockLeavesOnlyThroughItsCheck
  refine ⟨?_, ?_, ?_, ?_, ?_, ?_, ?_, ?_⟩
  · intro c f rest code k bytes w v r p s hs h hW hp hT hd h1 h5 hx hcls hwin hl hva hrun hk hmax hrem
    subst hp
    obtain ⟨z, i, hgo, hj, hex⟩ := unit_ready hs h hW hT hd hx hcls hwin hl
    have hb : blockPasses r k.toNat bytes.length
        { start := r.next, count := bytes.length, counter := k.toNat, again := false } := .inl ⟨hk, h1, hmax, hrem, rfl⟩
    refine ⟨fun hclear => ?_, fun hbar => ?_⟩
    · obtain ⟨t, seg, e, e1, -, e3, e4, e5, -, e7, e8, e9⟩ := judged_sent hj hrun hb hva (meets_not.2 hclear)
      refine ⟨t, { stepExchange s c code .block w .staging with state := .outbound, seg := seg, gapTimer := none }, i,
        hgo.trans (congrArg _ e), ?_, rfl, rfl, rfl, rfl, rfl, ?_, e3, ?_, e7, e8, e9⟩
      · rw [e1, hex]
        exact exchanges_joined (x := stepExchange s c code .block w .staging)
          (y := { stepExchange s c code .block w .staging with state := .outbound, seg := seg, gapTimer := none }) hs rfl rfl
      · rw [e5, unit_frame h hd (by simp only [List.length_cons]; omega)]
      · rw [e4]
        exact hj.staged
    · obtain ⟨t, e, -, e2, e3, e4, e5, e6, -⟩ := judged_barred hj hrun hb hva hbar
      refine ⟨t, hgo.trans (congrArg _ e), ?_, e5, e3, e4, e6⟩
      rw [hex, List.length_append, List.length_singleton] at e2
      omega
  · intro c f rest w v r code k bytes p s hB hp
    subst hp
    obtain ⟨z, x, idle, i, hgo, hj⟩ := block_ready hB
    have hrun := hB.run
    refine ⟨fun b hb => ⟨fun hst => ?_, fun hst hclear => ?_, fun hst hbar => ?_⟩, fun hout => ?_, fun hne hk hd => ?_⟩
    · obtain ⟨t, y, e, hy, e1, e2, e3, e4, e5, e6⟩ := judged_held hj hrun hb hst
      refine ⟨t, y, _, i, hgo.trans (congrArg _ e), e1, ?_, ?_, ?_, ?_, e2, hst, hrun, rfl, rfl, rfl, ?_, ?_, ?_, e5, e6⟩
      · rw [hy]
        exact hj.serves
      · rw [hy]
      · rw [hy]
        exact hj.role
      · rw [hy]
        exact hj.link
      · rw [e3]
        exact hj.staged
      · rw [queued_of_ports e4, hj.target]
      · rw [queued_of_ports e4, hj.replies]
    · obtain ⟨t, seg, e, -, e2, e3, -, e5, e6, -, e8, e9⟩ := judged_sent hj hrun hb hst (meets_not.2 hclear)
      exact ⟨t, _, _, hgo.trans (congrArg _ e), e2, hj.serves, rfl, hj.role, hj.link, e3, hst, hrun, rfl, e5, e6, e8, e9⟩
    · obtain ⟨t, e, e1, -, e3, e4, e5, e6, e7⟩ := judged_barred hj hrun hb hst hbar
      exact ⟨t, hgo.trans (congrArg _ e), e1, e3, e4, e5, e6, e7⟩
    · obtain ⟨t, q, e, e1, e2, e3, e4, e5, e6, e7⟩ := judged_outOfWindow hj hrun hB.state hout
      exact ⟨t, q, hgo.trans (congrArg _ e), e1, e2, e3, e4, e5, e6, e7⟩
    · obtain ⟨t, e, e1, e2, e3, e4, e5, e6⟩ := judged_sequence hj hrun hB.state hne hk hd
      exact ⟨t, hgo.trans (congrArg _ e), e1, e2, e3, e4, e5, e6⟩
  · intro c f rest code more n w v s hs h hW hT hd h1 h63 hm hx hcls hwin hst
    obtain ⟨P, hP⟩ := lead_ready h hT hd h1 h63 hm hx hcls hwin
    obtain ⟨hW', hqW, hgo⟩ := hP hW
    have hv := (windowOn_some hwin).1
    have hfree := freeBuffer_stepOpened (s := { s with ports := P }) hv (stepExchange s c code .block w .staging)
    obtain ⟨hlead1, hlead2⟩ := stageFirst_lead (stepExchange s c code .block w .staging) w { v with idle := none } n
      (code :: more) (stepOpened (stepExchange s c code .block w .staging) w v { s with ports := P })
    obtain hst | hst := hst
    · rw [hlead2 (by rw [hst]; decide), sendProceed_room (by exact hW')] at hgo
      refine ⟨_, { stepExchange s c code .block w .staging with
        seg := (Seg.fresh.lead n 0).proceed 0 0 (s.part.stamp + 1) }, freeBuffer (stepOpened (stepExchange s c code .block w
          .staging) w v { s with ports := P }), hgo, ?_, rfl, rfl, rfl, rfl, rfl, rfl, rfl, rfl, put_get_self _ _ _, hfree,
        fun _ => ⟨rfl, rfl, rfl, setWindow_window_self _ w _, ?_⟩, fun e => absurd (hst.symm.trans e) (by decide)⟩
      · refine (modifyFirst_modifyFirst (isChannel_self { stepExchange s c code .block w .staging with
          seg := Seg.fresh.lead n 0 }) _).trans ?_
        exact exchanges_joined (x := stepExchange s c code .block w .staging) (y := { stepExchange s c code .block w .staging
          with seg := (Seg.fresh.lead n 0).proceed 0 0 (s.part.stamp + 1) }) hs rfl rfl
      · exact (queued_reply (s := { s with ports := P }) (o := toTool s (stepExchange s c code .block w .staging)
          (paceData 0 0 0) true (.turn (s.part.stamp + 1))) rfl).trans (congrArg (· ++ _) hqW)
    · rw [hlead1 hst, sendWait_room (by exact hW')] at hgo
      refine ⟨_, { stepExchange s c code .block w .staging with seg := Seg.fresh.lead n 0 }, freeBuffer (stepOpened
        (stepExchange s c code .block w .staging) w v { s with ports := P }), hgo, ?_, rfl, rfl, rfl, rfl, rfl, rfl, rfl, rfl,
        put_get_self _ _ _, hfree, fun e => absurd (hst.symm.trans e) (by decide), fun _ => ⟨rfl,
        setWindow_window_self _ w _, ?_⟩⟩
      · exact exchanges_joined (x := stepExchange s c code .block w .staging) (y := { stepExchange s c code .block w .staging
          with seg := Seg.fresh.lead n 0 }) hs rfl rfl
      · exact (queued_reply (s := { s with ports := P }) (o := toTool s (stepExchange s c code .block w .staging)
          (paceData 0 1 0) true .plain) rfl).trans (congrArg (· ++ _) hqW)
  · intro c f rest i bytes x w v b s hs h hx hst hw hv hb hp hal hi hlt h63 hd hlen
    have hread : readSsx x.seg.count f.data = .follow i bytes := by
      rw [hd]
      exact readSsx_follow (by omega) (by omega) fun _ => hlen
    have hstage := (stagingFrame_follow (s := taken s .W rest) (bytes := bytes) hw (by exact hv) hb hp hi).2 (Nat.ne_of_lt hlt)
    have hseg : x.seg.follow bytes.length 0 = { x.seg with
        next := i + 1, len := x.seg.len + 7, timer := some 1000 } := by
      rw [followSeg_more (.inl ⟨hal, rfl⟩), hi, hlen, ← hal]
    rw [tool_pending h hx, toolPending_staging hst hread, hstage, hseg, gathered, stagedBytes, hb]
    rfl
  · intro c f rest x s hx
    refine ⟨fun ctl more w v hs h hW hd hctl hst hrole hw hv hvs => ?_, fun p h hst hp => ?_⟩
    · obtain rfl : x.channel = c := (channelExchange_some hx).2
      obtain ⟨P, hP, hPW, -, hqW, -⟩ := tool_split s x.channel rest
      have hgo := tool_pending h hx
      rw [toolPending_held hst hd hctl, hP, closeExchange_leaves (s := { s with ports := P }) hw hv hvs (hPW hW)] at hgo
      exact ⟨_, hgo, rfl, setWindow_window_self _ w _, (queued_reply (s := { s with ports := P }) rfl).trans
        (congrArg (· ++ _) hqW), rfl, rfl⟩
    · obtain rfl : x.channel = c := (channelExchange_some hx).2
      subst hp
      rw [controller_pending h hx, controllerPending_staged hst]
      unfold dropLate targetPort
      rw [setPort_channel, count_eq, setPort_port_self, setPort_setPort]
      rfl
  · intro w v x i b p s ha hs hign hv hother hst hl hxc hreq hW hp hT
    subst hp
    have h : Resumes s w v x := ⟨ha, hs, hign, hv, hother, hst, hl, hxc, hreq, hW, hT⟩
    refine ⟨fun hxs hb hi hclear => resumes_sent h hxs hb hi hclear, fun hxs hb hrun hbar => ?_,
      fun hxs hp => resumes_waits h hxs hp⟩
    obtain ⟨r, hr⟩ := Option.ne_none_iff_exists'.1 hrun
    exact resumes_barred h hxs hb hr hbar
  · intro c f rest code more w v r p s hs h hW hp hT hx hd hwin hrun hcls hst
    subst hp
    obtain ⟨P, hP, hPW, hPT, hqW, hqT⟩ := tool_split s c rest
    have hgo := close_ready h hT.1 hd hx hcls hwin hP
    have hrem : endRemaining { v with idle := none } = r.remaining := by rw [endRemaining, hrun]
    rw [judgeClose_open (x := stepExchange s c code .closing w .inbound) rfl (stepOpened_window _ w v _), hrem] at hgo
    obtain ⟨hlaw, hfound⟩ := stepOpened_law (s := { s with ports := P }) (code := code) (role := .closing) (w := w) (v := v)
      hs hx .inbound
    refine ⟨fun hne => ?_, fun h0 => ?_⟩
    · rw [if_pos hne, closeDownload_leaves (x := stepExchange s c code .closing w .inbound) rfl (stepOpened_window _ w v _)
        hst (by exact hPW hW)] at hgo
      refine ⟨_, hgo, joined_eraseP (x := stepExchange s c code .closing w .inbound) hs rfl, setWindow_window_self _ w _,
        ?_, ?_, rfl⟩
      · exact (queued_reply_other (s := { s with ports := P }) (o := replyFrame s c code 0xEA) rfl _).trans hqT
      · exact (queued_reply (s := { s with ports := P }) (o := replyFrame s c code 0xEA) rfl).trans (congrArg (· ++ _) hqW)
    · rw [if_neg (not_not.2 h0)] at hgo
      obtain ⟨t, e, e1, -, e3, -, e5⟩ := passLast_taken h (z := setWindow w
        (some { v with state := .closing, grace := none, idle := none, hold := none })
        (stepOpened (stepExchange s c code .closing w .inbound) w v { s with ports := P })) hlaw hfound rfl (hPT hT)
      refine ⟨t, requestDone (stepExchange s c code .closing w .inbound), hgo.trans (congrArg _ e), ?_, rfl, rfl, rfl, rfl,
        rfl, rfl, ?_, e3.trans (congrArg (· ++ _) hqT), ?_⟩
      · exact e1.trans (exchanges_joined (x := stepExchange s c code .closing w .inbound)
          (y := requestDone (stepExchange s c code .closing w .inbound)) hs rfl rfl)
      · rw [e5]
        exact setWindow_window_self _ w _
      · rw [e5]
        rfl
  · intro c f rest tail msg x w v p s hs h hW hp hT hx hl hst hw hv hch hph hnx hct hd h1 h7 hmsg refused hrefused passed
      hpassed
    subst hp hmsg
    obtain rfl : x.channel = c := (channelExchange_some hx).2
    obtain rfl : refused = AnsweredBy s x := funext₂ fun t n => propext (hrefused t n)
    obtain rfl : passed = PassedOn s f x := funext fun t => propext (hpassed t)
    have hlast : LastFollow s f rest tail x w v := ⟨hs, h, hW, hT, hx, hl, hst, hw, hv, hch, hph, hnx, hct, hd, h1⟩
    refine ⟨fun code area a l g m hrole hvs hg hdist hgn hgb hga hres hq ha hlt hm undone hundone => ?_,
      fun code a n lo len r hrole hrun hrange hvs ha hn kept hkept => ?_⟩
    · obtain rfl : undone = Undone s w g := funext fun t => propext (hundone t)
      have hopen : LastOfOpen s f rest tail x w v g := ⟨hlast, hrole, hg, hdist, hgn, hgb, hga, hres, hq⟩
      refine ⟨fun hlen => open_wrongLength hopen hlen, fun hmsg inside hits hinside hhits => ?_⟩
      obtain ⟨hfa, hfl⟩ := open_fields code area ha hlt
      have hlen : (x.gathered ++ tail).length = 10 := by rw [hmsg]; simp [beBytes_four]
      rw [← hmsg] at hfa hfl
      have hin : inside ↔ openInside (s.tables.maps.get x.channel) (fieldAt (x.gathered ++ tail) 2 4)
          (fieldAt (x.gathered ++ tail) 6 4) := by
        rw [hfa, hfl, ← hm]
        exact hinside
      have hbar : hits ↔ hitsBars (channelWriteBars s x.channel) (fieldAt (x.gathered ++ tail) 2 4)
          (fieldAt (x.gathered ++ tail) 2 4 + fieldAt (x.gathered ++ tail) 6 4) = true := by
        rw [hfa, hfl, hitsBars_iff]
        exact hhits
      refine ⟨fun hout => ?_, fun hi hb => ?_, fun hi hb => ?_⟩ <;> rw [← hfa, ← hfl]
      · exact open_enters hopen (openRefusal_outside hlen fun e => hout (hin.2 e))
      · exact open_enters hopen ((openRefusal_inside hlen (hin.1 hi)).trans (if_pos (hbar.1 hb)))
      · exact open_passed hopen ((openRefusal_inside hlen (hin.1 hi)).trans (if_neg fun e => hb (hbar.2 e)))
    · have herase : LastOfErase s f rest tail x w v r lo len := ⟨hlast, hrole, hrun, hrange, hvs⟩
      obtain rfl : kept = fun t => t.window w = some (unlinkedWindow v) := funext fun t => propext (hkept t)
      refine ⟨fun hlen => erase_wrongLength herase hlen, fun hmsg => ?_⟩
      have h : EraseOf s f rest tail x w v r lo len code a n := ⟨herase, hmsg, ha, hn⟩
      exact ⟨erase_suspended h, erase_notPermitted h, erase_outside h, fun hact her hn1 hlo hhi =>
        ⟨erase_barred h hact her ⟨hn1, hlo, hhi⟩, erase_passed h hact her ⟨hn1, hlo, hhi⟩⟩⟩

end Sys2Proof.Machine
end

section
/-! What leaves the windows and the channels' exchanges alone: offers, appends, the grants' table, the management
messages, and the requests they serve. -/

namespace Sys2Proof.Machine

open Sys2Proof Sys2Proof.Safety

variable {s t u : State} {m : Mgmt} {g : Grant} {x : MgmtExchange}

/-! ### The relation -/

/-- Two states with the same windows and the same records of the channels' exchanges. -/
structure Beside (s t : State) : Prop where
  windows : ∀ w, t.window w = s.window w
  records : channelRecords t = channelRecords s

theorem Beside.refl (s : State) : Beside s s := ⟨fun _ => rfl, rfl⟩

theorem Beside.trans (h : Beside s t) (k : Beside t u) : Beside s u :=
  ⟨fun w => (k.windows w).trans (h.windows w), k.records.trans h.records⟩

theorem beside_of (hi : ∀ w, t.window w = s.window w)
    (hx : t.exchanges = s.exchanges) : Beside s t := ⟨hi, by rw [channelRecords, hx]; rfl⟩

/-! ### Ports, appends and grants -/

theorem beside_setPort (p : Port) (x : PortState) (s : State) : Beside s (s.setPort p x) := by cases p <;> exact beside_of (fun _ => rfl) rfl

theorem beside_count (p : Port) (f : Counters → Counters) (s : State) : Beside s (s.count p f) := beside_setPort p _ s

theorem beside_setCredit (n : Net) (v : Nat) (s : State) : Beside s (s.setCredit n v) := by cases n <;> exact beside_of (fun _ => rfl) rfl

theorem beside_testHead (n : Net) (s : State) : Beside s (testHead n s) := by
  rw [testHead_touches]
  exact beside_of (fun _ => rfl) rfl

theorem beside_testPort (p : Port) (s : State) : Beside s (testPort p s) := by
  rw [testPort_touches]
  exact beside_of (fun _ => rfl) rfl

theorem beside_offerState (p : Port) (f : OutFrame) (s : State) : Beside s (offerState p f s) := by
  rw [offerState_touches]
  exact beside_of (fun _ => rfl) rfl

theorem beside_gatewayReply (c : Fin 16) (code : Byte) (r : Nat) (s : State) : Beside s (gatewayReply c code r s) :=
  beside_offerState _ _ s

theorem beside_writeEntry (d : Detail) (g : Option Nat) (k : Option (Fin 8)) (c : Option (Fin 16)) (s : State) :
    Beside s (writeEntry d g k c s) := by
  obtain ⟨q, m, n, e, -⟩ := writeEntry_shape d g k c s
  rw [e]
  exact beside_of (fun _ => rfl) rfl

theorem beside_appendEntry (d : Detail) (g : Option Nat) (k : Option (Fin 8)) (c : Option (Fin 16)) (s : State) :
    Beside s (appendEntry d g k c s) := by
  obtain ⟨q, m, n, e, -⟩ := appendEntry_shape d g k c s
  rw [e]
  exact beside_of (fun _ => rfl) rfl

theorem beside_appendInto (b : Bool) (d : Detail) (g : Option Nat) (k : Option (Fin 8)) (c : Option (Fin 16))
    (s : State) : Beside s (appendInto b d g k c s) :=
  beside_of (fun _ => window_of_inspector (appendInto_inspector _ _ _ _ _ _)) (appendInto_exchanges _ _ _ _ _ _)

theorem beside_refuseTransfer (v : Window) (i n : Nat) (r : Reason) (s : State) : Beside s (refuseTransfer v i n r s) :=
  beside_appendEntry _ _ _ _ s

theorem beside_grantClose (g : Grant) (cause : CloseCause) (s : State) : Beside s (grantClose g cause s) :=
  beside_of (fun w => grantClose_window g cause s w) (grantClose_exchanges g cause s)

theorem beside_reportEndedActive (g : Nat) (w : Fin 2) (s : State) : Beside s (reportEndedActive g w s) := by
  unfold reportEndedActive
  split
  · split
    · dsimp only
      split
      · exact .trans (beside_of (t := updateGrant g _ s) (fun _ => rfl) rfl) (beside_grantClose _ _ _)
      · split
        · exact .trans (beside_of (t := updateGrant g _ s) (fun _ => rfl) rfl) (beside_grantClose _ _ _)
        · exact beside_of (fun _ => rfl) rfl
    · exact .refl s
  · exact .refl s

theorem beside_reportEndedUnactivated (g : Nat) (w : Fin 2) (s : State) : Beside s (reportEndedUnactivated g w s) := by
  unfold reportEndedUnactivated
  split
  · split
    · dsimp only
      split
      · exact .trans (beside_of (t := updateGrant g _ s) (fun _ => rfl) rfl) (beside_grantClose _ _ _)
      · exact beside_of (fun _ => rfl) rfl
    · exact .refl s
  · exact .refl s

/-! ### The records of management exchanges -/

theorem beside_answer (n : Nat) (reply : List Byte) (s : State) : Beside s (answer n reply s) :=
  ⟨fun _ => rfl, modifyFirst_filterMap _ _ _ (fun e _ => by cases e <;> rfl) _⟩

theorem beside_setMgmt (x : MgmtExchange) (s : State) : Beside s (setMgmtExchange x s) :=
  ⟨fun _ => rfl, channelRecords_setMgmt x s⟩

theorem beside_setMgmtStamp (x : MgmtExchange) (s : State) : Beside s (nextStamp (setMgmtExchange x s)) :=
  (beside_setMgmt x s).trans (beside_of (fun _ => rfl) rfl)

theorem beside_joinMgmt (x : MgmtExchange) (s : State) : Beside s (joinMgmt x s) := by
  refine ⟨fun _ => rfl, ?_⟩
  rw [channelRecords, joinMgmt_exchanges, List.filterMap_append]
  exact List.append_nil _

theorem beside_closeMgmt (n : Nat) (s : State) : Beside s (closeMgmt n s) := by
  refine ⟨fun _ => rfl, ?_⟩
  rw [channelRecords, closeMgmt_exchanges, channelRecords]
  induction s.exchanges with
  | nil => rfl
  | cons e l ih =>
    cases e with
    | channel y => exact congrArg (y :: ·) ih
    | management y =>
      by_cases h : isMgmt n (.management y) = true
      · rw [List.eraseP_cons_of_pos h]
        rfl
      · rw [List.eraseP_cons_of_neg h]
        exact ih

theorem beside_setSide (m : Mgmt) (x : Side) (s : State) : Beside s (setSide m x s) := by cases m <;> exact beside_of (fun _ => rfl) rfl

theorem beside_refuse (x : MgmtExchange) (r : Refuse) (s : State) : Beside s (refuse x r s) := beside_answer _ _ s

theorem beside_accept (x : MgmtExchange) (fields : List Byte) (s : State) : Beside s (accept x fields s) :=
  beside_answer _ _ s

theorem beside_setWork (x : MgmtExchange) (w : Work) (s : State) : Beside s (setWork x w s) := beside_setMgmt _ s

theorem beside_answerProof (n : Nat) (reply : List Byte) (s : State) : Beside s (answerProof n reply s) := by
  unfold answerProof
  split
  · split
    · exact beside_answer _ _ s
    · exact .refl s
  · exact .refl s

/-! ### Management messages (R53, R152, R153) -/

theorem beside_mgmtLost (m : Mgmt) (part : MgmtPart) (owner : Nat) (s : State) : Beside s (mgmtLost m part owner s) := by
  cases part
  · exact (beside_closeMgmt owner s).trans (beside_of (fun _ => rfl) rfl)
  · exact beside_setSide _ _ s
  · exact .refl s

theorem beside_offerMgmt (m : Mgmt) (part : MgmtPart) (f : OutFrame) {go : State → State} (h : ∀ t, Beside t (go t))
    (s : State) : Beside s (offerMgmt m part f go s) := by
  unfold offerMgmt
  split
  · exact (beside_offerState _ _ s).trans (h _)
  · exact (beside_offerState _ _ s).trans (beside_mgmtLost _ _ _ _)

theorem beside_offerMgmtAll (m : Mgmt) (part : MgmtPart) {go : State → State} (h : ∀ t, Beside t (go t)) :
    ∀ (l : List OutFrame) (s : State), Beside s (offerMgmtAll m part go l s)
  | [], s => h s
  | f :: l, s => beside_offerMgmt m part f (beside_offerMgmtAll m part h l) s

theorem beside_looseRefusal (m : Mgmt) (id : Ident) (code : Byte) (r : Refuse) (s : State) :
    Beside s (looseRefusal m id code r s) := beside_offerMgmt _ _ _ .refl s

theorem beside_judgeRequest (x : MgmtExchange) (s : State) : Beside s (judgeRequest x s) := by
  unfold judgeRequest
  split
  · exact beside_refuse _ _ s
  · exact .refl s

theorem beside_openUnit (m : Mgmt) (msg : List Byte) (s : State) : Beside s (openUnit m msg s) :=
  (beside_joinMgmt _ s).trans (beside_judgeRequest _ _)

theorem beside_openLead (m : Mgmt) (count : Nat) (msg : List Byte) (s : State) : Beside s (openLead m count msg s) :=
  (beside_joinMgmt _ s).trans (beside_offerMgmt _ _ _ (fun t => beside_setMgmtStamp _ t) _)

theorem beside_requestBroken (x : MgmtExchange) (s : State) : Beside s (requestBroken x s) :=
  (beside_closeMgmt _ s).trans (beside_looseRefusal _ _ _ _ _)

theorem beside_gatherFollow (x : MgmtExchange) (i : Nat) (msg : List Byte) (s : State) :
    Beside s (gatherFollow x i msg s) := by
  unfold gatherFollow
  dsimp only
  split
  · split
    · exact (beside_setMgmt _ s).trans (beside_judgeRequest _ _)
    · exact beside_setMgmt _ s
  · exact beside_requestBroken x s

theorem beside_beginReply (x : MgmtExchange) (reply : List Byte) (s : State) : Beside s (beginReply x reply s) :=
  beside_offerMgmt _ _ _ (fun t => beside_setMgmtStamp _ t) s

theorem beside_replyFollows (n : Nat) (x : MgmtExchange) (s : State) : Beside s (replyFollows n x s) :=
  beside_offerMgmtAll _ _ (fun t => beside_setMgmtStamp _ t) _ s

theorem beside_answeringPace (x : MgmtExchange) (i code gap : Nat) (s : State) :
    Beside s (answeringPace x i code gap s) := by
  unfold answeringPace
  split
  · split
    · exact beside_replyFollows _ _ s
    · split
      · exact beside_setMgmt _ s
      · exact beside_closeMgmt _ s
  · exact beside_closeMgmt _ s

theorem beside_beginSide (m : Mgmt) (msg : List Byte) (s : State) : Beside s (beginSide m msg s) :=
  .trans (beside_of (t := nextStamp (nextStamp s)) (fun _ => rfl) rfl) (beside_offerMgmt _ _ _ (fun t => beside_setSide _ _ t) _)

theorem beside_sideFollows (n : Nat) (m : Mgmt) (id : Nat) (g : Seg) (msg : List Byte) (s : State) :
    Beside s (sideFollows n m id g msg s) := by
  refine beside_offerMgmtAll _ _ (fun t => ?_) _ s
  exact (beside_setSide _ _ t).trans (beside_of (fun _ => rfl) rfl)

theorem beside_sidePace (m : Mgmt) (id : Nat) (g : Seg) (msg : List Byte) (o : Option Nat) (i code gap : Nat)
    (s : State) : Beside s (sidePace m id g msg o i code gap s) := by
  unfold sidePace
  split
  · split
    · exact beside_sideFollows _ _ _ _ _ s
    · split <;> exact beside_setSide _ _ s
  · exact beside_setSide _ _ s

theorem beside_mgmtPace (m : Mgmt) (p : Option (Nat × Nat × Nat)) (s : State) : Beside s (mgmtPace m p s) := by
  unfold mgmtPace
  split
  · split
    · exact beside_sidePace _ _ _ _ _ _ _ _ s
    · exact beside_setSide _ _ s
  · split
    · exact .refl s
    · split
      · exact beside_requestBroken _ s
      · exact .refl s
      · exact beside_answeringPace _ _ _ _ s
      · exact beside_closeMgmt _ s

theorem beside_mgmtBad (m : Mgmt) (k : BadKind) (s : State) : Beside s (mgmtBad m k s) := by
  have hs : Beside s (sideBad m k s) := by
    unfold sideBad
    split
    · exact beside_setSide _ _ s
    · exact .refl s
  refine hs.trans (show Beside _ (exchangeBad m k (sideBad m k s)) from ?_)
  unfold exchangeBad
  split
  · exact .refl _
  · split
    · exact beside_requestBroken _ _
    · exact .refl _
    · split
      · exact .refl _
      · exact beside_closeMgmt _ _

theorem beside_mgmtFrame (m : Mgmt) (data : List Byte) (s : State) : Beside s (mgmtFrame m data s) := by
  unfold mgmtFrame
  split
  · exact beside_mgmtPace _ _ s
  · exact beside_mgmtPace _ _ s
  · exact beside_mgmtBad _ _ s
  · split
    · exact beside_openUnit _ _ s
    · split
      · exact beside_setSide _ _ s
      · exact beside_looseRefusal _ _ _ _ s
  · split
    · exact beside_openLead _ _ _ s
    · exact beside_looseRefusal _ _ _ _ s
  · split
    · exact .refl s
    · split
      · exact beside_gatherFollow _ _ _ s
      · exact .refl s

theorem beside_managementReplyBegins (m : Mgmt) (s : State) : Beside s (managementReplyBegins m s) := by
  unfold managementReplyBegins
  split
  · exact .refl s
  · split
    · split
      · exact .refl s
      · exact beside_beginReply _ _ s
    · exact .refl s

theorem beside_sideBegins (m : Mgmt) (s : State) : Beside s (sideBegins m s) := by
  unfold sideBegins
  split
  · next request _ =>
    split
    · exact .refl s
    · refine .trans (t := sideServed request s) ?_ (beside_beginSide _ _ _)
      unfold sideServed
      split
      · exact .refl s
      · split <;> exact beside_of (fun _ => rfl) rfl
  · exact .refl s

theorem beside_restartReply (s : State) : Beside s (restartReply s) := by
  unfold restartReply
  split
  · split
    · split
      · split
        · exact .trans (beside_of (t := restartAnswered _ s) (fun _ => rfl) rfl) (beside_beginReply _ _ _)
        · exact .refl s
      · exact .refl s
    · exact .refl s
  · exact .refl s

/-! ### The mirror (R28 to R33) -/

theorem beside_offerMirror (f : Frame) (s : State) : Beside s (offerMirror f s) := beside_offerState _ _ s

theorem beside_offerMirrors (n : Net) (f : Frame) (s : State) : Beside s (offerMirrors n f s) := by
  unfold offerMirrors
  split
  · split
    · unfold mirrorFrame
      dsimp only
      split
      · exact .refl s
      · split
        · exact beside_offerMirror f s
        · split
          · exact (beside_offerMirror f s).trans (beside_of (fun _ => rfl) rfl)
          · exact beside_of (fun _ => rfl) rfl
          · exact beside_of (fun _ => rfl) rfl
    · exact .refl s
  · exact .refl s

theorem beside_mirrorExpired (i : Fin 32) (s : State) : Beside s (mirrorExpired i s) := by
  unfold mirrorExpired
  split
  · exact .refl s
  · exact beside_of (fun _ => rfl) rfl
  · exact (beside_offerMirror _ s).trans (beside_of (fun _ => rfl) rfl)

end Sys2Proof.Machine
end

section
/-! The law of R112 over the downloads, as an invariant of the windows and the channels' records. Where a record has just
left the list, the window it was linked to is let off what the record answers for, until it ends or goes on without it. -/

namespace Sys2Proof.Machine

open Sys2Proof Sys2Proof.Safety

variable {s t : State} {e : Option (Fin 2)} {w u : Fin 2} {v v' : Window} {x y : ChannelExchange}

/-! ### What a window and its exchange keep to -/

/-- What a window keeps to by itself (R112). -/
def RunFits (v : Window) : Prop :=
  (v.state = .openPending ↔ v.run = none) ∧
    ∀ r ∈ v.run, ∃ a l, v.range = some (a, l) ∧ a ≤ r.next ∧ r.next + r.remaining = a + l

/-- What an exchange linked to a window keeps to by its role and state. -/
structure LinkBase (v : Window) (x : ChannelExchange) : Prop where
  channel : v.channel = x.channel
  states  : x.role ≠ some .block → x.state = .inbound ∨ x.state = .awaiting ∨ x.state = .replying
  unread  : x.role = some .opening → x.state = .inbound → v.state = .openPending
  judged  : x.role = some .opening → x.state ≠ .inbound → v.range.isSome = true
  step    : x.role ≠ some .opening → v.state ≠ .openPending
  staged  : x.role = some .block → x.state ≠ .inbound

/-- The block in hand, unless it is a repeat, fits the remaining length (R119). -/
def HandFits (v : Window) : Prop := ∀ b ∈ v.inHand, ∀ r ∈ v.run, b.again = false → b.count ≤ r.remaining

/-- The block in hand of a Block that still waits for its answer fits. -/
def LinkFits (v : Window) (x : ChannelExchange) : Prop :=
  x.role = some .block → x.state ≠ .staging → (x.state = .replying → x.form = .stillWorking) → HandFits v

theorem linkHolds_iff : linkHolds v x ↔ LinkBase v x ∧ LinkFits v x :=
  ⟨fun ⟨h1, h2, h3, h4, h5, h6, h7⟩ => ⟨⟨h1, h2, h3, h4, h5, h6⟩, h7⟩,
    fun ⟨⟨h1, h2, h3, h4, h5, h6⟩, h7⟩ => ⟨h1, h2, h3, h4, h5, h6, h7⟩⟩

/-- Two records with the same keys, role, state and form of reply. -/
structure SameStep (x y : ChannelExchange) : Prop where
  id      : y.id = x.id
  channel : y.channel = x.channel
  window  : y.window = x.window
  role    : y.role = x.role
  state   : y.state = x.state
  form    : y.form = x.form

theorem SameStep.refl (x : ChannelExchange) : SameStep x x := ⟨rfl, rfl, rfl, rfl, rfl, rfl⟩

theorem SameStep.base (h : SameStep x y) (hb : LinkBase v x) : LinkBase v y := by
  obtain ⟨h1, h2, h3, h4, h5, h6⟩ := hb
  rw [← h.role, ← h.state] at h2 h3 h4 h6
  rw [← h.role] at h5
  exact ⟨h1.trans h.channel.symm, h2, h3, h4, h5, h6⟩

theorem SameStep.fits (h : SameStep x y) (hf : LinkFits v x) : LinkFits v y := by
  unfold LinkFits at hf ⊢
  rw [h.role, h.state, h.form]
  exact hf

/-- A window that goes on as before for its exchange: the block in hand may have been dropped. -/
structure Alike (v v' : Window) : Prop where
  channel : v'.channel = v.channel
  pending : v'.state = .openPending ↔ v.state = .openPending
  range   : v'.range = v.range
  run     : v'.run = v.run
  inHand  : v'.inHand = v.inHand ∨ v'.inHand = none

theorem Alike.runFits (h : Alike v v') (hv : RunFits v) : RunFits v' := by
  unfold RunFits
  rw [h.pending, h.range, h.run]
  exact hv

theorem Alike.base (h : Alike v v') (hb : LinkBase v x) : LinkBase v' x where
  channel := h.channel.trans hb.channel
  states := hb.states
  unread hr hs := h.pending.2 (hb.unread hr hs)
  judged hr hs := h.range ▸ hb.judged hr hs
  step hr hp := hb.step hr (h.pending.1 hp)
  staged := hb.staged

theorem Alike.handFits (h : Alike v v') (hf : HandFits v) : HandFits v' := by
  unfold HandFits
  rw [h.run]
  obtain hi | hi := h.inHand
  · rw [hi]
    exact hf
  · rw [hi]
    exact nofun

theorem Alike.fits (h : Alike v v') (hf : LinkFits v x) : LinkFits v' x := fun h1 h2 h3 => h.handFits (hf h1 h2 h3)

/-! ### The invariant -/

/-- The records are of different numbers and channels; each window keeps to itself, and with its exchange. The window `e`,
where there is one, is let off what rests on its exchange. -/
structure Download (e : Option (Fin 2)) (s : State) : Prop where
  ids      : ((channelRecords s).map (·.id)).Nodup
  channels : ((channelRecords s).map (·.channel)).Nodup
  run      : ∀ w v, s.window w = some v → RunFits v
  opening  : ∀ w v, s.window w = some v → v.state = .openPending → e ≠ some w →
    ∃ x ∈ channelRecords s, x.window = some w ∧ x.role = some .opening
  base     : ∀ x ∈ channelRecords s, ∀ w, x.window = some w → ∃ v, s.window w = some v ∧ LinkBase v x
  fits     : ∀ x ∈ channelRecords s, ∀ w v, x.window = some w → s.window w = some v → e ≠ some w → LinkFits v x

theorem Download.mono (h : Download none s) : Download e s :=
  ⟨h.ids, h.channels, h.run, fun w v hv hp _ => h.opening w v hv hp (by simp), h.base,
    fun x hx w v hw hv _ => h.fits x hx w v hw hv (by simp)⟩

theorem Beside.download (h : Beside s t) (hs : Download e s) : Download e t := by
  refine ⟨?_, ?_, fun w v hv => ?_, fun w v hv => ?_, ?_, ?_⟩
  · rw [h.records]; exact hs.ids
  · rw [h.records]; exact hs.channels
  · exact hs.run w v ((h.windows w).symm.trans hv)
  · rw [h.records]; exact hs.opening w v ((h.windows w).symm.trans hv)
  · rw [h.records]
    exact fun x hx w hw => (h.windows w).symm ▸ hs.base x hx w hw
  · rw [h.records]
    exact fun x hx w v hw hv => hs.fits x hx w v hw ((h.windows w).symm.trans hv)

/-- One record at most is linked to a window: its channel is the window's. -/
theorem Download.unique (h : Download e s) (hx : x ∈ channelRecords s) (hy : y ∈ channelRecords s)
    (hxw : x.window = some w) (hyw : y.window = some w) : x = y := by
  obtain ⟨v, hv, hb⟩ := h.base x hx w hxw
  obtain ⟨v', hv', hb'⟩ := h.base y hy w hyw
  obtain rfl : v = v' := Option.some.inj (hv.symm.trans hv')
  exact List.inj_on_of_nodup_map h.channels hx hy (hb.channel.symm.trans hb'.channel)

theorem Download.base_of (h : Download e s) (hx : x ∈ channelRecords s) (hw : x.window = some w)
    (hv : s.window w = some v) : LinkBase v x := by
  obtain ⟨v', hv', hb⟩ := h.base x hx w hw
  obtain rfl : v = v' := Option.some.inj (hv.symm.trans hv')
  exact hb

theorem Download.linked (h : Download e s) (hx : x ∈ channelRecords s) (hw : x.window = some w) :
    linkedExchange s w = some x := by
  cases hl : linkedExchange s w with
  | none =>
    rw [linkedExchange_eq, List.find?_eq_none] at hl
    exact absurd (decide_eq_true hw) (hl x hx)
  | some y =>
    obtain ⟨hy, hyw⟩ := linkedExchange_some hl
    rw [h.unique (mem_channelRecords.2 hy) hx hyw hw]

/-- The invariant says what the law says, of a list that keeps its own law. -/
theorem download_iff (hs : exchangeLaw s) : downloadLaw s ↔ Download none s := by
  have mem : ∀ x, x ∈ channelRecords s → channelExchange s x.channel = some x := fun x hx =>
    (channelExchange_of_mem hs (mem_channelRecords.1 hx)).1
  constructor
  · rintro ⟨h0, h1, h2⟩
    have hw : ∀ w v, s.window w = some v → windowHolds s w v := fun w v hv => by
      obtain rfl | rfl : w = 0 ∨ w = 1 := by omega
      · exact h0 v hv
      · exact h1 v hv
    refine ⟨(channelRecords_distinct hs).2, (channelRecords_distinct hs).1, fun w v hv => ⟨(hw w v hv).1, (hw w v hv).2.2⟩,
      fun w v hv hp _ => ?_, fun x hx w hxw => ?_, fun x hx w v hxw hv _ => ?_⟩
    · obtain ⟨x, hx, hr⟩ := (hw w v hv).2.1 hp
      obtain ⟨hm, hxw⟩ := linkedExchange_some hx
      exact ⟨x, mem_channelRecords.2 hm, hxw, hr⟩
    · obtain ⟨v, hv, hl⟩ := h2 _ x (mem x hx) w hxw
      exact ⟨v, hv, (linkHolds_iff.1 hl).1⟩
    · obtain ⟨v', hv', hl⟩ := h2 _ x (mem x hx) w hxw
      obtain rfl : v = v' := Option.some.inj (hv.symm.trans hv')
      exact (linkHolds_iff.1 hl).2
  · intro h
    have hw : ∀ w, ∀ v ∈ s.window w, windowHolds s w v := fun w v hv => by
      refine ⟨(h.run w v hv).1, fun hp => ?_, (h.run w v hv).2⟩
      obtain ⟨x, hx, hxw, hr⟩ := h.opening w v hv hp (by simp)
      exact ⟨x, h.linked hx hxw, hr⟩
    refine ⟨hw 0, hw 1, fun c x hx w hxw => ?_⟩
    have hm := mem_channelRecords.2 (channelExchange_some hx).1
    obtain ⟨v, hv, hb⟩ := h.base x hm w hxw
    exact ⟨v, hv, linkHolds_iff.2 ⟨hb, h.fits x hm w v hxw hv (by simp)⟩⟩

/-! ### Letting a window off, and back -/

/-- With the window's exchange in the list, the opening is answered for, and the block in hand is all that is owed. -/
theorem Download.settle (h : Download x.window s) (hx : x ∈ channelRecords s)
    (hf : ∀ w v, x.window = some w → s.window w = some v → LinkFits v x) : Download none s := by
  refine ⟨h.ids, h.channels, h.run, fun w v hv hp _ => ?_, h.base, fun y hy w v hw hv _ => ?_⟩
  · by_cases hxw : x.window = some w
    · by_contra hn
      have hr : x.role ≠ some .opening := fun hr => hn ⟨x, hx, hxw, hr⟩
      exact (h.base_of hx hxw hv).step hr hp
    · exact h.opening w v hv hp hxw
  · by_cases hxw : x.window = some w
    · obtain rfl := h.unique hy hx hw hxw
      exact hf w v hw hv
    · exact h.fits y hy w v hw hv hxw

/-- A window past OPEN_PENDING that no record is linked to owes nothing. -/
theorem Download.alone (h : Download (some w) s) (hn : ∀ x ∈ channelRecords s, x.window ≠ some w)
    (hv : ∀ v, s.window w = some v → v.state ≠ .openPending) : Download none s := by
  refine ⟨h.ids, h.channels, h.run, fun u v hu hp _ => ?_, h.base, fun y hy u v hyw hu _ => ?_⟩
  · refine h.opening u v hu hp fun he => ?_
    obtain rfl := Option.some.inj he
    exact hv v hu hp
  · refine h.fits y hy u v hyw hu fun he => ?_
    obtain rfl := Option.some.inj he
    exact hn y hy hyw

/-! ### A window takes a new content -/

theorem download_setWindow (h : Download e s) (hv : s.window w = some v) (hr : RunFits v')
    (hp : v'.state = .openPending → v.state = .openPending)
    (hb : ∀ x ∈ channelRecords s, x.window = some w → LinkBase v x → LinkBase v' x)
    (hf : e ≠ some w → ∀ x ∈ channelRecords s, x.window = some w → LinkFits v x → LinkFits v' x) :
    Download e (setWindow w (some v') s) := by
  have hw : ∀ u y, (setWindow w (some v') s).window u = some y → (u = w ∧ y = v') ∨ (u ≠ w ∧ s.window u = some y) :=
    fun u y hy => by
      rw [setWindow_window] at hy
      split at hy
      · next e => exact .inl ⟨e, (Option.some.inj hy).symm⟩
      · next e => exact .inr ⟨e, hy⟩
  refine ⟨h.ids, h.channels, fun u y hy => ?_, fun u y hy hy' he => ?_, fun x hx u hxu => ?_, fun x hx u y hxu hy he => ?_⟩
  · obtain ⟨rfl, rfl⟩ | ⟨-, hy⟩ := hw u y hy
    · exact hr
    · exact h.run u y hy
  · obtain ⟨rfl, rfl⟩ | ⟨-, hy⟩ := hw u y hy
    · exact h.opening u v hv (hp hy') he
    · exact h.opening u y hy hy' he
  · obtain ⟨y, hy, hl⟩ := h.base x hx u hxu
    by_cases e : u = w
    · subst e
      obtain rfl : v = y := Option.some.inj (hv.symm.trans hy)
      exact ⟨v', window_put u _ s, hb x hx hxu hl⟩
    · exact ⟨y, by rw [setWindow_window, if_neg e]; exact hy, hl⟩
  · obtain ⟨rfl, rfl⟩ | ⟨-, hy⟩ := hw u y hy
    · exact hf he x hx hxu (h.fits x hx u v hxu hv he)
    · exact h.fits x hx u y hxu hy he

theorem download_alike (h : Download e s) (hv : s.window w = some v) (ha : Alike v v') :
    Download e (setWindow w (some v') s) :=
  download_setWindow h hv (ha.runFits (h.run w v hv)) ha.pending.1 (fun _ _ _ => ha.base) fun _ _ _ _ => ha.fits

/-! ### A record takes a new content -/

theorem channelRecords_put (x : ChannelExchange) (hn : ((channelRecords s).map (·.id)).Nodup) :
    channelRecords (setChannelExchange x s) = (channelRecords s).map (fun y => if y.id = x.id then x else y) := by
  rw [← modifyFirst_eq_map (·.id) x.id (fun _ => x) hn]
  simp only [channelRecords, setChannelExchange]
  induction s.exchanges with
  | nil => rfl
  | cons e l ih =>
    cases e with
    | channel y => by_cases h : y.id = x.id <;> simp [modifyFirst, isChannel, asChannel, h, ih]
    | management y => simpa [modifyFirst, isChannel, List.filterMap_cons, asChannel] using ih

theorem mem_put (h : Download e s) (hx : x ∈ channelRecords s) (hid : y.id = x.id) {z : ChannelExchange} :
    z ∈ channelRecords (setChannelExchange y s) ↔ z = y ∨ z ≠ x ∧ z ∈ channelRecords s := by
  rw [channelRecords_put y h.ids, List.mem_map]
  constructor
  · rintro ⟨a, ha, rfl⟩
    split
    · exact .inl rfl
    · next hn => exact .inr ⟨fun e => hn (e ▸ hid.symm), ha⟩
  · rintro (rfl | ⟨hne, hz⟩)
    · exact ⟨x, hx, if_pos hid.symm⟩
    · refine ⟨z, hz, if_neg fun e => hne ?_⟩
      exact List.inj_on_of_nodup_map h.ids hz hx (e.trans hid)

/-- A record with its keys and its role kept is put in its place; what it owes its window is shown of the new one. -/
theorem download_put (h : Download x.window s) (hx : x ∈ channelRecords s) (hid : y.id = x.id)
    (hch : y.channel = x.channel) (hw : y.window = x.window)
    (hb : ∀ w v, x.window = some w → s.window w = some v → LinkBase v x → LinkBase v y)
    (hf : ∀ w v, x.window = some w → s.window w = some v → LinkFits v y) :
    Download none (setChannelExchange y s) := by
  have keys : ∀ {β : Type} (k : ChannelExchange → β), k y = k x →
      (channelRecords (setChannelExchange y s)).map k = (channelRecords s).map k := fun k hk => by
    rw [channelRecords_put y h.ids, List.map_map]
    refine List.map_congr_left fun z hz => ?_
    by_cases hzx : z.id = y.id
    · obtain rfl : z = x := List.inj_on_of_nodup_map h.ids hz hx (hzx.trans hid)
      simpa [hzx] using hk
    · simp [hzx]
  have hy : y ∈ channelRecords (setChannelExchange y s) := (mem_put h hx hid).2 (.inl rfl)
  refine Download.settle (x := y) ⟨?_, ?_, h.run, fun w v hv hp he => ?_, fun z hz w hzw => ?_,
    fun z hz w v hzw hv he => ?_⟩ hy fun w v hyw hv => hf w v (hw ▸ hyw) hv
  · rw [keys _ hid]; exact h.ids
  · rw [keys _ hch]; exact h.channels
  · obtain ⟨z, hz, hzw, hr⟩ := h.opening w v hv hp (hw ▸ he)
    exact ⟨z, (mem_put h hx hid).2 (.inr ⟨fun e => he (hw ▸ e ▸ hzw), hz⟩), hzw, hr⟩
  · obtain rfl | ⟨-, hz⟩ := (mem_put h hx hid).1 hz
    · obtain ⟨v, hv, hl⟩ := h.base x hx w (hw ▸ hzw)
      exact ⟨v, hv, hb w v (hw ▸ hzw) hv hl⟩
    · exact h.base z hz w hzw
  · obtain rfl | ⟨-, hz⟩ := (mem_put h hx hid).1 hz
    · exact absurd hzw he
    · exact h.fits z hz w v hzw hv (hw ▸ he)

/-- A record of the list stands for one with its keys, role, state and form. -/
def Stands (s : State) (x : ChannelExchange) : Prop := ∃ z ∈ channelRecords s, SameStep z x

theorem Stands.of_mem (h : x ∈ channelRecords s) : Stands s x := ⟨x, h, .refl x⟩

theorem Stands.same (h : Stands s x) (hy : SameStep x y) : Stands s y := by
  obtain ⟨z, hz, h1, h2, h3, h4, h5, h6⟩ := h
  obtain ⟨hid, hch, hw, hr, hs, hf⟩ := hy
  exact ⟨z, hz, hid.trans h1, hch.trans h2, hw.trans h3, hr.trans h4, hs.trans h5, hf.trans h6⟩

theorem Stands.beside (hx : Stands s x) (h : Beside s t) : Stands t x := by
  obtain ⟨z, hz, hs⟩ := hx
  exact ⟨z, h.records ▸ hz, hs⟩

theorem Stands.base (hx : Stands s x) (h : Download e s) (hw : x.window = some w) (hv : s.window w = some v) :
    LinkBase v x := by
  obtain ⟨z, hz, hs⟩ := hx
  exact hs.base (h.base_of hz (hs.window ▸ hw) hv)

theorem Stands.fits (hx : Stands s x) (h : Download none s) (hw : x.window = some w) (hv : s.window w = some v) :
    LinkFits v x := by
  obtain ⟨z, hz, hs⟩ := hx
  exact hs.fits (h.fits z hz w v (hs.window ▸ hw) hv (by simp))

/-- The only record linked to the window of one that stands is the one it stands for. -/
theorem Stands.only (hx : Stands s x) (h : Download e s) (hw : x.window = some w) (hy : y ∈ channelRecords s)
    (hyw : y.window = some w) : SameStep y x := by
  obtain ⟨z, hz, hs⟩ := hx
  obtain rfl := h.unique hy hz hyw (hs.window ▸ hw)
  exact hs

theorem Stands.window (hx : Stands s x) (h : Download e s) (hw : x.window = some w) : ∃ v, s.window w = some v := by
  obtain ⟨z, hz, hs⟩ := hx
  obtain ⟨v, hv, -⟩ := h.base z hz w (hs.window ▸ hw)
  exact ⟨v, hv⟩

theorem Stands.settle (hx : Stands s x) (h : Download x.window s)
    (hf : ∀ w v, x.window = some w → s.window w = some v → LinkFits v x) : Download none s := by
  obtain ⟨z, hz, hs⟩ := hx
  refine Download.settle (hs.window ▸ h) hz fun w v hw hv => ?_
  have hb : SameStep x z := ⟨hs.id.symm, hs.channel.symm, hs.window.symm, hs.role.symm, hs.state.symm, hs.form.symm⟩
  exact hb.fits (hf w v (hs.window ▸ hw) hv)

theorem Stands.put (hx : Stands s x) (h : Download x.window s) (hid : y.id = x.id)
    (hch : y.channel = x.channel) (hw : y.window = x.window)
    (hb : ∀ w v, x.window = some w → s.window w = some v → LinkBase v x → LinkBase v y)
    (hf : ∀ w v, x.window = some w → s.window w = some v → LinkFits v y) :
    Download none (setChannelExchange y s) := by
  obtain ⟨z, hz, hs⟩ := hx
  exact download_put (hs.window ▸ h) hz (hid.trans hs.id) (hch.trans hs.channel) (hw.trans hs.window)
    (fun w v hzw hv hl => hb w v (hs.window ▸ hzw) hv (hs.base hl)) fun w v hzw hv => hf w v (hs.window ▸ hzw) hv

/-- A record changed in its segments and timers alone. -/
theorem Stands.putSame (hx : Stands s x) (h : Download none s) (hy : SameStep x y) :
    Download none (setChannelExchange y s) :=
  hx.put h.mono hy.id hy.channel hy.window (fun _ _ _ _ => hy.base) fun _ _ hxw hv => hy.fits (hx.fits h hxw hv)

theorem Stands.set (hx : Stands s x) (h : Download e s) (hid : y.id = x.id) :
    Stands (setChannelExchange y s) y := by
  obtain ⟨z, hz, hs⟩ := hx
  exact .of_mem ((mem_put h hz (hid.trans hs.id)).2 (.inl rfl))

/-! ### A record joins, a record leaves -/

theorem channelRecords_join (x : ChannelExchange) (s : State) :
    channelRecords (joinList x s) = channelRecords s ++ [x] := by
  simp [channelRecords, asChannel]

/-- A new record joins, of a new number, on a channel without one. -/
theorem download_join (h : Download x.window s) (hid : ∀ y ∈ channelRecords s, y.id ≠ x.id)
    (hch : channelExchange s x.channel = none)
    (hb : ∀ w, x.window = some w → ∃ v, s.window w = some v ∧ LinkBase v x)
    (hf : ∀ w v, x.window = some w → s.window w = some v → LinkFits v x) : Download none (joinList x s) := by
  rw [channelExchange_eq, List.find?_eq_none] at hch
  have hm : ∀ z, z ∈ channelRecords (joinList x s) ↔ z ∈ channelRecords s ∨ z = x := fun z => by
    rw [channelRecords_join, List.mem_append, List.mem_singleton]
  refine Download.settle (x := x) ⟨?_, ?_, h.run, fun w v hv hp he => ?_, fun z hz w hzw => ?_,
    fun z hz w v hzw hv he => ?_⟩ ((hm x).2 (.inr rfl)) hf
  · rw [channelRecords_join, List.map_append]
    exact List.Nodup.append h.ids (List.nodup_singleton _) (by simpa using hid)
  · rw [channelRecords_join, List.map_append]
    exact List.Nodup.append h.channels (List.nodup_singleton _) (by simpa using hch)
  · obtain ⟨z, hz, hzw, hr⟩ := h.opening w v hv hp he
    exact ⟨z, (hm z).2 (.inl hz), hzw, hr⟩
  · obtain hz | rfl := (hm z).1 hz
    · exact h.base z hz w hzw
    · exact hb w hzw
  · obtain hz | rfl := (hm z).1 hz
    · exact h.fits z hz w v hzw hv he
    · exact absurd hzw he

/-- A record leaves the list, and no other is linked to its window. -/
theorem download_drop (hx : Stands s x) (h : Download x.window s) : Download x.window (dropChannelExchange x.id s) ∧
    ∀ w, x.window = some w → ∀ y ∈ channelRecords (dropChannelExchange x.id s), y.window ≠ some w := by
  obtain ⟨z, hz, hs⟩ := hx
  have hl : channelRecords (dropChannelExchange x.id s) = (channelRecords s).filter fun y => decide (y.id ≠ x.id) :=
    (channelRecords_dropped x.id s).trans (eraseP_eq_filter _ _ h.ids)
  have sub : List.Sublist (channelRecords (dropChannelExchange x.id s)) (channelRecords s) := hl ▸ List.filter_sublist
  have left : ∀ y, y ∈ channelRecords (dropChannelExchange x.id s) ↔ y ∈ channelRecords s ∧ y.id ≠ x.id := fun y => by
    rw [hl]
    simp
  refine ⟨⟨(sub.map _).nodup h.ids, (sub.map _).nodup h.channels, h.run, fun w v hv hp he => ?_,
    fun y hy w hw => h.base y (sub.subset hy) w hw, fun y hy w v hw hv he => h.fits y (sub.subset hy) w v hw hv he⟩,
    fun w hw y hy hyw => ?_⟩
  · obtain ⟨y, hy, hyw, hr⟩ := h.opening w v hv hp he
    refine ⟨y, (left y).2 ⟨hy, fun hid => he ?_⟩, hyw, hr⟩
    obtain rfl : y = z := List.inj_on_of_nodup_map h.ids hy hz (hid.trans hs.id)
    exact hs.window.trans hyw
  · obtain ⟨hy, hid⟩ := (left y).1 hy
    obtain rfl := h.unique hy hz hyw (hs.window ▸ hw)
    exact hid hs.id.symm

/-! ### A window ends -/

/-- A window has been removed, and the links to it dropped. -/
structure Removes (w : Fin 2) (s t : State) : Prop where
  windows   : ∀ u, t.window u = if u = w then none else s.window u
  exchanges : t.exchanges = unlinked w s

theorem Removes.download (k : Removes w s t) (h : Download e s) (he : e = none ∨ e = some w) : Download none t := by
  have hr := channelRecords_unlinked k.exchanges
  have hm : ∀ z ∈ channelRecords t, ∀ u, z.window = some u → u ≠ w ∧ z ∈ channelRecords s := fun z hz u hu => by
    obtain ⟨y, hy, rfl⟩ := (mem_unlinked k.exchanges).1 hz
    split at hu
    · cases hu
    · next hn =>
      rw [if_neg hn]
      exact ⟨fun e => hn (e ▸ hu), hy⟩
  have hv : ∀ u v, t.window u = some v → u ≠ w ∧ s.window u = some v := fun u v hu => by
    rw [k.windows] at hu
    split at hu
    · cases hu
    · next hn => exact ⟨hn, hu⟩
  have hne : ∀ u, u ≠ w → e ≠ some u := fun u hu hs => by
    obtain rfl | rfl := he
    · cases hs
    · exact hu (Option.some.inj hs).symm
  have keys : ∀ {β : Type} (f : ChannelExchange → β), (∀ y, f (clearLink w y) = f y) →
      (channelRecords t).map f = (channelRecords s).map f := fun f hf => by
    rw [hr, List.map_map]
    exact List.map_congr_left fun y _ => hf y
  refine ⟨?_, ?_, fun u v hu => h.run u v (hv u v hu).2, fun u v hu hp _ => ?_, fun z hz u hzu => ?_,
    fun z hz u v hzu hu _ => ?_⟩
  · rw [keys _ fun y => by unfold clearLink; split <;> rfl]
    exact h.ids
  · rw [keys _ fun y => by unfold clearLink; split <;> rfl]
    exact h.channels
  · obtain ⟨hn, hu⟩ := hv u v hu
    obtain ⟨y, hy, hyu, hro⟩ := h.opening u v hu hp (hne u hn)
    refine ⟨y, (mem_unlinked k.exchanges).2 ⟨y, hy, (if_neg fun e => hn ?_).symm⟩, hyu, hro⟩
    exact Option.some.inj (hyu.symm.trans e)
  · obtain ⟨hn, hz⟩ := hm z hz u hzu
    obtain ⟨v, hv, hb⟩ := h.base z hz u hzu
    exact ⟨v, by rw [k.windows, if_neg hn]; exact hv, hb⟩
  · obtain ⟨hn, hz⟩ := hm z hz u hzu
    exact h.fits z hz u v hzu (hv u v hu).2 (hne u hn)

end Sys2Proof.Machine
end

section
/-! The law of R112 over the ends of windows, exchanges and grants, and over the offers made for an exchange. -/

namespace Sys2Proof.Machine

open Sys2Proof Sys2Proof.Safety

variable {s t : State} {e : Option (Fin 2)} {w : Fin 2} {v : Window} {x : ChannelExchange} {go : State → State}

/-! ### The ends of windows (R116, R117) -/

theorem Removes.beside {u : State} (h : Removes w s t) (k : ∀ w, u.window w = t.window w) (hx : u.exchanges = t.exchanges) :
    Removes w s u :=
  ⟨fun y => (k y).trans (h.windows y), hx.trans h.exchanges⟩

theorem Removes.after {u : State} (hw : ∀ y, y ≠ w → u.window y = s.window y) (hx : u.exchanges = s.exchanges)
    (h : Removes w u t) : Removes w s t := by
  refine ⟨fun y => ?_, h.exchanges.trans (unlinked_of hx w)⟩
  rw [h.windows]
  split
  · rfl
  · next hn => exact hw y hn

theorem removeWindow_removes (w : Fin 2) (v : Window) (s : State) : Removes w s (removeWindow w v s) :=
  ⟨fun u => removeWindow_window w u v s, removeWindow_exchanges w v s⟩

theorem appendEnded_other (w : Fin 2) (v : Window) (o : Outcome) (c : EndCause) (s : State) {u : Fin 2} (hu : u ≠ w) :
    (appendEnded w v o c s).window u = s.window u := by
  rw [appendEnded_eq]
  refine (window_of_inspector (appendInto_inspector _ _ _ _ _ _)).trans ?_
  rw [setWindow_window, if_neg hu]

theorem endActive_removes (w : Fin 2) (v : Window) (o : Outcome) (c : EndCause) (tell : Bool) (s : State) :
    Removes w s (endActive w v o c tell s) := by
  have h : Removes w s (removeWindow w v (appendEnded w v o c s)) :=
    (removeWindow_removes w v _).after (fun _ hu => appendEnded_other w v o c s hu) (appendEnded_exchanges w v o c s)
  unfold endActive
  cases tell
  · exact h
  · exact h.beside (beside_reportEndedActive _ _ _).windows (reportEndedActive_exchanges _ _ _)

theorem endPendingSilent_removes (w : Fin 2) (v : Window) (tell : Bool) (s : State) :
    Removes w s (endPendingSilent w v tell s) := by
  have h := removeWindow_removes w v s
  unfold endPendingSilent
  cases tell
  · exact h
  · exact h.beside (beside_reportEndedUnactivated _ _ _).windows (reportEndedUnactivated_exchanges _ _ _)

theorem endPending_removes (w : Fin 2) (v : Window) (o : Outcome) (c : EndCause) (tell : Bool) (s : State) :
    Removes w s (endPending w v o c tell s) := by
  unfold endPending
  split
  · exact (endPendingSilent_removes w v tell _).after (fun _ hu => appendEnded_other w v o c s hu)
      (appendEnded_exchanges w v o c s)
  · exact endPendingSilent_removes w v tell s

theorem endAborted_removes (w : Fin 2) (v : Window) (c : EndCause) (tell : Bool) (s : State) :
    Removes w s (endAborted w v c tell s) := by
  unfold endAborted
  split
  · exact endActive_removes w v _ c tell s
  · exact endPending_removes w v _ c tell s

/-- Closing the exchange linked to a window lets the window off. -/
theorem download_closeLinked (w : Fin 2) (r : Reason) (h : Download none s) : Download (some w) (closeLinked w r s) := by
  unfold closeLinked
  split
  · next x hx =>
    obtain ⟨hm, hw⟩ := linkedExchange_some hx
    refine (beside_gatewayReply _ _ _ _).download ?_
    rw [← hw]
    exact (download_drop (.of_mem (mem_channelRecords.2 hm)) h.mono).1
  · exact h.mono

theorem download_abortWindow (w : Fin 2) (r : Reason) (c : EndCause) (tell : Bool) (h : Download none s) :
    Download none (abortWindow w r c tell s) := by
  unfold abortWindow
  split
  · exact (endAborted_removes _ _ _ _ _).download (download_closeLinked w r h) (.inr rfl)
  · exact h

/-! ### Windows that go on (R122, R123, R125) -/

theorem alike_suspended (v : Window) (hv : v.state = .active) (g : Option Nat) :
    Alike v { v with state := .suspended, grace := g } := by
  refine ⟨rfl, ?_, rfl, rfl, .inl rfl⟩
  rw [hv]
  exact ⟨nofun, nofun⟩

theorem download_suspendTest (w : Fin 2) (h : Download e s) : Download e (suspendTest w s) := by
  unfold suspendTest
  split
  · next v hv =>
    split
    · next hc => exact download_alike h hv (alike_suspended v hc.1 _)
    · exact h
  · exact h

theorem alike_unlinked (v : Window) : Alike v v.unlinked := ⟨rfl, .rfl, rfl, rfl, .inr rfl⟩

theorem download_leaveWindow (w : Fin 2) (h : Download e s) : Download e (leaveWindow w s) := by
  unfold leaveWindow
  split
  · next v hv => exact download_alike h hv (alike_unlinked v)
  · exact h

theorem download_reopenWindow (h : Download e s) (hv : s.window w = some v) (hs : v.state ≠ .openPending) :
    Download e (reopenWindow w v s) :=
  download_suspendTest w (download_alike h hv ⟨rfl, ⟨nofun, fun hp => absurd hp hs⟩, rfl, rfl, .inr rfl⟩)

/-! ### The close of an exchange (R65) -/

/-- The Inspector's part in a close: a window let off ends, or goes on past OPEN_PENDING. -/
theorem download_inspectorClosed (c : Closing) (h : Download x.window s)
    (hn : ∀ w, x.window = some w → ∀ y ∈ channelRecords s, y.window ≠ some w) :
    Download none (inspectorClosed x c s) := by
  unfold inspectorClosed
  split
  · next hw => exact hw ▸ h
  · next w hw =>
    rw [hw] at h
    split
    · next hv => exact h.alone (hn w hw) fun v hs => by rw [hv] at hs; cases hs
    · next v hv =>
      have on : v.state ≠ .openPending → Download none s := fun hs => h.alone (hn w hw) fun y hy => by
        obtain rfl := Option.some.inj (hv.symm.trans hy)
        exact hs
      have gone : ∀ {t}, Removes w s t → Download none t := fun k => k.download h (.inr rfl)
      split
      · exact gone (endPendingSilent_removes _ _ _ _)
      · exact gone (endPending_removes _ _ _ _ _ _)
      · exact gone (endPending_removes _ _ _ _ _ _)
      · exact gone (endActive_removes _ _ _ _ _ _)
      · next hs _ =>
        have hp : v.state ≠ .openPending := by rw [hs]; nofun
        exact download_reopenWindow (on hp) hv hp
      · next hp _ =>
        split
        · exact gone (endActive_removes _ _ _ _ _ _)
        · exact download_leaveWindow w (on hp)
      · next hp _ _ _ => exact download_leaveWindow w (on hp)

theorem download_closeExchange (c : Closing) (hx : Stands s x) (h : Download x.window s) :
    Download none (closeExchange x c s) := by
  obtain ⟨hd, hn⟩ := download_drop hx h
  have hi := download_inspectorClosed c hd hn
  unfold closeExchange
  dsimp only
  split
  · exact (beside_gatewayReply _ _ _ _).download hi
  · exact hi

/-- A close by the Inspector's reason: no Open, so its window is past OPEN_PENDING and goes on. -/
theorem download_closeDownload (r : Reason) (hx : Stands s x) (h : Download none s) (hr : x.role ≠ some .opening) :
    Download none (closeDownload x r s) := by
  obtain ⟨hd, hn⟩ := download_drop hx h.mono
  unfold closeDownload
  refine (beside_gatewayReply _ _ _ _).download ?_
  cases hw : x.window with
  | none =>
    rw [hw] at hd
    exact hd
  | some w =>
    rw [hw] at hd
    exact download_leaveWindow w (hd.alone (hn w hw) fun v hv => (hx.base h hw hv).step hr)

/-! ### Offers for an exchange (R66, R67) -/

theorem download_offerThen (p : Port) (f : OutFrame) (hx : Stands s x) (h : Download x.window s)
    (hg : ∀ t, Beside s t → Download none (go t)) : Download none (offerThen x p f go s) := by
  have hb := beside_offerState p f s
  unfold offerThen
  split
  · exact hg _ hb
  · exact download_closeExchange _ (hx.beside hb) (hb.download h)

theorem download_offerAll (p : Port) : ∀ (l : List OutFrame) {s : State}, Stands s x → Download x.window s →
    (∀ t, Beside s t → Download none (go t)) → Download none (offerAll x p go l s)
  | [], _, _, _, hg => hg _ (.refl _)
  | f :: l, _, hx, h, hg => download_offerThen p f hx h fun _ ht =>
      download_offerAll p l (hx.beside ht) (ht.download h) fun u hu => hg u (ht.trans hu)

/-! ### The ends of grants (R99) -/

theorem download_abortBound (g : Grant) (c : CloseCause) (h : Download none s) : Download none (abortBound g c s) := by
  unfold abortBound
  split
  · exact download_abortWindow _ _ _ _ h
  · exact download_abortWindow _ _ _ _ h
  · exact h
  · exact h

theorem download_endGrant (c : CloseCause) (g : Grant) (h : Download none s) : Download none (endGrant c g s) := by
  unfold endGrant
  split
  · refine (beside_answerProof _ _ _).download (Beside.download ?_ h)
    exact beside_of (fun _ => rfl) rfl
  · exact Beside.download (s := s) (beside_of (fun _ => rfl) rfl) h
  · exact (beside_grantClose _ _ _).download (download_abortBound g c h)

theorem download_endGrants (c : CloseCause) : ∀ (l : List Grant) {s : State}, Download none s →
    Download none (endGrants c l s)
  | [], _, h => h
  | g :: l, _, h => download_endGrants c l (download_endGrant c g h)

theorem download_presenceLost (h : Download none s) : Download none (presenceLost s) := by
  unfold presenceLost
  dsimp only
  refine download_endGrants _ _ (download_endGrants _ _ (Beside.download ?_ h))
  exact beside_of (fun _ => rfl) rfl

end Sys2Proof.Machine
end

section
/-! The law of R112 over the download blocks: gathered, judged, held, sent, and over the test of the watched
conditions (R118 to R121, R125). -/

namespace Sys2Proof.Machine

open Sys2Proof Sys2Proof.Safety

variable {s t : State} {e : Option (Fin 2)} {w : Fin 2} {v : Window} {x y : ChannelExchange}

/-! ### The states an exchange moves through -/

/-- An exchange past INBOUND may move on: a Block anywhere, any other to its reply. -/
theorem LinkBase.moved (hb : LinkBase v x) (hx : x.state ≠ .inbound) (hs : y.state ≠ .inbound)
    (hr : x.role = some .block ∨ y.state = .awaiting ∨ y.state = .replying) (hro : y.role = x.role)
    (hch : y.channel = x.channel) : LinkBase v y where
  channel := hb.channel.trans hch.symm
  states h := .inr (hr.resolve_left (hro ▸ h))
  unread _ h := absurd h hs
  judged h _ := hb.judged (hro ▸ h) hx
  step h := hb.step (hro ▸ h)
  staged _ := hs

theorem LinkFits.moved (hf : LinkFits v x) (hx : x.state ≠ .staging) (hr : x.state = .replying → x.form = .stillWorking)
    (hro : y.role = x.role) : LinkFits v y := fun h _ _ => hf (hro ▸ h) hx hr

theorem linkFits_staging (hs : x.state = .staging) : LinkFits v x := fun _ h _ => absurd hs h

/-- What is neither of a request nor of a reply is of a Block. -/
theorem LinkBase.block (hb : LinkBase v x) (h1 : x.state ≠ .inbound) (h2 : x.state ≠ .awaiting)
    (h3 : x.state ≠ .replying) : x.role = some .block := by
  by_contra h
  obtain h | h | h := hb.states h
  · exact h1 h
  · exact h2 h
  · exact h3 h

/-- An exchange whose block, if it has one, is out goes on to wait, or to its reply. -/
theorem Stands.move (hx : Stands s x) (h : Download none s) (h1 : x.state ≠ .inbound) (h2 : x.state ≠ .staging)
    (h3 : x.state = .replying → x.form = .stillWorking) (hy : y.state = .awaiting ∨ y.state = .replying)
    (hid : y.id = x.id) (hch : y.channel = x.channel) (hw : y.window = x.window)
    (hr : y.role = x.role) : Download none (setChannelExchange y s) := by
  have hi : y.state ≠ .inbound := fun e => by obtain hy | hy := hy <;> rw [e] at hy <;> cases hy
  exact hx.put h.mono hid hch hw (fun _ _ _ _ hb => hb.moved h1 hi (.inr hy) hr hch)
    fun _ _ hxw hv => (hx.fits h hxw hv).moved h2 h3 hr

theorem Download.stamped (h : Download e s) : Download e (nextStamp s) := 
  (beside_of (s := s) (t := nextStamp s) (fun _ => rfl) rfl).download h

theorem Stands.on (hx : Stands s x) (w : Fin 2) (o : Option Window) : Stands (setWindow w o s) x := hx

/-! ### A block is sent (R120, R121) -/

theorem download_sendBlock (z : Window) (hx : Stands s x) (h : Download none s) (hi : x.state ≠ .inbound)
    (hr : x.role = some .block) (hf : ∀ w v, x.window = some w → s.window w = some v → HandFits v) :
    Download none (sendBlock x z s) := by
  refine download_offerThen _ _ hx h.mono fun _ ht => Download.stamped ?_
  exact (hx.beside ht).put (ht.download h).mono rfl rfl rfl (hb := fun _ _ _ _ hb => hb.moved hi (by simp) (.inl hr) rfl rfl)
    (hf := fun w v hw hv _ _ _ => hf w v hw ((ht.windows w).symm.trans hv))

theorem download_checkBlock (w : Fin 2) (z : Window) (hx : Stands s x) (h : Download none s) (hi : x.state ≠ .inbound)
    (hr : x.role = some .block) (hf : ∀ w v, x.window = some w → s.window w = some v → HandFits v) :
    Download none (checkBlock w x z s) := by
  unfold checkBlock
  split
  · split
    · exact download_abortWindow _ _ _ _ ((beside_refuseTransfer _ _ _ _ _).download h)
    · exact download_sendBlock z hx h hi hr hf
  · exact h

theorem download_sendFollows (n : Nat) (hx : Stands s x) (h : Download none s) : Download none (sendFollows n x s) := by
  unfold sendFollows
  split
  · exact download_offerAll _ _ hx h.mono fun t ht => .stamped ((hx.beside ht).putSame (ht.download h) ⟨rfl, rfl, rfl, rfl, rfl, rfl⟩)
  · exact h

/-- A re-sent block is out: its buffer is released. -/
theorem download_blockSent (hx : Stands s x) (h : Download none s) (hs : x.state = .outbound) :
    Download none (blockSent x s) := by
  have sent : ∀ {t}, Stands t x → Download none t → Download none (setChannelExchange { x with
      state := .awaiting, seg := x.seg.reset, gapTimer := none, extended := false,
      timer := .running (t.channel x.channel).replyTimeout } t) := fun hx h =>
    hx.move h (by rw [hs]; nofun) (by rw [hs]; nofun) (by rw [hs]; nofun) (.inl rfl) rfl rfl rfl rfl
  unfold blockSent
  dsimp only
  split
  · split
    · next w _ v hv => exact sent hx (download_alike h hv ⟨rfl, .rfl, rfl, rfl, .inl rfl⟩)
    · exact sent hx h
  · exact sent hx h

theorem download_sendProceed (hx : Stands s x) (h : Download none s) : Download none (sendProceed x s) := by
  unfold sendProceed
  exact download_offerThen _ _ hx h.mono fun _ ht => .stamped ((hx.beside ht).putSame (ht.download h) ⟨rfl, rfl, rfl, rfl, rfl, rfl⟩)

theorem download_sendWait (hx : Stands s x) (h : Download none s) : Download none (sendWait x s) :=
  download_offerThen _ _ hx h.mono fun _ ht => ht.download h

/-! ### The watched conditions (R125) -/

theorem setWindow_twice (w : Fin 2) (o o' : Option Window) (s : State) :
    setWindow w o' (setWindow w o s) = setWindow w o' s := by
  simp only [setWindow, put_put]

theorem download_resumeWindow (h : Download none s) (hv : s.window w = some v) (hs : v.state = .suspended) :
    Download none (resumeWindow w v s) := by
  have hp : v.state ≠ .openPending := by rw [hs]; nofun
  have on : ∀ z, Alike v z → Download none (setWindow w (some z) s) := fun z hz => download_alike h hv hz
  have h1 : Alike v { v with state := .active, grace := none } := ⟨rfl, ⟨nofun, fun e => absurd e hp⟩, rfl, rfl, .inl rfl⟩
  have h2 : Alike v { v with state := .active, grace := none, hold := none } :=
    ⟨rfl, ⟨nofun, fun e => absurd e hp⟩, rfl, rfl, .inl rfl⟩
  unfold resumeWindow
  dsimp only
  split
  · next x hx =>
    obtain ⟨hm, hw⟩ := linkedExchange_some hx
    have hst : Stands s x := .of_mem (mem_channelRecords.2 hm)
    rw [setWindow_twice]
    split
    · next hh =>
      have hi : x.state ≠ .inbound := by rw [hh]; nofun
      have hr := (hst.base h hw hv).block hi (by rw [hh]; nofun) (by rw [hh]; nofun)
      refine download_checkBlock w _ (hst.same ⟨rfl, rfl, rfl, rfl, rfl, rfl⟩) (on _ h2) hi hr fun u y hu hy => ?_
      obtain rfl := Option.some.inj (hw.symm.trans hu)
      obtain rfl := Option.some.inj ((window_put w _ s).symm.trans hy)
      exact h2.handFits (hst.fits h hw hv hr (by rw [hh]; nofun) (by rw [hh]; nofun))
    · split
      · exact download_sendProceed (hst.same ⟨rfl, rfl, rfl, rfl, rfl, rfl⟩) (on _ h2)
      · exact on _ h1
  · exact on _ h1

theorem download_testWindow (w : Fin 2) (h : Download none s) : Download none (testWindow w s) := by
  unfold testWindow
  split
  · next v hv =>
    split
    · next hs =>
      split
      · exact download_resumeWindow h hv hs
      · exact h
    · exact download_suspendTest w h
  · exact h

theorem download_testWindows (h : Download none s) : Download none (testWindows s) :=
  download_testWindow 1 (download_testWindow 0 h)

theorem download_reportConditions (c : BitVec 5) (h : Download none s) : Download none (reportConditions c s) := by
  unfold reportConditions
  split
  · exact h
  · exact download_testWindows h

/-! ### A block is gathered and judged (R118, R119) -/

theorem download_takeBlock {b : HandBlock} (hx : Stands s x) (h : Download none s) (hs : x.state = .staging)
    (hw : x.window = some w) (hv : s.window w = some v)
    (hb : ∀ r ∈ v.run, b.again = false → b.count ≤ r.remaining) : Download none (takeBlock w x v b s) := by
  have hi : x.state ≠ .inbound := by rw [hs]; nofun
  have hr := (hx.base h hw hv).block hi (by rw [hs]; nofun) (by rw [hs]; nofun)
  have hand : ∀ k : Option Nat, HandFits { v with inHand := some b, hold := k } := fun k c hc r hr' => by
    obtain rfl := Option.some.inj hc
    exact hb r hr'
  have put : ∀ k : Option Nat, Download none (setWindow w (some { v with inHand := some b, hold := k }) s) := fun k =>
    download_setWindow h hv (h.run w v hv) id (fun _ _ _ hl => ⟨hl.1, hl.2, hl.3, hl.4, hl.5, hl.6⟩)
      fun _ z hz hzw _ => linkFits_staging ((hx.only h hw hz hzw).state.symm.trans hs)
  have fit : ∀ (k : Option Nat) u y, x.window = some u →
      (setWindow w (some { v with inHand := some b, hold := k }) s).window u = some y → HandFits y := fun k u y hu hy => by
    obtain rfl := Option.some.inj (hw.symm.trans hu)
    obtain rfl := Option.some.inj ((window_put w _ s).symm.trans hy)
    exact hand k
  unfold takeBlock
  dsimp only
  split
  · exact (hx.on w _).put (put _).mono rfl rfl rfl (hb := fun _ _ _ _ hl => hl.moved hi (by simp) (.inl hr) rfl rfl)
      (hf := fun u y hu hy _ _ _ => fit _ u y hu hy)
  · exact download_checkBlock w _ (hx.on w _) (put _) hi hr (fit _)

theorem download_judgeBlock (hx : Stands s x) (h : Download none s) (hs : x.state = .staging) :
    Download none (judgeBlock x s) := by
  unfold judgeBlock
  split
  · exact h
  · next w hw =>
    split
    · exact h
    · next v hv =>
      have hr := (hx.base h hw hv).block (by rw [hs]; nofun) (by rw [hs]; nofun) (by rw [hs]; nofun)
      have refused : ∀ (r : Reason) {t}, Beside s t → Download none (refuseBlock x r t) := fun r _ ht =>
        download_closeDownload r (hx.beside ht) (ht.download h) (by rw [hr]; nofun)
      split
      · exact refused _ (.refl s)
      · next r hrun =>
        dsimp only
        split
        · exact refused _ (beside_refuseTransfer _ _ _ _ s)
        · split
          · split
            · next hn =>
              refine download_takeBlock hx h hs hw hv fun r' hr' _ => ?_
              obtain rfl := Option.some.inj (hrun.symm.trans hr')
              exact hn.trans (Nat.min_le_right _ _)
            · exact refused _ (beside_refuseTransfer _ _ _ _ s)
          · split
            · split
              · exact download_takeBlock hx h hs hw hv fun _ _ => nofun
              · exact refused _ (.refl s)
            · exact refused _ (.refl s)

theorem beside_setBuffer (b : Fin 2) (bytes : List Byte) (s : State) : Beside s (setBuffer b bytes s) := beside_of (fun _ => rfl) rfl

theorem alike_buffered (v : Window) (b : Option (Fin 2)) (k : Option Nat) : Alike v { v with buffer := b, hold := k } :=
  ⟨rfl, .rfl, rfl, rfl, .inl rfl⟩

theorem download_stageFirst (first : Ssx) (hx : Stands s x) (h : Download none s) (hs : x.state = .staging)
    (hv : s.window w = some v) : Download none (stageFirst x w v first s) := by
  unfold stageFirst
  dsimp only
  split
  · next msg =>
    exact download_judgeBlock (hx.same ⟨rfl, rfl, rfl, rfl, rfl, rfl⟩) (Beside.download (beside_setBuffer _ _ _) (download_alike h hv (alike_buffered v _ _))) hs
  · next count msg =>
    have hb := beside_setBuffer (freeBuffer s) msg s
    have h1 : Download none (setChannelExchange { x with seg := x.seg.lead count 0 } (setBuffer (freeBuffer s) msg s)) :=
      (hx.beside hb).putSame (hb.download h) ⟨rfl, rfl, rfl, rfl, rfl, rfl⟩
    have h2 : Stands (setChannelExchange { x with seg := x.seg.lead count 0 } (setBuffer (freeBuffer s) msg s))
      { x with seg := x.seg.lead count 0 } := (hx.beside hb).set (hb.download h) rfl
    split
    · exact download_sendWait (h2.same ⟨rfl, rfl, rfl, rfl, rfl, rfl⟩) (download_alike h1 hv (alike_buffered v _ _))
    · exact download_sendProceed (h2.same ⟨rfl, rfl, rfl, rfl, rfl, rfl⟩) (download_alike h1 hv (alike_buffered v _ _))
  · exact h

theorem download_stagingFrame (frame : Ssx) (hx : Stands s x) (h : Download none s) (hs : x.state = .staging) :
    Download none (stagingFrame x frame s) := by
  unfold stagingFrame
  split
  · next i msg =>
    split
    · split
      · next v _ =>
        dsimp only
        have hb : Beside s (match v.buffer with
            | some b => setBuffer b (stagedBytes s v ++ msg) s
            | none => s) := by
          split
          · exact beside_setBuffer _ _ s
          · exact .refl s
        split
        · exact download_judgeBlock ((hx.beside hb).set (hb.download h) rfl) ((hx.beside hb).putSame (hb.download h) ⟨rfl, rfl, rfl, rfl, rfl, rfl⟩) hs
        · exact (hx.beside hb).putSame (hb.download h) ⟨rfl, rfl, rfl, rfl, rfl, rfl⟩
      · exact download_closeExchange _ hx h.mono
    · exact download_closeExchange _ hx h.mono
  · exact download_closeExchange _ hx h.mono

end Sys2Proof.Machine
end

section
/-! The law of R112 over the requests: admitted, with the window they take or are linked to, passed on, and an Open, a
Close or an Erase judged when it is complete (R113, R114, R123, R124). -/

namespace Sys2Proof.Machine

open Sys2Proof Sys2Proof.Safety

variable {s t : State} {e : Option (Fin 2)} {w : Fin 2} {v : Window} {x y : ChannelExchange} {c : Fin 16}
  {first : Ssx} {role : Role} {msg data : List Byte}

/-! ### A request is complete (R61, R114, R123, R124) -/

/-- The last frame of a request: an Open has its range by then. -/
theorem download_passLast (data : List Byte) (hx : Stands s x) (h : Download none s) (hs : x.state = .inbound)
    (hr : x.role = some .opening → ∀ w v, x.window = some w → s.window w = some v → v.range.isSome = true) :
    Download none (passLast x data s) := by
  refine download_offerThen _ _ hx h.mono fun t ht => ?_
  refine (hx.beside ht).put (y := requestDone x) (ht.download h).mono rfl rfl rfl (hb := fun w v hw hv hb => ?_)
    (hf := fun w v hw hv hblock => absurd hs (((hx.beside ht).base (ht.download h) hw hv).staged hblock))
  exact ⟨hb.channel, fun _ => .inr (.inl rfl), fun _ => nofun, fun ho _ => hr ho w v hw ((ht.windows w).symm.trans hv),
    hb.step, fun _ => nofun⟩

theorem download_judgeClose (data : List Byte) (hx : Stands s x) (h : Download none s) (hs : x.state = .inbound)
    (hr : x.role = some .closing) : Download none (judgeClose x data s) := by
  have hro : x.role ≠ some .opening := by rw [hr]; nofun
  unfold judgeClose
  split
  · exact download_passLast data hx h hs fun ho => absurd ho hro
  · next w hw =>
    split
    · exact download_passLast data hx h hs fun ho => absurd ho hro
    · next v hv =>
      split
      · exact download_closeDownload _ hx h hro
      · have hp : v.state ≠ .openPending := (hx.base h hw hv).step hro
        exact download_passLast data (hx.on w _) (download_alike h hv ⟨rfl, ⟨nofun, fun e => absurd e hp⟩, rfl, rfl, .inl rfl⟩)
          hs fun ho => absurd ho hro

/-- An Open that fails its check: its exchange and its window end. -/
theorem download_refuseOpen (w : Fin 2) (v : Window) (msg : List Byte) (r : Reason) (range : Bool)
    (h : Download none s) : Download none (refuseOpen w v msg r range s) := by
  have hc := download_closeLinked w r h
  unfold refuseOpen
  dsimp only
  generalize closeLinked w r s = z at hc ⊢
  split
  · generalize hu : appendInto _ _ _ _ _ (setWindow w _ z) = u
    have hx : u.exchanges = z.exchanges := by
      rw [← hu]
      exact appendInto_exchanges _ _ _ _ _ _
    have hw : ∀ y, y ≠ w → u.window y = z.window y := fun y hy => by
      rw [← hu]
      exact (window_of_inspector (appendInto_inspector _ _ _ _ _ _)).trans ((setWindow_window _ _ _ _).trans (if_neg hy))
    exact ((endPendingSilent_removes w _ true u).after hw hx).download hc (.inr rfl)
  · exact (endPendingSilent_removes _ _ _ _).download hc (.inr rfl)

/-- An Open that passes its check gives its window a range. -/
theorem download_ranged (r : Option (Nat × Nat)) (hx : Stands s x) (h : Download none s) (hs : x.state = .inbound)
    (hr : x.role = some .opening) (hw : x.window = some w) (hv : s.window w = some v) (hsome : r.isSome = true) :
    Download none (setWindow w (some { v with range := r }) s) := by
  have hp := (hx.base h hw hv).unread hr hs
  have hrun := (h.run w v hv).1.1 hp
  refine download_setWindow h hv ⟨(h.run w v hv).1, fun y hy => ?_⟩ id
    (fun _ _ _ hl => ⟨hl.channel, hl.states, hl.unread, fun _ _ => hsome, hl.step, hl.staged⟩) fun _ _ _ _ hl => hl
  rw [show ({ v with range := r } : Window).run = none from hrun] at hy
  cases hy

theorem download_judgeOpen (msg data : List Byte) (hx : Stands s x) (h : Download none s) (hs : x.state = .inbound)
    (hr : x.role = some .opening) : Download none (judgeOpen x msg data s) := by
  unfold judgeOpen
  split
  · next hw => exact download_passLast data hx h hs fun _ w v hw' => by rw [hw] at hw'; cases hw'
  · next w hw =>
    split
    · next hn =>
      refine download_passLast data hx h hs fun _ u v hu hv => ?_
      obtain rfl := Option.some.inj (hw.symm.trans hu)
      rw [hn] at hv
      cases hv
    · next v hv =>
      split
      · exact download_refuseOpen w v msg _ _ h
      · refine download_passLast data (hx.on w _) (download_ranged _ hx h hs hr hw hv rfl) hs fun _ u y hu hy => ?_
        obtain rfl := Option.some.inj (hw.symm.trans hu)
        obtain rfl := Option.some.inj ((window_put w _ s).symm.trans hy)
        rfl

theorem download_judgeErase (msg data : List Byte) (hx : Stands s x) (h : Download none s) (hs : x.state = .inbound)
    (hr : x.role = some .erase) : Download none (judgeErase x msg data s) := by
  have hro : x.role ≠ some .opening := by rw [hr]; nofun
  have pass : Download none (passLast x data s) := download_passLast data hx h hs fun ho => absurd ho hro
  have closed : ∀ (r : Reason) {t}, Beside s t → Download none (closeDownload x r t) := fun r _ ht =>
    download_closeDownload r (hx.beside ht) (ht.download h) hro
  unfold judgeErase
  dsimp only
  repeat' split
  all_goals with_reducible first
    | exact pass
    | exact closed _ (.refl s)
    | exact closed _ (beside_refuseTransfer _ _ _ _ s)
    | exact download_abortWindow _ _ _ _ ((beside_refuseTransfer _ _ _ _ s).download h)

theorem download_lastRequestFrame (msg data : List Byte) (hx : Stands s x) (h : Download none s)
    (hs : x.state = .inbound) : Download none (lastRequestFrame x msg data s) := by
  unfold lastRequestFrame
  split
  · next hr => exact download_judgeOpen msg data hx h hs hr
  · next hr => exact download_judgeClose data hx h hs hr
  · next hr => exact download_judgeErase msg data hx h hs hr
  · next hr _ _ => exact download_passLast data hx h hs fun ho => absurd ho hr

/-! ### The frames of a request (R44, R47, R58) -/

theorem download_passFirst (first : Ssx) (data : List Byte) (hx : Stands s x) (h : Download none s)
    (hs : x.state = .inbound) : Download none (passFirst x first data s) := by
  unfold passFirst
  split
  · exact download_lastRequestFrame _ _ hx h hs
  · exact download_offerThen _ _ hx h.mono fun _ ht => .stamped ((hx.beside ht).putSame (ht.download h) ⟨rfl, rfl, rfl, rfl, rfl, rfl⟩)
  · exact h

theorem download_requestFollow (i : Nat) (msg data : List Byte) (hx : Stands s x) (h : Download none s)
    (hs : x.state = .inbound) : Download none (requestFollow x i msg data s) := by
  unfold requestFollow
  dsimp only
  split
  · exact download_lastRequestFrame _ _ hx h hs
  · exact download_offerThen _ _ hx h.mono fun _ ht => .stamped ((hx.beside ht).putSame (ht.download h) ⟨rfl, rfl, rfl, rfl, rfl, rfl⟩)

/-! ### A request is admitted (R57, R58, R113) -/

theorem judgeStep_linked {r : Role} (h : judgeStep s c role first = .linked r w) : r = role ∧ ∃ v, windowOn s c = some (w, v) := by
  unfold judgeStep at h
  split at h
  · cases h
  · next u v hv =>
    split at h
    · cases h
    · cases h
      exact ⟨rfl, v, hv⟩

theorem judgeClass_ne_linked (c : Fin 16) (cls : ServiceClass) (o : Option Role) (first : Ssx) :
    judgeClass s c cls o first ≠ .linked role w := by
  unfold judgeClass judgeOpening
  dsimp only
  repeat' split
  all_goals nofun

/-- A step of a download is linked to the window of its channel, and is no Open. -/
theorem judgeFirst_linked {code : Byte} (h : judgeFirst s c code first = .linked role w) :
    role ≠ .opening ∧ ∃ v, s.window w = some v ∧ v.channel = c := by
  have step : ∀ r, r ≠ .opening → judgeStep s c r first = .linked role w →
      role ≠ .opening ∧ ∃ v, s.window w = some v ∧ v.channel = c := fun r hr hj => by
    obtain ⟨rfl, v, hv⟩ := judgeStep_linked hj
    exact ⟨hr, v, windowOn_some hv⟩
  unfold judgeFirst admission at h
  split at h
  · cases h
  · split at h
    · cases h
    · split at h
      · cases h
      · exact step .block nofun h
      · exact step .closing nofun h
      · exact step .erase nofun h
      · exact absurd h (judgeClass_ne_linked _ _ _ _)

theorem fresh_id (hs : exchangeLaw s) : ∀ y ∈ channelRecords s, y.id ≠ s.part.stamp := fun y hy => by
  obtain ⟨-, -, -, h⟩ := exchangeLaw_iff.1 hs
  exact (h _ (mem_channelRecords.1 hy)).ne

theorem Stands.joined (x : ChannelExchange) (s : State) : Stands (joinList x s) x :=
  .of_mem (by rw [channelRecords_join]; simp)

/-- On a channel without an exchange an open window is past OPEN_PENDING. -/
theorem Download.idle (h : Download none s) (hc : channelExchange s c = none) (hv : s.window w = some v)
    (hch : v.channel = c) : v.state ≠ .openPending := fun hp => by
  obtain ⟨x, hx, hxw, -⟩ := h.opening w v hv hp (by simp)
  rw [channelExchange_eq, List.find?_eq_none] at hc
  exact hc x hx (decide_eq_true ((h.base_of hx hxw hv).channel.symm.trans hch))

theorem download_stopIdle (w : Fin 2) (h : Download none s) : Download none (stopIdle w s) := by
  unfold stopIdle
  split
  · next v hv => exact download_alike h hv ⟨rfl, .rfl, rfl, rfl, .inl rfl⟩
  · exact h

theorem stopIdle_stands (w : Fin 2) (hx : Stands s x) : Stands (stopIdle w s) x := by
  unfold stopIdle
  split
  · exact hx.on w _
  · exact hx

theorem download_openStep (code : Byte) (first : Ssx) (data : List Byte) (hs : exchangeLaw s) (h : Download none s)
    (hc : channelExchange s c = none) (hr : role ≠ .opening) (hv : s.window w = some v) (hch : v.channel = c) :
    Download none (openStep c code role w first data s) := by
  have hro : (some role : Option Role) ≠ some .opening := fun e => hr (Option.some.inj e)
  have join : ∀ st : ExchState, (role ≠ .block → st = .inbound) → (role = .block → st = .staging) →
      Download none (stopIdle w (joinList (freshExchange s.part.stamp c code .reprogram (some role) (some w) st) s)) :=
    fun st h1 h2 => by
      refine download_stopIdle w (download_join h.mono (fresh_id hs) hc (fun u hu => ?_) fun _ _ _ _ hb hn => ?_)
      · obtain rfl := Option.some.inj hu
        exact ⟨v, hv, hch, fun hb => .inl (h1 fun e => hb (congrArg some e)), fun ho => absurd ho hro,
          fun ho => absurd ho hro, fun _ => h.idle hc hv hch,
          fun hb => by rw [show (freshExchange _ c code _ _ _ st).state = .staging from h2 (Option.some.inj hb)]; nofun⟩
      · exact absurd (h2 (Option.some.inj hb)) hn
  unfold openStep
  dsimp only
  split
  · next hb =>
    have hj := join .staging (fun hn => absurd hb hn) fun _ => rfl
    split
    · next y hy => exact download_stageFirst first (stopIdle_stands w (.joined _ _)) hj rfl hy
    · exact hj
  · next hb =>
    exact download_passFirst first data (stopIdle_stands w (.joined _ _)) (join .inbound (fun _ => rfl) fun e => absurd e hb)
      rfl

/-- A window taken for an Open waits for its exchange to join. -/
theorem download_takeWindow (g : Nat) (i : Fin 8) (h : Download none s) (hw : s.window w = none) :
    Download (some w) (takeWindow c g i w s) := by
  have hwin : ∀ u v, (takeWindow c g i w s).window u = some v →
      (u = w ∧ v = takenWindow c g i) ∨ (u ≠ w ∧ s.window u = some v) := fun u v hu => by
    rw [takeWindow_shape] at hu
    change (setWindow w (some (takenWindow c g i)) s).window u = some v at hu
    rw [setWindow_window] at hu
    split at hu
    · next e => exact .inl ⟨e, (Option.some.inj hu).symm⟩
    · next e => exact .inr ⟨e, hu⟩
  have off : ∀ x ∈ channelRecords s, x.window ≠ some w := fun x hx hxw => by
    obtain ⟨v, hv, -⟩ := h.base x hx w hxw
    rw [hw] at hv
    cases hv
  refine ⟨h.ids, h.channels, fun u v hu => ?_, fun u v hu hp he => ?_, fun x hx u hxu => ?_, fun x hx u v hxu hu he => ?_⟩
  · obtain ⟨-, rfl⟩ | ⟨-, hu⟩ := hwin u v hu
    · exact ⟨⟨fun _ => rfl, fun _ => rfl⟩, nofun⟩
    · exact h.run u v hu
  · obtain ⟨rfl, -⟩ | ⟨-, hu⟩ := hwin u v hu
    · exact absurd rfl he
    · exact h.opening u v hu hp (by simp)
  · obtain ⟨v, hv, hb⟩ := h.base x hx u hxu
    have hn : u ≠ w := fun e => off x hx (e ▸ hxu)
    refine ⟨v, ?_, hb⟩
    rw [takeWindow_shape]
    exact (setWindow_window s w u _).trans ((if_neg hn).trans hv)
  · obtain ⟨rfl, -⟩ | ⟨-, hu⟩ := hwin u v hu
    · exact absurd rfl he
    · exact h.fits x hx u v hxu hu (by simp)

theorem download_newRequest (first : Ssx) (msg data : List Byte) (hs : exchangeLaw s) (h : Download none s)
    (hc : channelExchange s c = none) : Download none (newRequest c first msg data s) := by
  unfold newRequest
  dsimp only
  split
  · exact (beside_gatewayReply _ _ _ _).download h
  · exact download_passFirst first data (.joined _ _)
      (download_join h (fresh_id hs) hc (fun _ hw => by cases hw) fun _ _ hw => by cases hw) rfl
  · next r w hj =>
    obtain ⟨hr, v, hv, hch⟩ := judgeFirst_linked hj
    exact download_openStep _ first data hs h hc hr hv hch
  · next g i w hj =>
    have hT := judgeFirst_opening hj
    have hwin : (takeWindow c g i w s).window w = some (takenWindow c g i) := by
      rw [takeWindow_shape]
      exact window_put w _ s
    refine download_passFirst first data (.joined _ _) (download_join (download_takeWindow g i h hT.free) (fresh_id hs) hc
      (fun u hu => ?_) fun _ _ _ _ => nofun) rfl
    obtain rfl := Option.some.inj hu
    exact ⟨_, hwin, rfl, fun _ => .inl rfl, fun _ _ => rfl, fun _ hn => absurd rfl hn, fun hn => absurd rfl hn, fun hn => nomatch hn⟩

end Sys2Proof.Machine
end

section
/-! The law of R112 over the replies, and over every frame of a channel (R45, R46, R49 to R53, R60 to R63, R115, R116,
R121 to R123). -/

namespace Sys2Proof.Machine

open Sys2Proof Sys2Proof.Safety

variable {s t : State} {e : Option (Fin 2)} {w : Fin 2} {v : Window} {x y : ChannelExchange} {c : Fin 16}
  {form : ReplyForm} {first : Ssx} {msg data : List Byte}

/-! ### The Inspector's part in a reply (R115, R116, R122, R123) -/

/-- An Open is accepted: its window starts at A with L remaining. -/
theorem download_acceptOpen (bmax : Nat) (hx : Stands s x) (h : Download none s) (hs : x.state = .awaiting)
    (hw : x.window = some w) (hv : s.window w = some v) (hp : v.state = .openPending) :
    Download none (acceptOpen w v bmax s) := by
  have hb := hx.base h hw hv
  have hr : x.role = some .opening := by
    by_contra hr
    exact hb.step hr hp
  obtain ⟨⟨a, l⟩, hrange⟩ := Option.isSome_iff_exists.1 (hb.judged hr (by rw [hs]; nofun))
  have put : ∀ (r : WindowRun) (k : Nat), r.next = a → r.remaining = l →
      Download none (setWindow w (some { v with state := .active, run := some r, reservations := k }) s) :=
    fun r k hn hl => by
      refine download_setWindow h hv ⟨⟨nofun, nofun⟩, fun r' hr' => ?_⟩ nofun (fun z hz hzw hz' => ?_) fun _ z hz hzw _ hblock => ?_
      · obtain rfl := Option.some.inj hr'
        exact ⟨a, l, hrange, hn.ge, by rw [hn, hl]⟩
      · have hone := hx.only h hw hz hzw
        exact ⟨hz'.channel, hz'.states, fun _ hi => (by rw [← hone.state, hs] at hi; cases hi), hz'.judged, fun _ => nofun,
          hz'.staged⟩
      · have hone := hx.only h hw hz hzw
        rw [← hone.role, hr] at hblock
        cases hblock
  unfold acceptOpen
  simp only [hrange, Option.getD_some]
  have hset := put { bmax := bmax, next := a, remaining := l, expected := 1, last := none, erase := true }
    (v.reservations - 1) rfl rfl
  rw [hrange] at hset
  exact download_suspendTest w (Beside.download ((beside_appendInto _ _ _ _ _ _).trans (beside_of (fun _ => rfl) rfl)) hset)

/-- A positive reply to a Block moves its window on; what is left of the block in hand is no longer owed. -/
theorem download_blockAnswered (hx : Stands s x) (h : Download none s) (hs : x.state = .awaiting)
    (hr : x.role = some .block) (hw : x.window = some w) (hv : s.window w = some v) :
    Download (some w) (blockAnswered w v s) := by
  unfold blockAnswered
  split
  · next b r hb hrun =>
    have hf := hx.fits h hw hv hr (by rw [hs]; nofun) (by rw [hs]; nofun) b hb r hrun
    obtain ⟨hstate, hfit⟩ := h.run w v hv
    obtain ⟨a, l, hrange, hle, hsum⟩ := hfit r hrun
    refine download_setWindow h.mono hv ⟨hstate.trans ⟨fun hn => ?_, nofun⟩, fun r' hr' => ?_⟩ id
      (fun _ _ _ hl => ⟨hl.1, hl.2, hl.3, hl.4, hl.5, hl.6⟩) fun hn => absurd rfl hn
    · rw [hrun] at hn
      cases hn
    · obtain rfl := Option.some.inj hr'
      refine ⟨a, l, hrange, ?_⟩
      unfold advance
      split
      · exact ⟨hle, hsum⟩
      · next ha =>
        have := hf (by simpa using ha)
        dsimp only
        omega
  · exact h.mono

/-- What is left of the exchange of a number, AWAITING, that its reply is to be passed to; or nothing is owed. -/
structure ReplyReady (n : Nat) (t : State) : Prop where
  found : ∀ y, ownedExchange t n = some y → y.state = .awaiting ∧ Download y.window t
  gone  : ownedExchange t n = none → Download none t

theorem replyReady_removed (hx : Stands s x) (h : Download none s) (hs : x.state = .awaiting) (k : Removes w s t) :
    ReplyReady x.id t := by
  have ht : Download none t := k.download h (.inl rfl)
  refine ⟨fun y hy => ⟨?_, ht.mono⟩, fun _ => ht⟩
  obtain ⟨hm, hid⟩ := ownedExchange_some hy
  obtain ⟨z, hz, hyz⟩ := (mem_unlinked k.exchanges).1 (mem_channelRecords.2 hm)
  obtain ⟨x', hx', hsame⟩ := hx
  have hzid : z.id = y.id := by rw [hyz]; split <;> rfl
  have hzs : z.state = y.state := by rw [hyz]; split <;> rfl
  obtain rfl : z = x' := List.inj_on_of_nodup_map h.ids hz hx' (hzid.trans (hid.trans hsame.id))
  exact hzs.symm.trans (hsame.state.symm.trans hs)

theorem replyReady_same (hx : Stands s x) (h : Download none s) (hs : x.state = .awaiting) (ht : Download x.window t)
    (hr : channelRecords t = channelRecords s) : ReplyReady x.id t := by
  obtain ⟨x', hx', hsame⟩ := hx
  refine ⟨fun y hy => ?_, fun hn => ?_⟩
  · obtain ⟨hm, hid⟩ := ownedExchange_some hy
    obtain rfl : y = x' := List.inj_on_of_nodup_map h.ids (hr ▸ mem_channelRecords.2 hm) hx' (hid.trans hsame.id)
    exact ⟨hsame.state.symm.trans hs, hsame.window ▸ ht⟩
  · rw [ownedExchange_eq, List.find?_eq_none, hr] at hn
    exact absurd (decide_eq_true hsame.id.symm) (hn x' hx')

theorem acceptOpen_exchanges (w : Fin 2) (v : Window) (bmax : Nat) (s : State) :
    (acceptOpen w v bmax s).exchanges = s.exchanges := by
  unfold acceptOpen suspendTest
  dsimp only
  repeat' split
  all_goals exact appendInto_exchanges _ _ _ _ _ _

theorem blockAnswered_exchanges (w : Fin 2) (v : Window) (s : State) : (blockAnswered w v s).exchanges = s.exchanges := by
  unfold blockAnswered
  split <;> rfl

/-- What the Inspector makes of a reply: one that it withholds has ended its exchange and its window, any other finds its
exchange ready. -/
structure Inspected (n : Nat) (p : State × Option (List Byte)) : Prop where
  withheld : p.2 = none → Download none p.1
  passed   : p.2 ≠ none → ReplyReady n p.1

theorem inspectReply_inspected (form : ReplyForm) (msg data : List Byte) (hx : Stands s x) (h : Download none s)
    (hs : x.state = .awaiting) : Inspected x.id (inspectReply x form msg data s) := by
  have ready : ∀ {t} {d : List Byte}, ReplyReady x.id t → Inspected x.id (t, some d) := fun hr => ⟨nofun, fun _ => hr⟩
  have unchanged : ∀ {d : List Byte}, Inspected x.id (s, some d) := ready (replyReady_same hx h hs h.mono rfl)
  have gone : ∀ {w t} {d : List Byte}, Removes w s t → Inspected x.id (t, some d) := fun k =>
    ready (replyReady_removed hx h hs k)
  unfold inspectReply
  split
  · exact unchanged
  · next w hw =>
    split
    · exact unchanged
    · next v hv =>
      split
      · next hp =>
        split
        · split
          · exact ⟨fun _ => (endPending_removes _ _ _ _ _ _).download (download_closeLinked w _ h) (.inr rfl), nofun⟩
          · exact ready (replyReady_same hx h hs (download_acceptOpen _ hx h hs hw hv hp).mono
              (by rw [channelRecords, acceptOpen_exchanges]; rfl))
        · exact gone (endPendingSilent_removes _ _ _ _)
      · split
        · exact gone (endActive_removes _ _ _ _ _ _)
        · exact gone (endActive_removes _ _ _ _ _ _)
      · next hr _ _ =>
        split
        · exact ready (replyReady_same hx h hs (hw ▸ download_blockAnswered hx h hs hr hw hv)
            (by rw [channelRecords, blockAnswered_exchanges]; rfl))
        · exact unchanged
      · exact unchanged

/-! ### The frames of a reply (R47, R62, R63) -/

/-- A final reply, or the lead of a still-working message, is passed on. -/
theorem download_passReply (form : ReplyForm) (first : Ssx) (data : List Byte) (hx : Stands s x)
    (h : Download x.window s) (hi : x.state ≠ .inbound)
    (hf : form = .stillWorking → ∀ w v, x.window = some w → s.window w = some v → LinkFits v x) (hst : x.state ≠ .staging)
    (hre : x.state ≠ .replying) : Download none (passReply x form first data s) := by
  unfold passReply
  split
  · refine download_offerThen _ _ hx h fun t ht => Download.stamped ?_
    refine (hx.beside ht).put (ht.download h) rfl rfl rfl (hb := fun _ _ _ _ hb => hb.moved hi nofun (.inr (.inr rfl)) rfl rfl)
      (hf := fun w v hw hv hr _ hform => ?_)
    exact hf (hform rfl) w v hw ((ht.windows w).symm.trans hv) hr hst fun e => absurd e hre
  · exact download_offerThen _ _ hx h fun t ht => download_closeExchange _ (hx.beside ht) (ht.download h)

theorem download_takeReply (first : Ssx) (msg data : List Byte) (hx : Stands s x) (h : Download none s)
    (hs : x.state = .awaiting) : Download none (takeReply x first msg data s) := by
  have hx' : Stands s { x with timer := .stopped } := hx.same ⟨rfl, rfl, rfl, rfl, rfl, rfl⟩
  have h1 : x.state ≠ .inbound := by rw [hs]; nofun
  have h2 : x.state ≠ .staging := by rw [hs]; nofun
  have h3 : x.state ≠ .replying := by rw [hs]; nofun
  unfold takeReply
  dsimp only
  split
  · split
    · exact download_closeExchange _ hx' h.mono
    · split
      · exact download_passReply _ _ _ hx' h.mono h1 (fun _ w v hw hv => hx'.fits h hw hv) h2 h3
      · exact download_offerThen _ _ hx' h.mono fun t ht =>
          (hx'.beside ht).move (ht.download h) h1 h2 (fun e => absurd e h3) (.inl rfl) rfl rfl rfl rfl
  · next hform =>
    have hp : Download none (setChannelExchange { x with timer := .stopped } s) := hx.putSame h ⟨rfl, rfl, rfl, rfl, rfl, rfl⟩
    have hins := inspectReply_inspected (replyForm x.code msg) msg data (hx.set h (y := { x with timer := .stopped }) rfl) hp hs
    split
    · next t e =>
      rw [e] at hins
      exact hins.withheld rfl
    · next t d e =>
      rw [e] at hins
      obtain ⟨hfound, hgone⟩ := hins.passed nofun
      split
      · next y hy =>
        obtain ⟨hys, hyd⟩ := hfound y hy
        exact download_passReply _ _ _ (.of_mem (mem_channelRecords.2 (ownedExchange_some hy).1)) hyd (by rw [hys]; nofun)
          (fun e => absurd e hform) (by rw [hys]; nofun) (by rw [hys]; nofun)
      · next hn => exact hgone hn

theorem download_replyFollow (i : Nat) (msg data : List Byte) (hx : Stands s x) (h : Download none s)
    (hs : x.state = .replying) : Download none (replyFollow x i msg data s) := by
  unfold replyFollow
  dsimp only
  split
  · refine download_offerThen _ _ hx h.mono fun t ht => ?_
    split
    · next hf =>
      exact (hx.beside ht).move (ht.download h) (by rw [hs]; nofun) (by rw [hs]; nofun) (fun _ => hf) (.inl rfl) rfl rfl rfl rfl
    · exact download_closeExchange _ (hx.beside ht) (ht.download h).mono
  · exact download_offerThen _ _ hx h.mono fun _ ht => .stamped ((hx.beside ht).putSame (ht.download h) ⟨rfl, rfl, rfl, rfl, rfl, rfl⟩)

/-! ### Pace frames (R45, R46, R53, R121) -/

/-- A pace frame that is passed on changes segments alone, or ends the exchange. -/
theorem download_requestPace (i code gap : Nat) (data : List Byte) (hx : Stands s x) (h : Download none s) :
    Download none (requestPace x i code gap data s) := by
  unfold requestPace
  dsimp only
  split
  · exact download_offerThen _ _ hx h.mono fun _ ht => .stamped ((hx.beside ht).putSame (ht.download h) ⟨rfl, rfl, rfl, rfl, rfl, rfl⟩)
  · split
    · exact download_offerThen _ _ hx h.mono fun _ ht => .stamped ((hx.beside ht).putSame (ht.download h) ⟨rfl, rfl, rfl, rfl, rfl, rfl⟩)
    · exact download_offerThen _ _ hx h.mono fun t ht => download_closeExchange _ (hx.beside ht) (ht.download h).mono

theorem download_replyPace (i code gap : Nat) (data : List Byte) (hx : Stands s x) (h : Download none s) :
    Download none (replyPace x i code gap data s) := by
  unfold replyPace
  dsimp only
  split
  · exact download_offerThen _ _ hx h.mono fun _ ht => .stamped ((hx.beside ht).putSame (ht.download h) ⟨rfl, rfl, rfl, rfl, rfl, rfl⟩)
  · split
    · exact download_offerThen _ _ hx h.mono fun _ ht => .stamped ((hx.beside ht).putSame (ht.download h) ⟨rfl, rfl, rfl, rfl, rfl, rfl⟩)
    · exact download_offerThen _ _ hx h.mono fun t ht => download_closeExchange _ (hx.beside ht) (ht.download h).mono

theorem download_blockRefused (hx : Stands s x) (h : Download none s) : Download none (blockRefused x s) := by
  unfold blockRefused
  split
  · exact download_closeExchange _ hx h.mono
  · split
    · exact download_closeExchange _ hx h.mono
    · exact (endActive_removes _ _ _ _ _ _).download (download_closeLinked _ _ h) (.inr rfl)

theorem download_outboundPace (i code gap : Nat) (hx : Stands s x) (h : Download none s) :
    Download none (outboundPace x i code gap s) := by
  unfold outboundPace
  dsimp only
  split
  · exact download_sendFollows _ (hx.same ⟨rfl, rfl, rfl, rfl, rfl, rfl⟩) h
  · split
    · exact hx.putSame h ⟨rfl, rfl, rfl, rfl, rfl, rfl⟩
    · exact download_blockRefused hx h

/-! ### Frames handed to the Tracker (R49 to R51, R57, R60) -/

theorem download_toolPending (data : List Byte) (hx : Stands s x) (h : Download none s) :
    Download none (toolPending x data s) := by
  have broken : Download none (closeExchange x .broken s) := download_closeExchange _ hx h.mono
  unfold toolPending
  split
  · exact (beside_gatewayReply _ _ _ _).download h
  · exact (beside_gatewayReply _ _ _ _).download h
  · split
    · next hs => exact download_stagingFrame _ hx h hs
    · next hs _ =>
      split
      · exact download_requestFollow _ _ _ hx h hs
      · exact broken
    · split
      · exact download_replyPace _ _ _ _ hx h
      · exact broken
    · exact broken

theorem download_toolFrame (c : Fin 16) (data : List Byte) (hs : exchangeLaw s) (h : Download none s) :
    Download none (toolFrame c data s) := by
  unfold toolFrame
  split
  · next x hx => exact download_toolPending data (.of_mem (mem_channelRecords.2 (channelExchange_some hx).1)) h
  · next hc =>
    split
    · exact download_newRequest _ _ _ hs h hc
    · exact download_newRequest _ _ _ hs h hc
    · exact h

theorem beside_dropLate (c : Fin 16) (s : State) : Beside s (dropLate c s) := beside_count _ _ s

theorem download_controllerPending (data : List Byte) (hx : Stands s x) (h : Download none s) :
    Download none (controllerPending x data s) := by
  have broken : Download none (closeExchange x .broken s) := download_closeExchange _ hx h.mono
  unfold controllerPending
  split
  · exact (beside_dropLate _ s).download h
  · exact (beside_dropLate _ s).download h
  · split
    · exact download_outboundPace _ _ _ hx h
    · exact broken
  · split
    · exact download_requestPace _ _ _ _ hx h
    · exact broken
  · next hs _ => exact download_takeReply _ _ _ hx h hs
  · next hs _ => exact download_takeReply _ _ _ hx h hs
  · next hs _ =>
    split
    · exact download_replyFollow _ _ _ hx h hs
    · exact broken
  · exact broken

theorem download_controllerFrame (c : Fin 16) (data : List Byte) (h : Download none s) :
    Download none (controllerFrame c data s) := by
  unfold controllerFrame
  split
  · next x hx => exact download_controllerPending data (.of_mem (mem_channelRecords.2 (channelExchange_some hx).1)) h
  · exact (beside_dropLate _ s).download h

end Sys2Proof.Machine
end

section
/-! The requests, the proofs, the store operations and the ports that leave the windows and the channels' exchanges
alone. -/

namespace Sys2Proof.Machine

open Sys2Proof Sys2Proof.Safety

variable {s t : State} {x : MgmtExchange}

/-! ### Reception, refill and recovery (R1, R2, R9, R134) -/

theorem beside_receive (p : Port) (f : BusFrame) (s : State) : Beside s (receive p f s) := by
  unfold receive fifoOffer
  dsimp only
  split
  · exact .refl s
  · have hc : Beside s ((presetQuiet s).count p Counters.addReceived) :=
      .trans (beside_of (t := presetQuiet s) (fun _ => rfl) rfl) (beside_count _ _ _)
    split
    · exact hc.trans (beside_count _ _ _)
    · split
      · exact hc.trans (beside_setPort _ _ _)
      · exact hc.trans (beside_count _ _ _)

theorem beside_refill (n : Net) (s : State) : Beside s (refill n s) :=
  (beside_setCredit _ _ _).trans (beside_testHead _ _)

theorem beside_recover (p : Port) (s : State) : Beside s (recover p s) := by
  unfold recover
  split
  · have h := beside_setPort p { s.port p with status := .active, fault := 0, out := [], recovery := none } s
    cases p
    · exact h
    · exact h.trans (beside_setCredit .E _ _)
    · exact h.trans (beside_setCredit .C _ _)
  · exact .refl s

theorem beside_transmissionLost (p : Port) (s : State) : Beside s (transmissionLost p s) := by
  unfold transmissionLost
  split
  · exact beside_of (fun _ => rfl) rfl
  · exact .refl s

theorem beside_sleepTest (s : State) : Beside s (sleepTest s) := by
  unfold sleepTest
  split
  · exact beside_of (fun _ => rfl) rfl
  · exact .refl s

/-! ### Reading requests (R155 to R158, R148) -/

theorem beside_countersRead (x : MgmtExchange) (s : State) : Beside s (countersRead x s) := by
  unfold countersRead; split <;> exact beside_answer _ _ s

theorem beside_tableRead (x : MgmtExchange) (s : State) : Beside s (tableRead x s) := by
  unfold tableRead; split <;> exact beside_answer _ _ s

/-! ### Requests of grants, credentials and the store (R88 to R93, R101, R150, R160, R162) -/

theorem beside_pushWork (r : StoreRequest) (x : MgmtExchange) (s : State) :
    Beside s (setWork x .awaitStore (pushStore r s)) :=
  .trans (beside_of (t := pushStore r s) (fun _ => rfl) rfl) (beside_setWork _ _ _)

theorem beside_issueChallenge (k : Fin 8) (channels : BitVec 16) (classes : BitVec 6) (n : Nat) (s : State) :
    Beside s (issueChallenge k channels classes n s) := beside_of (fun _ => rfl) rfl

theorem beside_updateGrant (n : Nat) (f : Grant → Grant) (s : State) : Beside s (updateGrant n f s) := beside_of (fun _ => rfl) rfl

theorem beside_accessRequest (m : Mgmt) (x : MgmtExchange) (s : State) : Beside s (accessRequest m x s) := by
  unfold accessRequest
  dsimp only
  repeat' split
  all_goals with_reducible first
    | exact beside_refuse _ _ s
    | exact .trans (beside_issueChallenge _ _ _ _ s) (beside_accept _ _ _)

theorem beside_accessProof (m : Mgmt) (x : MgmtExchange) (s : State) : Beside s (accessProof m x s) := by
  unfold accessProof
  dsimp only
  repeat' split
  · exact beside_refuse _ _ s
  · exact beside_refuse _ _ s
  · exact beside_refuse _ _ s
  · refine .trans ?_ (beside_refuse x .recordFull _)
    exact beside_of (fun _ => rfl) rfl
  · next ch _ _ =>
    exact .trans (beside_of (t := startDigest (freeNumber s.grants.grants) ch _ s) (fun _ => rfl) rfl) (beside_setWork _ _ _)

theorem beside_grantExtend (m : Mgmt) (x : MgmtExchange) (s : State) : Beside s (grantExtend m x s) := by
  unfold grantExtend
  dsimp only
  repeat' split
  all_goals with_reducible first
    | exact beside_refuse _ _ s
    | exact .trans (beside_updateGrant _ _ s) (beside_accept _ _ _)

theorem beside_credentialWrite (m : Mgmt) (x : MgmtExchange) (s : State) : Beside s (credentialWrite m x s) := by
  unfold credentialWrite
  dsimp only
  repeat' split
  all_goals with_reducible first
    | exact beside_refuse _ _ s
    | exact beside_pushWork _ _ s

theorem beside_credentialWithdraw (m : Mgmt) (x : MgmtExchange) (s : State) : Beside s (credentialWithdraw m x s) := by
  unfold credentialWithdraw
  dsimp only
  repeat' split
  all_goals with_reducible first
    | exact beside_refuse _ _ s
    | exact beside_pushWork _ _ s

theorem beside_writeStored (m : Mgmt) (x : MgmtExchange) (s : State) : Beside s (writeStored m x s) := by
  unfold writeStored
  repeat' split
  all_goals with_reducible first
    | exact beside_refuse _ _ s
    | exact beside_pushWork _ _ s

theorem beside_lockPolicyWrite (m : Mgmt) (x : MgmtExchange) (s : State) : Beside s (lockPolicyWrite m x s) := by
  unfold lockPolicyWrite
  repeat' split
  all_goals with_reducible first
    | exact beside_refuse _ _ s
    | exact beside_accept _ _ s
    | exact beside_pushWork _ _ s

theorem beside_recordAcknowledge (m : Mgmt) (x : MgmtExchange) (s : State) : Beside s (recordAcknowledge m x s) := by
  unfold recordAcknowledge
  dsimp only
  repeat' split
  all_goals with_reducible first
    | exact beside_refuse _ _ s
    | exact beside_accept _ _ s
    | exact beside_pushWork _ _ s

/-! ### The failure count and the digest (R92, R94, R95, R97) -/

theorem beside_writeFailures (n : Nat) (s : State) : Beside s (writeFailures n s) := by
  unfold writeFailures
  split <;> exact beside_of (fun _ => rfl) rfl

theorem beside_clearFailures (s : State) : Beside s (clearFailures s) := by
  unfold clearFailures
  split
  · exact .refl s
  · refine .trans ?_ (beside_writeFailures 0 _)
    exact beside_of (fun _ => rfl) rfl

theorem beside_lockoutOver (s : State) : Beside s (lockoutOver s) := by
  unfold lockoutOver
  split
  · refine .trans ?_ (beside_clearFailures _)
    exact beside_of (fun _ => rfl) rfl
  · exact .refl s

theorem beside_raiseLockout (s : State) : Beside s (raiseLockout s) := beside_of (fun _ => rfl) rfl

theorem beside_beginLockout (k : Fin 8) (s : State) : Beside s (beginLockout k s) := by
  unfold beginLockout
  split
  · refine .trans (.trans ?_ (beside_appendEntry _ _ _ _ _)) (beside_raiseLockout _)
    exact beside_of (fun _ => rfl) rfl
  · exact .refl s

theorem beside_proofFailed (d : DigestRun) (s : State) : Beside s (proofFailed d s) := by
  unfold proofFailed
  dsimp only
  refine .trans (.trans (.trans (.trans ?_ (beside_writeFailures _ _)) (beside_appendEntry _ _ _ _ _))
    (beside_beginLockout _ _)) (beside_answerProof _ _ _)
  exact beside_of (fun _ => rfl) rfl

theorem beside_proofMatched (d : DigestRun) (s : State) : Beside s (proofMatched d s) := by
  unfold proofMatched
  split
  · exact beside_clearFailures s
  · split
    · exact .trans (.trans (beside_of (t := dropGrant _ s) (fun _ => rfl) rfl) (beside_clearFailures _)) (beside_answerProof _ _ _)
    · split
      · exact .trans (.trans (beside_writeEntry _ _ _ _ s) (beside_updateGrant _ _ _)) (beside_clearFailures _)
      · exact .trans (.trans (beside_of (t := dropGrant _ (addUnrecorded 1 s)) (fun _ => rfl) rfl) (beside_clearFailures _))
          (beside_answerProof _ _ _)

theorem beside_digestComplete (s : State) : Beside s (digestComplete s) := by
  unfold digestComplete
  split
  · exact .refl s
  · next d _ =>
    have hd : Beside s { s with grants := { s.grants with digest := none } } := beside_of (fun _ => rfl) rfl
    dsimp only
    split
    · exact hd
    · split
      · exact hd.trans (beside_proofMatched _ _)
      · exact hd.trans (beside_proofFailed _ _)

/-! ### Store operations (R88, R96, R145, R150, R160, R162) -/

theorem beside_grantDecided (n : Nat) (pass : Bool) (s : State) : Beside s (grantDecided n pass s) := by
  unfold grantDecided
  split
  · exact .refl s
  · split
    · exact .trans (beside_of (t := dropGrant n s) (fun _ => rfl) rfl) (beside_answerProof _ _ _)
    · split
      · exact (beside_grantClose _ _ s).trans (beside_answerProof _ _ _)
      · dsimp only
        refine .trans (t := relamp (updateGrant n _ s)) ?_ (beside_answerProof _ _ _)
        exact beside_of (fun _ => rfl) rfl

theorem beside_reportOpened (e : Entry) (pass : Bool) (s : State) : Beside s (reportOpened e pass s) := by
  unfold reportOpened
  split
  · exact beside_grantDecided _ _ s
  · exact .refl s

theorem beside_appendFailed (e : Entry) (s : State) : Beside s (appendFailed e s) := by
  unfold appendFailed
  dsimp only
  split <;> exact beside_of (fun _ => rfl) rfl

theorem beside_beginQueue : ∀ (q : List StoreRequest) (s : State), Beside s (beginQueue q s)
  | [], s => beside_of (fun _ => rfl) rfl
  | r :: rest, s => by
    cases r with
    | tableEntry e c id =>
      simp only [beginQueue]
      split
      · exact (beside_answer _ _ s).trans (beside_beginQueue rest _)
      · exact beside_of (fun _ => rfl) rfl
    | _ => exact beside_of (fun _ => rfl) rfl

theorem beside_complete {rest : List StoreRequest} {f : State → State} (h : ∀ t, Beside t (f t)) (s : State) :
    Beside s (complete rest f s) :=
  .trans (.trans (beside_of (t := setQueue rest s) (fun _ => rfl) rfl) (h _)) (beside_beginQueue _ _)

theorem beside_storeFailed (n : Nat) (code : Byte) (s : State) : Beside s (storeFailed n code s) :=
  .trans (beside_of (t := raiseStoreFail s) (fun _ => rfl) rfl) (beside_answer _ _ _)

theorem beside_appendComplete (pass : Bool) (s : State) : Beside s (appendComplete pass s) := by
  unfold appendComplete
  split
  · refine beside_complete (fun t => ?_) s
    split
    · exact .trans (beside_of (t := appendPassed _ t) (fun _ => rfl) rfl) (beside_reportOpened _ _ _)
    · exact (beside_appendFailed _ t).trans (beside_reportOpened _ _ _)
  · exact .refl s

theorem beside_failureCountWriteComplete (pass : Bool) (s : State) : Beside s (failureCountWriteComplete pass s) := by
  unfold failureCountWriteComplete
  split
  · exact beside_complete (fun t => by split <;> exact beside_of (fun _ => rfl) rfl) s
  · exact .refl s

theorem beside_mapFollows (e : TableEntry) (s : State) : Beside s (mapFollows e s) := by
  unfold mapFollows
  split
  · split <;> exact beside_of (fun _ => rfl) rfl
  · exact .refl s

theorem beside_tableWritten (e : TableEntry) (c : Option (Nat × Fin 8)) (n : Nat) (s : State) :
    Beside s (tableWritten e c n s) := by
  unfold tableWritten
  dsimp only
  refine .trans (.trans (.trans (t := writeImage (storedForm s e) s) ?_ (beside_appendEntry _ _ _ _ _))
    (beside_mapFollows _ _)) (beside_answer _ _ _)
  exact beside_of (fun _ => rfl) rfl

theorem beside_tableEntryWriteComplete (pass : Bool) (s : State) : Beside s (tableEntryWriteComplete pass s) := by
  unfold tableEntryWriteComplete
  split
  · refine beside_complete (fun t => ?_) s
    split
    · exact beside_tableWritten _ _ _ t
    · exact beside_storeFailed _ _ t
  · exact .refl s

theorem beside_credentialWritten (i : Fin 8) (key : BitVec 128) (c : Option Nat) (n : Nat) (s : State) :
    Beside s (credentialWritten i key c n s) :=
  .trans (.trans (beside_of (t := storeSlot i _ s) (fun _ => rfl) rfl) (beside_appendEntry _ _ _ _ _)) (beside_answer _ _ _)

theorem beside_credentialWriteComplete (pass : Bool) (s : State) : Beside s (credentialWriteComplete pass s) := by
  unfold credentialWriteComplete
  split
  · refine beside_complete (fun t => ?_) s
    split
    · exact beside_credentialWritten _ _ _ _ t
    · exact beside_storeFailed _ _ t
  · exact .refl s

theorem beside_lockWritten (p : LockPolicy) (c : Option (Nat × Fin 8)) (n : Nat) (s : State) :
    Beside s (lockWritten p c n s) := by
  unfold lockWritten
  dsimp only
  refine .trans (.trans ?_ (beside_appendEntry _ _ _ _ _)) (beside_answer _ _ _)
  exact beside_of (fun _ => rfl) rfl

theorem beside_lockPolicyWriteComplete (pass : Bool) (s : State) : Beside s (lockPolicyWriteComplete pass s) := by
  unfold lockPolicyWriteComplete
  split
  · refine beside_complete (fun t => ?_) s
    split
    · exact beside_lockWritten _ _ _ t
    · exact beside_storeFailed _ _ t
  · exact .refl s

theorem beside_trimComplete (pass : Bool) (s : State) : Beside s (trimComplete pass s) := by
  unfold trimComplete
  split
  · refine beside_complete (fun t => ?_) s
    split
    · exact .trans (beside_of (t := removeOldest _ t) (fun _ => rfl) rfl) (beside_answer _ _ _)
    · exact beside_storeFailed _ _ t
  · exact .refl s

/-! ### Table writes (R3, R138, R159) -/

theorem beside_applyPorts (p : PortSettings) (s : State) : Beside s (applyPorts p s) := by
  rw [applyPorts_touches]
  exact beside_of (fun _ => rfl) rfl

end Sys2Proof.Machine
end

section
/-! The law of R112 over the frames a port takes, sends and loses, the timers, the lines, and the working tables. -/

namespace Sys2Proof.Machine

open Sys2Proof Sys2Proof.Safety

variable {s t : State} {w : Fin 2} {v : Window} {x : ChannelExchange}

theorem Download.moved {e : Option (Fin 2)} (h : Download e s) (hw : ∀ w, t.window w = s.window w)
    (hx : t.exchanges = s.exchanges) : Download e t := (beside_of hw hx).download h

theorem Stands.on_channel {c : Fin 16} (h : channelExchange s c = some x) : Stands s x :=
  .of_mem (mem_channelRecords.2 (channelExchange_some h).1)

theorem Stands.of_number {n : Nat} (h : ownedExchange s n = some x) : Stands s x :=
  .of_mem (mem_channelRecords.2 (ownedExchange_some h).1)

/-! ### The Router (R23 to R27) -/

theorem download_offerSignals (n : Net) (f : Frame) (h : Download none s) : Download none (offerSignals n f s) :=
  download_reportConditions _ (h.moved (fun _ => rfl) rfl)

theorem download_classifyW (f : Frame) (hs : exchangeLaw s) (h : Download none s) : Download none (classifyW f s) := by
  unfold classifyW
  split
  · exact (beside_mgmtFrame _ _ s).download h
  · split
    · exact download_toolFrame _ _ hs h
    · exact (beside_count _ _ s).download h

theorem download_classifyNet (n : Net) (f : Frame) (h : Download none s) : Download none (classifyNet n f s) := by
  unfold classifyNet
  split
  · exact (beside_mgmtFrame _ _ s).download h
  · split
    · exact download_controllerFrame _ _ h
    · exact (beside_offerMirrors _ _ _).download (download_offerSignals _ _ h)

theorem download_routerTakes (p : Port) (hs : exchangeLaw s) (h : Download none s) : Download none (routerTakes p s) := by
  unfold routerTakes
  split
  · exact h
  · next f rest _ =>
    have ht := (beside_setPort p { s.port p with rx := rest } s).download h
    cases p
    · exact download_classifyW _ (setPort_exchangeLaw hs _ _) ht
    · exact download_classifyNet _ _ ht
    · exact download_classifyNet _ _ ht

/-! ### A frame has been sent (R7, R48, R53, R61) -/

theorem download_channelSent (mark : Mark) (hx : Stands s x) (h : Download none s) :
    Download none (channelSent x mark s) := by
  unfold channelSent
  split
  · exact h
  · exact hx.putSame h ⟨rfl, rfl, rfl, rfl, rfl, rfl⟩
  · split
    · exact hx.putSame h ⟨rfl, rfl, rfl, rfl, rfl, rfl⟩
    · exact h
  · split
    · exact hx.putSame h ⟨rfl, rfl, rfl, rfl, rfl, rfl⟩
    · exact h
  · split
    · next hs => exact download_blockSent hx h hs
    · exact h

theorem beside_mgmtSent (x : MgmtExchange) (mark : Mark) (s : State) : Beside s (mgmtSent x mark s) := by
  unfold mgmtSent
  split
  · exact beside_setMgmt _ s
  · split
    · exact beside_setMgmt _ s
    · exact .refl s
  · split
    · exact beside_closeMgmt _ s
    · exact .refl s
  · exact .refl s

theorem beside_sideSent (m : Mgmt) (n : Nat) (g : Seg) (msg : List Byte) (o : Option Nat) (mark : Mark) (s : State) :
    Beside s (sideSent m n g msg o mark s) := by
  unfold sideSent
  split
  · exact beside_setSide _ _ s
  · split
    · exact beside_setSide _ _ s
    · exact .refl s
  · exact beside_setSide _ _ s
  · exact .refl s

theorem beside_mgmtFrameGone (n : Nat) (s : State) : Beside s (mgmtFrameGone n s) := beside_of (fun _ => rfl) rfl

theorem download_sentEffect (f : OutFrame) (h : Download none s) : Download none (sentEffect f s) := by
  have sent : Download none (match ownedExchange s f.owner with
      | some x => channelSent x f.mark s
      | none => s) := by
    split
    · next x hx => exact download_channelSent _ (.of_number hx) h
    · exact h
  unfold sentEffect
  split
  · exact sent
  · exact sent
  · refine (beside_mgmtFrameGone _ _).download ?_
    split
    · exact (beside_mgmtSent _ _ s).download h
    · exact h
  · split
    · split
      · exact (beside_sideSent _ _ _ _ _ _ s).download h
      · exact h
    · exact h
  · exact h
  · exact h
  · exact h

theorem download_frameSent (p : Port) (h : Download none s) : Download none (frameSent p s) := by
  unfold frameSent
  split
  · refine download_sentEffect _ ((beside_testPort _ _).download ((beside_setPort _ _ _).download ?_))
    exact h.moved (fun _ => rfl) rfl
  · exact h

/-! ### A port is withdrawn (R8, R67, R129) -/

theorem download_flushed (p : Port) (f : OutFrame) (h : Download none s) : Download none (flushed p f s) := by
  have gone : Download none (match ownedExchange s f.owner with
      | some x => closeExchange x (.portDown (p != .W)) s
      | none => s) := by
    split
    · next x hx => exact download_closeExchange _ (.of_number hx) h.mono
    · exact h
  unfold flushed
  split
  · exact gone
  · exact gone
  · exact (beside_mgmtFrameGone _ _).download ((beside_closeMgmt _ s).download h)
  · split
    · split
      · exact (beside_setSide _ _ s).download h
      · exact h
    · exact h
  · exact h
  · exact h
  · exact h

theorem download_closeDown (n : Nat) (h : Download none s) : Download none (closeDown s n) := by
  unfold closeDown
  split
  · next x hx => exact download_closeExchange _ (.of_number hx) h.mono
  · exact h

theorem download_windowDown (p : Port) (w : Fin 2) (h : Download none s) : Download none (windowDown p w s) := by
  unfold windowDown
  split
  · split
    · exact (endAborted_removes _ _ _ _ _).download h (.inl rfl)
    · exact h
  · exact h

theorem download_foldl {α : Type} {f : State → α → State} (hf : ∀ {s} a, Download none s → Download none (f s a)) :
    ∀ (l : List α) {s : State}, Download none s → Download none (l.foldl f s)
  | [], _, h => h
  | a :: l, _, h => download_foldl hf l (hf a h)

theorem beside_raiseWithdrawn (p : Port) (s : State) : Beside s (raiseWithdrawn p s) := by cases p <;> exact beside_of (fun _ => rfl) rfl

theorem download_withdraw (p : Port) (h : Download none s) : Download none (withdraw p s) := by
  unfold withdraw
  dsimp only
  refine (beside_raiseWithdrawn _ _).download (download_windowDown _ _ (download_windowDown _ _ ?_))
  refine download_foldl download_closeDown _ ((beside_count _ _ _).download ?_)
  exact download_foldl (fun f => download_flushed p f) _ ((beside_setPort _ _ s).download h)

theorem download_transmissionFailed (p : Port) (h : Download none s) : Download none (transmissionFailed p s) := by
  unfold transmissionFailed
  split
  · have ht := (beside_setPort p { s.port p with fault := (s.port p).fault + 8 } s).download h
    dsimp only
    split
    · exact download_withdraw p ht
    · exact ht
  · exact h

/-! ### Timers (R48, R53, R64, R83, R100, R118, R125 to R127) -/

theorem download_replyExpired (c : Fin 16) (h : Download none s) : Download none (replyExpired c s) := by
  unfold replyExpired
  split
  · next x hx =>
    split
    · exact download_closeExchange _ (.on_channel hx) h.mono
    · exact h
  · exact h

theorem beside_mgmtExpired (x : MgmtExchange) (s : State) : Beside s (mgmtExpired x s) := by
  unfold mgmtExpired
  split
  · exact .refl s
  · exact beside_requestBroken _ s
  · exact beside_closeMgmt _ s

theorem download_segmentExpired (r : MessageRef) (h : Download none s) : Download none (segmentExpired r s) := by
  unfold segmentExpired
  split
  · split
    · next x hx =>
      split
      · exact download_closeExchange _ (.on_channel hx) h.mono
      · exact h
    · exact h
  · split
    · exact (beside_mgmtExpired _ s).download h
    · exact h
  · split
    · split
      · exact (beside_setSide _ _ s).download h
      · exact h
    · exact h

theorem download_gapPassed (r : MessageRef) (h : Download none s) : Download none (gapPassed r s) := by
  unfold gapPassed
  split
  · split
    · next x hx =>
      split
      · exact download_sendFollows _ (.on_channel hx) h
      · exact h
    · exact h
  · split
    · split
      · exact (beside_replyFollows _ _ s).download h
      · exact h
    · exact h
  · split
    · split
      · exact (beside_sideFollows _ _ _ _ _ s).download h
      · exact h
    · exact h

theorem download_graceExpired (w : Fin 2) (h : Download none s) : Download none (graceExpired w s) := by
  unfold graceExpired
  split
  · split
    · exact download_abortWindow _ _ _ _ h
    · exact h
  · exact h

theorem download_idleExpired (w : Fin 2) (h : Download none s) : Download none (idleExpired w s) := by
  unfold idleExpired
  split
  · split
    · exact (endActive_removes _ _ _ _ _ _).download h (.inl rfl)
    · exact h
  · exact h

theorem download_holdExpired (w : Fin 2) (h : Download none s) : Download none (holdExpired w s) := by
  unfold holdExpired
  split
  · next v x hv hx =>
    split
    · have ht : Download none (setWindow w (some { v with hold := some 2000 }) s) :=
        download_alike h hv ⟨rfl, .rfl, rfl, rfl, .inl rfl⟩
      dsimp only
      split
      · exact (beside_gatewayReply _ _ _ _).download ht
      · split
        · exact download_sendWait ((Stands.of_mem (mem_channelRecords.2 (linkedExchange_some hx).1)).on w _) ht
        · exact ht
    · exact h
  · exact h

theorem download_signalStale (i : Fin 4) (h : Download none s) : Download none (signalStale i s) := by
  unfold signalStale
  dsimp only
  split
  · exact download_reportConditions _ (h.moved (fun _ => rfl) rfl)
  · exact h

theorem download_secondOver (n : Nat) (h : Download none s) : Download none (secondOver n s) := by
  unfold secondOver
  split
  · exact h
  · split
    · exact h
    · split
      · unfold grantExpired
        have ht : Download none (updateGrant n (fun x => { x with remaining := 0 }) s) := h.moved (fun _ => rfl) rfl
        split
        · exact download_endGrant _ _ ht
        · exact download_endGrant _ _ ht
        · exact (beside_updateGrant _ _ _).download ht
      · exact (beside_updateGrant _ _ s).download h

/-! ### The lines (R11, R12, R103) -/

theorem download_ignonChanges (level : Bool) (h : Download none s) : Download none (ignonChanges level s) := by
  unfold ignonChanges
  split
  · exact h
  · exact download_reportConditions _ (h.moved (fun _ => rfl) rfl)

theorem download_debounced (h : Download none s) : Download none (debounced s) := by
  unfold debounced
  dsimp only
  split
  · exact h.moved (fun _ => rfl) rfl
  · exact download_presenceLost (h.moved (fun _ => rfl) rfl)

theorem download_sampleTooldet (level : Bool) (h : Download none s) : Download none (sampleTooldet level s) := by
  have sampled : ∀ n, Download none
      (if 200 ≤ n then debounced { s with lines := { s.lines with raw := level, debounce := n } }
        else { s with lines := { s.lines with raw := level, debounce := n } }) := fun n => by
    split
    · exact download_debounced (h.moved (fun _ => rfl) rfl)
    · exact h.moved (fun _ => rfl) rfl
  exact sampled _

theorem download_debounceCompletes (h : Download none s) : Download none (debounceCompletes s) := by
  unfold debounceCompletes
  split
  · exact h
  · exact download_debounced h

/-! ### Requests that end grants (R89, R102, R163) -/

theorem download_grantRevoke (x : MgmtExchange) (h : Download none s) : Download none (grantRevoke x s) := by
  unfold grantRevoke
  dsimp only
  split
  · exact (beside_accept _ _ _).download (download_endGrants _ _ h)
  · split
    · exact (beside_refuse _ _ s).download h
    · exact (beside_accept _ _ _).download (download_endGrant _ _ h)

theorem download_restartRequest (m : Mgmt) (x : MgmtExchange) (h : Download none s) :
    Download none (restartRequest m x s) := by
  unfold restartRequest
  dsimp only
  split
  · exact (beside_refuse _ _ s).download h
  · split
    · exact (beside_refuse _ _ s).download h
    · refine Download.moved (s := endGrants _ _ _) (download_endGrants _ _ ((beside_setWork _ _ _).download ?_))
        (fun _ => rfl) rfl
      exact h.moved (fun _ => rfl) rfl

theorem download_credentialWithdrawn (i : Fin 8) (c : Option Nat) (n : Nat) (h : Download none s) :
    Download none (credentialWithdrawn i c n s) := by
  have drop : ∀ t, Beside t (dropChallenge i t) := fun t => by
    unfold dropChallenge
    split
    · split
      · exact beside_of (fun _ => rfl) rfl
      · exact .refl t
    · exact .refl t
  unfold credentialWithdrawn
  dsimp only
  refine (beside_answer _ _ _).download (download_endGrants _ _ ((drop _).download ((beside_appendEntry _ _ _ _ _).download ?_)))
  exact h.moved (fun _ => rfl) rfl

theorem download_credentialWithdrawComplete (pass : Bool) (h : Download none s) :
    Download none (credentialWithdrawComplete pass s) := by
  unfold credentialWithdrawComplete
  split
  · next i c n rest _ =>
    have ht : Download none (setQueue rest s) := h.moved (fun _ => rfl) rfl
    refine (beside_beginQueue _ _).download ?_
    cases pass
    · exact (beside_storeFailed _ _ _).download ht
    · exact download_credentialWithdrawn i c n ht
  · exact h

/-! ### Working tables (R76, R85, R159, R161) -/

theorem download_applyEntry (e : TableEntry) (h : Download none s) : Download none (applyEntry e s) := by
  unfold applyEntry
  split
  · exact (beside_applyPorts _ s).download h
  · exact h.moved (fun _ => rfl) rfl
  · exact h.moved (fun _ => rfl) rfl
  · next i p =>
    have ht : Download none { s with tables := s.tables.withEntry (.policy i p) } := h.moved (fun _ => rfl) rfl
    dsimp only
    split
    · exact download_testWindows ht
    · exact ht
  · exact download_reportConditions _ (h.moved (fun _ => rfl) rfl)
  · exact h.moved (fun _ => rfl) rfl
  · exact h.moved (fun _ => rfl) rfl

theorem download_writeWorking (m : Mgmt) (x : MgmtExchange) (h : Download none s) : Download none (writeWorking m x s) := by
  unfold writeWorking
  repeat' split
  all_goals with_reducible first
    | exact (beside_refuse _ _ s).download h
    | exact (beside_accept _ _ _).download (download_applyEntry _ h)

theorem download_reloadEffects (k : TableId) (tb : Tables) (h : Download none s) :
    Download none (reloadEffects k tb s) := by
  unfold reloadEffects
  split
  · exact (beside_applyPorts _ s).download h
  · exact download_testWindows (h.moved (fun _ => rfl) rfl)
  · exact download_reportConditions _ (h.moved (fun _ => rfl) rfl)
  · exact h.moved (fun _ => rfl) rfl
  · exact h.moved (fun _ => rfl) rfl

theorem download_loadTable (k : TableId) (h : Download none s) : Download none (loadTable s k) := by
  have hr := download_reloadEffects k (reloaded s k) h
  unfold loadTable
  dsimp only
  split
  · exact hr.moved (fun _ => rfl) rfl
  · exact hr.moved (fun _ => rfl) rfl

theorem download_tableReload (m : Mgmt) (x : MgmtExchange) (h : Download none s) : Download none (tableReload m x s) := by
  unfold tableReload
  repeat' split
  all_goals with_reducible first
    | exact (beside_refuse _ _ s).download h
    | exact (beside_accept _ _ _).download (download_loadTable _ h)

end Sys2Proof.Machine
end

section
/-! The laws of R112: every step keeps the windows' law, and the law over the downloads. -/

namespace Sys2Proof.Machine

open Sys2Proof Sys2Proof.Safety

variable {s t : State}

/-! ### The tick and the starts -/

/-- A record a tick later. -/
def ChannelExchange.tick (x : ChannelExchange) : ChannelExchange :=
  { x with seg := x.seg.tick, timer := x.timer.tick, gapTimer := countDown x.gapTimer }

theorem sameStep_tick (x : ChannelExchange) : SameStep x x.tick := ⟨rfl, rfl, rfl, rfl, rfl, rfl⟩

theorem alike_tick (v : Window) : Alike v v.tick := ⟨rfl, .rfl, rfl, rfl, .inl rfl⟩

theorem tickAwake_records (s : State) : channelRecords (tickAwake s) = (channelRecords s).map ChannelExchange.tick := by
  simp only [channelRecords, tickAwake, List.filterMap_map, List.map_filterMap]
  refine List.filterMap_congr fun e _ => ?_
  cases e <;> rfl

theorem download_tickAwake (h : Download none s) : Download none (tickAwake s) := by
  have hw : ∀ w v, (tickAwake s).window w = some v → ∃ y, s.window w = some y ∧ v = y.tick := fun w v hv => by
    rw [tickAwake_window] at hv
    obtain ⟨y, hy, e⟩ := Option.map_eq_some_iff.1 hv
    exact ⟨y, hy, e.symm⟩
  have hr : ∀ z, z ∈ channelRecords (tickAwake s) ↔ ∃ x ∈ channelRecords s, x.tick = z := fun z => by
    rw [tickAwake_records, List.mem_map]
  refine ⟨?_, ?_, fun w v hv => ?_, fun w v hv hp _ => ?_, fun z hz w hzw => ?_, fun z hz w v hzw hv _ => ?_⟩
  · rw [tickAwake_records, List.map_map]
    exact h.ids
  · rw [tickAwake_records, List.map_map]
    exact h.channels
  · obtain ⟨y, hy, rfl⟩ := hw w v hv
    exact (alike_tick y).runFits (h.run w y hy)
  · obtain ⟨y, hy, rfl⟩ := hw w v hv
    obtain ⟨x, hx, hxw, hro⟩ := h.opening w y hy hp (by simp)
    exact ⟨x.tick, (hr _).2 ⟨x, hx, rfl⟩, hxw, hro⟩
  · obtain ⟨x, hx, rfl⟩ := (hr z).1 hz
    obtain ⟨y, hy, hb⟩ := h.base x hx w hzw
    exact ⟨y.tick, by rw [tickAwake_window, hy]; rfl, (sameStep_tick x).base ((alike_tick y).base hb)⟩
  · obtain ⟨x, hx, rfl⟩ := (hr z).1 hz
    obtain ⟨y, hy, rfl⟩ := hw w v hv
    exact (sameStep_tick x).fits ((alike_tick y).fits (h.fits x hx w y hzw hy (by simp)))

theorem download_tick (h : Download none s) : Download none (tick s) := by
  rw [tick_eq]
  split
  · exact (download_tickAwake h).moved (fun _ => rfl) rfl
  · exact h.moved (fun _ => rfl) rfl

/-- A start leaves no window and no exchange. -/
theorem download_clear (hx : t.exchanges = []) (hw : ∀ w, t.window w = none) : Download none t := by
  have hr : channelRecords t = [] := by rw [channelRecords, hx]; rfl
  have none : ∀ {w v}, t.window w = some v → False := fun {w v} hv => by rw [hw w] at hv; cases hv
  refine ⟨by simp [hr], by simp [hr], fun w v hv => (none hv).elim, fun w v hv => (none hv).elim, ?_, ?_⟩ <;> simp [hr]

theorem download_coldStart (lines : Levels) (s : State) : Download none (coldStart lines s) := download_clear rfl clear_window

theorem download_hotStart (lines : Levels) (s : State) : Download none (hotStart lines s) := download_clear rfl clear_window

/-! ### Every command -/

theorem download_whenAwake {f : State → State} (h : Download none s) (hf : Download none s → Download none (f s)) :
    Download none (whenAwake s f) := by
  unfold whenAwake
  split
  · exact hf h
  · exact h

theorem download_serve {m : Mgmt} {code : Nat} {f : MgmtExchange → State → State} (h : Download none s)
    (hf : ∀ x, Download none s → Download none (f x s)) : Download none (serve m code f s) := by
  unfold serve
  split
  · exact hf _ h
  · exact h

/-- A command of a request that leaves windows and exchanges alone, and one of the part. -/
theorem download_served {m : Mgmt} {code : Nat} {f : MgmtExchange → State → State} (h : Download none s)
    (hf : ∀ x, Beside s (f x s)) : Download none (serve m code f s) :=
  download_serve h fun x h => (hf x).download h

theorem download_done {f : State → State} (h : Download none s) (hf : Beside s (f s)) : Download none (whenAwake s f) :=
  download_whenAwake h hf.download

theorem exec_download (c : Instr) (hs : exchangeLaw s) (h : Download none s) :
    ∃ t, exec c s = .next t ∧ Download none t := by
  cases c with
  | coldStart lines => exact ⟨_, rfl, download_coldStart lines s⟩
  | hotStart lines =>
    refine ⟨_, rfl, ?_⟩
    split
    · exact download_hotStart lines s
    · exact h
  | wake _ lines =>
    refine ⟨_, rfl, ?_⟩
    split
    · exact h
    · exact download_hotStart lines s
  | frameReceived p f => exact ⟨_, rfl, download_done h (beside_receive p f s)⟩
  | routerTakesFrame p => exact ⟨_, rfl, download_whenAwake h (download_routerTakes p hs)⟩
  | mirrorIntervalExpiry i => exact ⟨_, rfl, download_done h (beside_mirrorExpired i s)⟩
  | headFrameRelease n => exact ⟨_, rfl, download_done h (beside_testHead n s)⟩
  | meterRefill => exact ⟨_, rfl, download_done h ((beside_refill .E s).trans (beside_refill .C _))⟩
  | frameSent p => exact ⟨_, rfl, download_whenAwake h (download_frameSent p)⟩
  | transmissionLost p => exact ⟨_, rfl, download_done h (beside_transmissionLost p s)⟩
  | transmissionFailed p => exact ⟨_, rfl, download_whenAwake h (download_transmissionFailed p)⟩
  | portRecovery p => exact ⟨_, rfl, download_done h (beside_recover p s)⟩
  | bitRateChangeEffect p => exact ⟨_, rfl, download_done h (beside_setPort p _ s)⟩
  | ignonChange level => exact ⟨_, rfl, download_whenAwake h (download_ignonChanges level)⟩
  | stlockChange level => exact ⟨_, rfl, download_done h (beside_of (fun _ => rfl) rfl)⟩
  | tooldetRawChange level => exact ⟨_, rfl, download_whenAwake h (download_sampleTooldet level)⟩
  | tooldetDebounceComplete => exact ⟨_, rfl, download_whenAwake h download_debounceCompletes⟩
  | quietTimerExpiry => exact ⟨_, rfl, download_whenAwake h fun h => (beside_sleepTest _).download (h.moved (fun _ => rfl) rfl)⟩
  | enterAsleep => exact ⟨_, rfl, download_done h (beside_sleepTest s)⟩
  | replyTimerExpiry c => exact ⟨_, rfl, download_whenAwake h (download_replyExpired c)⟩
  | segmentTimerExpiry r => exact ⟨_, rfl, download_whenAwake h (download_segmentExpired r)⟩
  | gapFollowOffer r => exact ⟨_, rfl, download_whenAwake h (download_gapPassed r)⟩
  | sideAnswerBegins m => exact ⟨_, rfl, download_done h (beside_sideBegins m s)⟩
  | managementReplyBegins m => exact ⟨_, rfl, download_done h (beside_managementReplyBegins m s)⟩
  | identityRead m => exact ⟨_, rfl, download_served h fun x => beside_accept x _ s⟩
  | statusRead m => exact ⟨_, rfl, download_serve h fun x h => (beside_accept x _ _).download (h.moved (fun _ => rfl) rfl)⟩
  | attentionRead m => exact ⟨_, rfl, download_serve h fun x h => (beside_accept x _ _).download (h.moved (fun _ => rfl) rfl)⟩
  | countersRead m => exact ⟨_, rfl, download_served h fun x => beside_countersRead x s⟩
  | trafficList m => exact ⟨_, rfl, download_served h fun x => beside_accept x _ s⟩
  | grantList m => exact ⟨_, rfl, download_served h fun x => beside_accept x _ s⟩
  | tableRead m => exact ⟨_, rfl, download_served h fun x => beside_tableRead x s⟩
  | recordRead m => exact ⟨_, rfl, download_served h fun x => beside_accept x _ s⟩
  | accessRequest m => exact ⟨_, rfl, download_served h fun x => beside_accessRequest m x s⟩
  | accessProof m => exact ⟨_, rfl, download_served h fun x => beside_accessProof m x s⟩
  | grantExtend m => exact ⟨_, rfl, download_served h fun x => beside_grantExtend m x s⟩
  | grantRevoke m => exact ⟨_, rfl, download_serve h fun x => download_grantRevoke x⟩
  | credentialWrite m => exact ⟨_, rfl, download_served h fun x => beside_credentialWrite m x s⟩
  | credentialWithdraw m => exact ⟨_, rfl, download_served h fun x => beside_credentialWithdraw m x s⟩
  | tableWriteWorking m =>
    refine ⟨_, rfl, download_serve h fun x h => ?_⟩
    split
    · exact h
    · exact download_writeWorking m x h
  | tableWriteStored m =>
    refine ⟨_, rfl, download_serve h fun x h => ?_⟩
    split
    · exact (beside_writeStored m x s).download h
    · exact h
  | tableReload m => exact ⟨_, rfl, download_serve h fun x => download_tableReload m x⟩
  | lockPolicyWrite m => exact ⟨_, rfl, download_served h fun x => beside_lockPolicyWrite m x s⟩
  | recordAcknowledge m => exact ⟨_, rfl, download_served h fun x => beside_recordAcknowledge m x s⟩
  | restart m => exact ⟨_, rfl, download_serve h fun x => download_restartRequest m x⟩
  | restartReplyOffered => exact ⟨_, rfl, download_done h (beside_restartReply s)⟩
  | appendComplete pass => exact ⟨_, rfl, download_done h (beside_appendComplete pass s)⟩
  | failureCountWriteComplete pass => exact ⟨_, rfl, download_done h (beside_failureCountWriteComplete pass s)⟩
  | tableEntryWriteComplete pass => exact ⟨_, rfl, download_done h (beside_tableEntryWriteComplete pass s)⟩
  | credentialWriteComplete pass => exact ⟨_, rfl, download_done h (beside_credentialWriteComplete pass s)⟩
  | credentialWithdrawComplete pass => exact ⟨_, rfl, download_whenAwake h (download_credentialWithdrawComplete pass)⟩
  | lockPolicyWriteComplete pass => exact ⟨_, rfl, download_done h (beside_lockPolicyWriteComplete pass s)⟩
  | trimComplete pass => exact ⟨_, rfl, download_done h (beside_trimComplete pass s)⟩
  | challengeValidityExpiry => exact ⟨_, rfl, download_done h (beside_of (fun _ => rfl) rfl)⟩
  | digestComplete => exact ⟨_, rfl, download_done h (beside_digestComplete s)⟩
  | lockoutExpiry => exact ⟨_, rfl, download_done h (beside_lockoutOver s)⟩
  | grantSecondsTimerExpiry g => exact ⟨_, rfl, download_whenAwake h (download_secondOver g.val)⟩
  | acclmpToggle => exact ⟨_, rfl, download_done h (beside_of (fun _ => rfl) rfl)⟩
  | graceTimerExpiry w => exact ⟨_, rfl, download_whenAwake h (download_graceExpired w)⟩
  | holdTimerExpiry w => exact ⟨_, rfl, download_whenAwake h (download_holdExpired w)⟩
  | idleTimerExpiry w => exact ⟨_, rfl, download_whenAwake h (download_idleExpired w)⟩
  | stalenessTimerExpiry i => exact ⟨_, rfl, download_whenAwake h (download_signalStale i)⟩
  | partTimeTick => exact ⟨_, rfl, h.moved (fun _ => rfl) rfl⟩

theorem step_download (hs : exchangeLaw s) (h : Download none s) (ht : step s = .next t) : Download none t := by
  obtain ⟨-, rfl⟩ | ⟨c, -, hc⟩ := step_cases ht
  · exact download_tick h
  · obtain ⟨u, hu, hd⟩ := exec_download (s := s.popped) c hs (h.moved (fun _ => rfl) rfl)
    obtain rfl : u = t := Host.Outcome.next.inj (hu.symm.trans hc)
    exact hd

/-- Settles O11: each thing a step is made of keeps the windows' law; every command keeps the invariant that says, of a
list under its law, what the law over the downloads says. -/
theorem everyStepKeepsTheWindowLaw : Obligations.EveryStepKeepsTheWindowLaw := by
  refine ⟨fun _ _ hs ht => (keeps_windowLaw (k := nothingKnown)).step nofun nofun nofun nofun id trivial hs ht,
    fun s t hx _ hd ht => ?_⟩
  exact (download_iff (everyStepKeepsTheExchangeListLaw s t hx ht)).2 (step_download hx ((download_iff hx).1 hd) ht)

end Sys2Proof.Machine
end
